-- ==== Sys2Proof/Word.lean ====
section
/-! DEFINITION. The words the part is made of: the bytes and 16-bit fields of telegrams and of the
configuration record, the 12-bit readings of the analog inputs, and the 4-bit station number. -/

namespace Sys2Proof

/-- A byte of a telegram or of the configuration record (chapter 11). -/
abbrev Byte := BitVec 8

/-- A two-byte field, sent most significant byte first (chapter 11). -/
abbrev Word := BitVec 16

/-- A converted analog input, 0 to 4095 (chapter 11, section 11.5). -/
abbrev Adc := BitVec 12

/-- A station number, 0 to 15; 0 is unconfigured (R185). -/
abbrev Station := BitVec 4

end Sys2Proof
end

