-- ==== Sys2Proof/Config.lean ====
section
/-! DEFINITION. What is fixed for a run of the part: the parameters each controller takes from the
configuration record (already brought into their ranges), the profile a failed record gives, the
part's own timings, and the free values the specification leaves open. -/

namespace Sys2Proof

/-- The letter of a leisure bank (chapter 1). -/
inductive BankLetter where
  | a | b
  deriving DecidableEq, Repr

/-- A heating mode (R70); the codes are those of CLIMATE (chapter 11). -/
inductive ZoneMode where
  | off | frostGuard | eco | comfort
  deriving DecidableEq, Repr

/-- The configured sense of an end stop (R113). -/
inductive StopSense where
  | rising | falling | both
  deriving DecidableEq, Repr

/-- Which edges of a light switch input toggle the latch (R142). -/
inductive SwitchSense where
  | none | rising | falling | both
  deriving DecidableEq, Repr

/-- The two actuators of the motion controller (R112). -/
inductive Actuator where
  | awning | step
  deriving DecidableEq, Repr

/-- The two end stops of an actuator (R113). -/
inductive StopEnd where
  | inStop | outStop
  deriving DecidableEq, Repr

/-- The four load classes (chapter "Load classes"; R47). -/
inductive LoadClass where
  | c0 | c1 | c2 | c3
  deriving DecidableEq, Repr

/-- One value for each load class. -/
structure PerClass (α : Type) where
  c0 : α
  c1 : α
  c2 : α
  c3 : α
  deriving DecidableEq, Repr

/-- A point of a lookup table: argument and value (Conventions, "Arithmetic"). -/
structure Point where
  x : Int
  y : Int
  deriving DecidableEq, Repr

/-- The bank monitor's parameters (R2). -/
structure BankParams where
  letter        : BankLetter
  cn            : Nat          -- Ah, 10 to 1000
  eta           : Nat          -- 256ths, 200 to 256
  derate        : List Point   -- tenths of a degree to 1024ths
  ocv           : List Point   -- mV to per-mille
  restThreshold : Nat          -- 10 mA
  restTime      : Nat          -- s, 600 to 65535
  limit         : Nat          -- 100 mA
  deriving DecidableEq, Repr

/-- A zone's parameters (R69). -/
structure ZoneParams where
  hosted      : Bool
  defaultMode : ZoneMode
  kp          : Nat
  ki          : Nat
  rated       : Nat
  deriving DecidableEq, Repr

/-- A tank's parameters: whether it is hosted, and its calibration table (R87). -/
structure TankParams where
  hosted : Bool
  table  : List Point
  deriving DecidableEq, Repr

/-- The water controller's parameters, after the hosting rule of R86 (R86, R87). -/
structure WaterParams where
  fresh       : TankParams
  grey        : TankParams
  black       : TankParams
  pump        : Bool
  frost       : Bool
  pumpRated   : Nat
  heaterRated : Nat
  valveRated  : Nat
  deriving DecidableEq, Repr

/-- An actuator's parameters (R111). -/
structure ActuatorParams where
  hosted   : Bool
  length   : Nat    -- hall pulses, 1 to 65535
  timeout  : Nat    -- s, 1 to 255
  outLimit : Nat    -- 100 mA
  inLimit  : Nat    -- 100 mA
  rated    : Nat    -- 100 mA
  inSense  : StopSense
  outSense : StopSense
  deriving DecidableEq, Repr

/-- The wind meter's parameters, after the hosting rule of R111. -/
structure WindParams where
  hosted    : Bool
  kw        : Nat
  threshold : Nat
  deriving DecidableEq, Repr

/-- A light channel's parameters (R142). -/
structure ChannelParams where
  hosted       : Bool
  courtesy     : Bool
  rated        : Nat
  defaultLevel : Nat
  truth        : Byte
  ceiling      : Nat
  fadeStep     : Nat
  sense        : SwitchSense
  deriving DecidableEq, Repr

/-- A scene record: membership and one level per channel (R147). -/
structure SceneParams where
  members : Byte
  levels  : Vector Nat 8
  deriving DecidableEq, Repr

/-- Everything the blocks take from the configuration record at start (R2, R42 to R44, R47, R69,
R86, R87, R111, R142, R147, R179). `bank` is absent when the record names no bank (R1).
`levelShedding` is clear only in the fallback profile, which holds shed flags 1 to 3 clear (R188).
The class 0 entries of `pause` and `resume` are unused: class 0 has no such levels (R42). -/
structure Params where
  bank           : Option BankParams
  tempTable      : List Point
  allowance      : List Point
  pause          : PerClass Nat
  resume         : PerClass Nat
  share          : PerClass Nat
  fallbackBudget : Nat
  mask           : Word
  levelShedding  : Bool
  zones          : Vector ZoneParams 4
  water          : WaterParams
  awning         : ActuatorParams
  step           : ActuatorParams
  wind           : WindParams
  gateway        : Bool
  channels       : Vector ChannelParams 8
  scenes         : Vector SceneParams 8
  deriving DecidableEq, Repr

/-- A zone that is not hosted. -/
def ZoneParams.absent : ZoneParams :=
  { hosted := false, defaultMode := .off, kp := 0, ki := 0, rated := 0 }

/-- A tank that is not hosted. -/
def TankParams.absent : TankParams := { hosted := false, table := [] }

/-- A station without water functions. -/
def WaterParams.absent : WaterParams :=
  { fresh := TankParams.absent, grey := TankParams.absent, black := TankParams.absent
    pump := false, frost := false, pumpRated := 0, heaterRated := 0, valveRated := 0 }

/-- An actuator that is not hosted. -/
def ActuatorParams.absent : ActuatorParams :=
  { hosted := false, length := 1, timeout := 1, outLimit := 0, inLimit := 0, rated := 0
    inSense := .rising, outSense := .rising }

/-- A wind meter that is not hosted. -/
def WindParams.absent : WindParams := { hosted := false, kw := 1, threshold := 1 }

/-- A light channel that is not hosted. -/
def ChannelParams.absent : ChannelParams :=
  { hosted := false, courtesy := false, rated := 0, defaultLevel := 1, truth := 0#8
    ceiling := 0, fadeStep := 1, sense := .none }

/-- An empty scene record. -/
def SceneParams.absent : SceneParams := { members := 0#8, levels := Vector.replicate 8 0 }

/-- The default allowance table g of R43: state of charge in per-mille to 256ths. -/
def defaultAllowance : List Point := [⟨100, 0⟩, ⟨300, 128⟩, ⟨600, 230⟩, ⟨900, 256⟩]

/-- The fallback profile (R188): nothing hosted, an empty event mask, the default allowance table, a
fallback budget of 0, every share 256, and the shed flags held clear. It also stands for the
parameters before a record has been read, when no block runs. -/
def Params.fallback : Params :=
  { bank := none, tempTable := [], allowance := defaultAllowance
    pause := ⟨0, 0, 0, 0⟩, resume := ⟨0, 0, 0, 0⟩, share := ⟨256, 256, 256, 256⟩
    fallbackBudget := 0, mask := 0#16, levelShedding := false
    zones := Vector.replicate 4 ZoneParams.absent, water := WaterParams.absent
    awning := ActuatorParams.absent, step := ActuatorParams.absent, wind := WindParams.absent
    gateway := false, channels := Vector.replicate 8 ChannelParams.absent
    scenes := Vector.replicate 8 SceneParams.absent }

/-- The parameters of one actuator. -/
def Params.actuator (p : Params) : Actuator → ActuatorParams
  | .awning => p.awning
  | .step   => p.step

/-! The part's own timings, in milliseconds, each from the rule named. -/
namespace Config

/-- The line cells of 20 µs in a millisecond (R159). -/
def cellsPerMs : Nat := 50
/-- The cells of a header: the start cell and 16 bits (R160). -/
def headerCells : Nat := 17
/-- Longest time for the 256 bytes of the record to come in (R186). -/
def recordReadMs : Nat := 50
/-- Wait before the second read of the record (R186). -/
def recordRetryMs : Nat := 10
/-- The listen interval (R189). -/
def listenMs : Nat := 3000
/-- Bank sample period (R3). -/
def sampleMs : Nat := 250
/-- Derate re-evaluation period (R4). -/
def derateMs : Nat := 10000
/-- BATTERY period (R21). -/
def batteryMs : Nat := 1000
/-- A peer entry becomes STALE (R28). -/
def staleMs : Nat := 3000
/-- A peer entry is removed (R29). -/
def removalMs : Nat := 10000
/-- Budget-shed hold (R63). -/
def holdMs : Nat := 30000
/-- CLAIM spacing (R66). -/
def claimSpacingMs : Nat := 200
/-- CLAIM heartbeat (R66). -/
def claimHeartbeatMs : Nat := 2000
/-- Zone evaluation period (R71). -/
def zonePeriodMs : Nat := 10000
/-- Step of the heater window counter (R77). -/
def windowStepMs : Nat := 250
/-- Tank period (R89). -/
def tankPeriodMs : Nat := 1000
/-- Continuous pump running that sets dry-lock (R98). -/
def pumpRunMs : Nat := 120000
/-- Frost dwell (R103, R104). -/
def frostDwellMs : Nat := 600000
/-- TANKS spacing (R108). -/
def tanksSpacingMs : Nat := 200
/-- TANKS heartbeat (R108). -/
def tanksHeartbeatMs : Nat := 5000
/-- Stall timer length (R121). -/
def stallMs : Nat := 500
/-- Overcurrent timer length (R122). -/
def overcurrentMs : Nat := 200
/-- Reverse pause (R116, R117). -/
def pauseMs : Nat := 300
/-- Anemometer silence (R134). -/
def windSilenceMs : Nat := 2000
/-- MOTION heartbeat (R139). -/
def motionHeartbeatMs : Nat := 2000
/-- Fade tick period (R150). -/
def fadeMs : Nat := 20

/-- FREE VALUE (assumption 6). The fields of CLIMATE and MOTION that belong to a zone or actuator that
is not hosted: R84 and R140 give the code "not hosted" and no value for the mode, temperature and
duty, or the position, faults and hold, beside it. The argument is `State.freeCount`. -/
opaque unstatedField : Nat → BitVec 24

end Config

end Sys2Proof
end

