-- ==== Sys2Proof/Syntax.lean ====
section
/-! DEFINITION. The commands the part takes, one constructor for each row of the opcode table: the two
resets, the timers' expiries, the sampling events, the input edges, the requests, and the events of
the cabin line. A command that reads an input carries the reading. -/

namespace Sys2Proof

/-- What a read of the configuration record brought: the bytes, or a failure (no acknowledge, or a held
bus; R186). -/
inductive ReadResult where
  | completed (bytes : List Byte)
  | failed
  deriving DecidableEq, Repr

/-- The inputs the blocks read at their start (R15, R71, R89, R94, R141): the converted bank current
(10 mA) and voltage (mV), the analog readings, the pressure switch (closed), and the levels of the
four end stops (high). -/
structure StartInputs where
  current    : Int
  voltage    : Nat
  bankTemp   : Adc
  zoneTemps  : Vector Adc 4
  fresh      : Adc
  grey       : Adc
  black      : Adc
  tankTemp   : Adc
  pressure   : Bool
  awningIn   : Bool
  awningOut  : Bool
  stepIn     : Bool
  stepOut    : Bool
  deriving DecidableEq, Repr

/-- Who sent a REQUEST addressed to this station, and its tag (R176, R177). -/
structure Requester where
  origin : Station
  tag    : Byte
  deriving DecidableEq, Repr

/-- The three ways a frame fails while it is being received (R168). -/
inductive ReceiveFault where
  | malformedCell | earlyEnd | lengthAbove12
  deriving DecidableEq, Repr

/-- The commands of the HC24, in the order of the opcode table. -/
inductive Instr where
  /-- POWER_ON_RESET (R191): with the levels of the four straps, strap 3 the top bit. -/
  | powerOnReset (straps : Station)
  /-- RESET_PIN_RESET (R191): with the levels of the four straps. -/
  | resetPinReset (straps : Station)
  /-- RECORD_READ_COMPLETE (R186): the first read of the record ends. -/
  | recordReadComplete (result : ReadResult) (inputs : StartInputs)
  /-- RECORD_READ_RETRY (R186): the second read of the record ends. -/
  | recordReadRetry (result : ReadResult) (inputs : StartInputs)
  /-- LISTEN_INTERVAL_END (R189). -/
  | listenIntervalEnd
  /-- STORAGE_SET (R190): the request's argument byte. -/
  | storageSet (rq : Requester) (value : Byte)
  /-- BANK_SAMPLE (R3): the converted current in 10 mA and voltage in mV, before clamping. -/
  | bankSample (current : Int) (voltage : Nat)
  /-- DERATE_EVALUATION (R4): the reading of the bank temperature input. -/
  | derateEvaluation (reading : Adc)
  /-- BATTERY_PERIOD (R21). -/
  | batteryPeriod
  /-- PEER_STALE (R28): of the entry with this station number. -/
  | peerStale (station : Station)
  /-- PEER_REMOVAL (R29): of the entry with this station number. -/
  | peerRemoval (station : Station)
  /-- OVER_BUDGET_DWELL_EXPIRY (R62). -/
  | overBudgetDwellExpiry
  /-- BUDGET_SHED_HOLD_EXPIRY (R63): of this load record. -/
  | budgetShedHoldExpiry (load : Fin 17)
  /-- CLAIM_DUE (R66). -/
  | claimDue
  /-- CLAIM_HEARTBEAT (R66). -/
  | claimHeartbeat
  /-- ZONE_EVALUATION (R71): the readings of the four zone sensors. -/
  | zoneEvaluation (readings : Vector Adc 4)
  /-- HEATER_WINDOW_STEP (R77). -/
  | heaterWindowStep
  /-- ZONE_SET (R78): zone, mode code and setpoint (signed tenths of a degree). -/
  | zoneSet (rq : Requester) (zone mode : Byte) (setpoint : Word)
  /-- TANK_PERIOD (R89): the sender readings and the fresh-tank temperature reading. -/
  | tankPeriod (fresh grey black temp : Adc)
  /-- PRESSURE_SWITCH_EDGE (R94): closing or opening. -/
  | pressureSwitchEdge (closing : Bool)
  /-- PUMP_RUN_TIMER_EXPIRY (R98). -/
  | pumpRunTimerExpiry
  /-- FROST_DWELL_EXPIRY (R104). -/
  | frostDwellExpiry
  /-- PUMP_SET (R99): the argument byte. -/
  | pumpSet (rq : Requester) (value : Byte)
  /-- VALVE_CLOSE (R106). -/
  | valveClose (rq : Requester)
  /-- TANKS_DUE (R108). -/
  | tanksDue
  /-- TANKS_HEARTBEAT (R108). -/
  | tanksHeartbeat
  /-- STOP_ARRIVAL (R118): an end stop becomes active. -/
  | stopArrival (actuator : Actuator) (stop : StopEnd)
  /-- STOP_DEPARTURE (R119): an end stop becomes inactive. -/
  | stopDeparture (actuator : Actuator) (stop : StopEnd)
  /-- HALL_EDGE (R114). -/
  | hallEdge (actuator : Actuator)
  /-- TRAVEL_TIMEOUT (R121). -/
  | travelTimeout (actuator : Actuator)
  /-- STALL (R121). -/
  | stall (actuator : Actuator)
  /-- MOTOR_CURRENT_CROSSING (R122): the sensed current after the crossing, in 100 mA. -/
  | motorCurrentCrossing (actuator : Actuator) (current : Nat)
  /-- OVERCURRENT_EXPIRY (R122). -/
  | overcurrentExpiry (actuator : Actuator)
  /-- PAUSE_END (R117). -/
  | pauseEnd (actuator : Actuator)
  /-- ANEMOMETER_EDGE (R134). -/
  | anemometerEdge
  /-- WIND_SILENCE_EXPIRY (R134). -/
  | windSilenceExpiry
  /-- MOVE (R126, R127): actuator and direction bytes. -/
  | move (rq : Requester) (actuator direction : Byte)
  /-- HALT (R128): actuator byte. -/
  | halt (rq : Requester) (actuator : Byte)
  /-- HOLD_SET (R129): actuator byte and argument. -/
  | holdSet (rq : Requester) (actuator value : Byte)
  /-- FAULT_CLEAR (R125): actuator byte. -/
  | faultClear (rq : Requester) (actuator : Byte)
  /-- STOW (R136): the override flag of the telegram. -/
  | stow (override : Bool)
  /-- MOTION_HEARTBEAT (R139). -/
  | motionHeartbeat
  /-- SWITCH_EDGE (R146): of this channel's switch input, rising or falling. -/
  | switchEdge (channel : Fin 8) (rising : Bool)
  /-- SCENE (R147): the scene number of the telegram. -/
  | scene (number : Byte)
  /-- LIGHT_SET (R154): channel, on or off code, and level. -/
  | lightSet (rq : Requester) (channel code level : Byte)
  /-- FADE_TICK (R150). -/
  | fadeTick
  /-- EVENTS_CLEAR (R181): the set of events to clear. -/
  | eventsClear (rq : Requester) (set : Word)
  /-- DIAG_QUERY (R182): the page. -/
  | diagQuery (rq : Requester) (page : Byte)
  /-- REQUEST_OTHER (R175, R176): a whole REQUEST, its origin and payload. -/
  | requestOther (origin : Station) (payload : List Byte)
  /-- LINE_IDLE (R159). -/
  | lineIdle
  /-- LINE_FALLING_EDGE (R168): caused by another station. -/
  | lineFallingEdge
  /-- CONTENTION_LOSS (R163). -/
  | contentionLoss
  /-- TX_COLLISION (R164). -/
  | txCollision
  /-- FRAME_SENT (R165). -/
  | frameSent
  /-- RECEIVE_ERROR (R168). -/
  | receiveError (fault : ReceiveFault)
  /-- FRAME_RECEIVED (R169): the header, payload and check byte read from the line. -/
  | frameReceived (header : Word) (payload : List Byte) (check : Byte)
  /-- PWM_COUNTER_ADVANCE (R153). -/
  | pwmCounterAdvance
  deriving DecidableEq, Repr

end Sys2Proof
end

