-- ==== Sys2Proof/Decode.lean ====
section
/-! DEFINITION. The decoder of the table's words. The opcode table of this part gives no row any bits:
its rows are the part's operations and events, and none of them is a word. -/

namespace Sys2Proof

/-- The command a word spells by the table's bits: none, for every word, since no row has bits. -/
def decodeTableWord (_nbits _w : Nat) : Option Instr := none

end Sys2Proof
end

