-- ==== Sys2Proof/Machine/State.lean ====
section
/-! DEFINITION. The state of the part, block by block as the manual lists it, and its value right after a
power-on reset. Every timer counts the milliseconds since it was started, up to its end; a timer that
can be idle or absent is `none` then. -/

namespace Sys2Proof.Machine

/-! ## Start-up and configuration (chapter 10) -/

/-- Where the start stands: the record is being read, the wait before the second read runs, or the
blocks have started (R186, R189). -/
inductive BootPhase where
  | reading | retryWait | running
  deriving DecidableEq, Repr

/-- The start stage (R189). -/
inductive Stage where
  | listen | run
  deriving DecidableEq, Repr

/-- The start-up and configuration block. `readTimer` is the time since the first read began, or since
it failed (R186); `passed` is clear on the fallback profile (R188). -/
structure Boot where
  station     : Station
  phase       : BootPhase
  readTimer   : Nat
  record      : List Byte
  passed      : Bool
  stage       : Stage
  listenTimer : Nat
  storage     : Bool
  deriving DecidableEq, Repr

/-! ## Bank monitor (chapter 1) -/

/-- The Cn and bank letter a valid retained-state mark belongs to (R15, R17). -/
structure BankMark where
  cn     : Nat
  letter : BankLetter
  deriving DecidableEq, Repr

/-- The bank monitor. The three last fields time its periods (R3, R4, R21). -/
structure Bank where
  acc          : Nat
  derate       : Nat
  ceff         : Nat
  soc          : Nat
  current      : Int
  voltage      : Nat
  temp         : Int
  restTimer    : Nat
  quiet        : Bool
  estimated    : Bool
  mark         : Option BankMark
  sampleTimer  : Nat
  derateTimer  : Nat
  batteryTimer : Nat
  deriving DecidableEq, Repr

/-! ## Peer table (chapter 2) -/

/-- The battery part of an entry (R27). -/
structure BatteryPart where
  letter : BankLetter
  soc    : Nat
  limit  : Nat
  deriving DecidableEq, Repr

/-- The supply part of an entry (R27). -/
structure SupplyPart where
  shore      : Bool
  allowance  : Nat
  generation : Nat
  deriving DecidableEq, Repr

/-- The vehicle part of an entry (R27). -/
structure VehiclePart where
  ignition : Bool
  moving   : Bool
  deriving DecidableEq, Repr

/-- One peer entry (R23): its number, its age state, its silence timer, and its six optional parts. The
motion part says whether the step is out, the tanks part whether the grey tank is full (R27). -/
structure PeerEntry where
  station : Station
  stale   : Bool
  silence : Nat
  claim   : Option (PerClass Nat)
  battery : Option BatteryPart
  supply  : Option SupplyPart
  vehicle : Option VehiclePart
  motion  : Option Bool
  tanks   : Option Bool
  deriving DecidableEq, Repr

/-- The vehicle state fact (R35). -/
inductive VehicleState where
  | unknown
  | known (ignition moving : Bool)
  deriving DecidableEq, Repr

/-- The peer table: its entries in order of station number, the condition facts last handed on (R37),
and its counter (R29). -/
structure Peers where
  entries      : List PeerEntry
  lastVehicle  : VehicleState
  lastStepOut  : Bool
  lastGreyFull : Bool
  peersLost    : Nat
  deriving DecidableEq, Repr

/-! ## Budget unit (chapter 3) -/

/-- Why a load is SHED or REDUCED (R47). -/
inductive Reason where
  | level | budget
  deriving DecidableEq, Repr

/-- The state of a load record, with its reason (R47, R48). -/
inductive LoadState where
  | off | waiting | admitted
  | reduced (reason : Reason)
  | shed (reason : Reason)
  deriving DecidableEq, Repr

/-- One load record (R47); its index, kind and sheddable mark follow from its place in the table. -/
structure LoadRecord where
  cls   : LoadClass
  rated : Nat
  claim : Nat
  state : LoadState
  hold  : Option Nat
  deriving DecidableEq, Repr

/-- An item of the peer banks fact (R32). -/
structure PeerBank where
  station : Station
  letter  : BankLetter
  soc     : Nat
  limit   : Nat
  deriving DecidableEq, Repr

/-- The budget unit. `own` are the own claim totals; `peerBanks`, `supplySum`, `supplyKnown` and
`claimSums` are the peer inputs last handed over (R40). -/
structure Budget where
  ownBank     : Option BatteryPart
  peerBanks   : List PeerBank
  supplySum   : Nat
  supplyKnown : Bool
  claimSums   : PerClass Nat
  governing   : Option Nat
  shed        : PerClass Bool
  budget      : Nat
  caps        : PerClass Nat
  own         : PerClass Nat
  loads       : Vector LoadRecord 17
  retry       : List (Fin 17)
  admitted    : List (Fin 17)
  gateOpen    : Bool
  dwell       : Option Nat
  claimTimer  : Nat
  claimDue    : Bool
  levelSheds  : Nat
  budgetSheds : Nat
  deriving DecidableEq, Repr

/-! ## Zone controller (chapter 4) -/

/-- A zone record (R70) with its heater output (R77). -/
structure Zone where
  mode     : ZoneMode
  setpoint : Int
  saved    : Option ZoneMode
  temp     : Option Int
  faulted  : Bool
  integral : Int
  duty     : Nat
  load     : LoadState
  output   : Bool
  deriving DecidableEq, Repr

/-- The zone controller: its records, its period timer, and the shared window counter with the time to
its next step (R71, R77). -/
structure ZoneCtl where
  zones       : Vector Zone 4
  periodTimer : Nat
  windowTimer : Nat
  window      : BitVec 8
  deriving DecidableEq, Repr

/-! ## Water controller (chapter 5) -/

/-- The states of a tank (R88). -/
inductive TankState where
  | normal | low | empty | high | full | fault
  deriving DecidableEq, Repr

/-- A tank record (R88). -/
structure Tank where
  raw      : Option Nat
  filtered : Option Nat
  state    : TankState
  deriving DecidableEq, Repr

/-- The pump record (R94) with its output (R97). -/
structure Pump where
  demand   : Bool
  disabled : Bool
  dryLock  : Bool
  runTimer : Nat
  load     : LoadState
  output   : Bool
  deriving DecidableEq, Repr

/-- The frost record (R100) with the heater output (R101). The valve's output is energised while the
valve is open (R102). -/
structure Frost where
  temp      : Option Int
  faulted   : Bool
  demand    : Bool
  load      : LoadState
  output    : Bool
  dwell     : Option Nat
  valveOpen : Bool
  deriving DecidableEq, Repr

/-- The water controller. -/
structure Water where
  fresh        : Tank
  grey         : Tank
  black        : Tank
  periodTimer  : Nat
  moving       : Bool
  peerGreyFull : Bool
  pump         : Pump
  frost        : Frost
  tanksTimer   : Nat
  tanksDue     : Bool
  frostDumps   : Nat
  deriving DecidableEq, Repr

/-! ## Motion controller (chapter 6) -/

/-- The states of an actuator (R112). -/
inductive ActState where
  | stowed | extending | extended | retracting | stoppedMid | fault
  deriving DecidableEq, Repr

/-- The drive applied to a motor (R112). -/
inductive Drive where
  | off | outward | inward
  deriving DecidableEq, Repr

/-- Why the part itself started a retraction (R112). -/
inductive Cause where
  | vehicle | wind | stow
  deriving DecidableEq, Repr

/-- The parameters latched for a travel: its direction, current limit and timeout in seconds (R115). -/
structure Latched where
  drive   : Drive
  limit   : Nat
  timeout : Nat
  deriving DecidableEq, Repr

/-- The faults recorded since the last FAULT-CLEAR (R112). -/
structure FaultSet where
  travelTimeout : Bool
  stall         : Bool
  obstructed    : Bool
  conflict      : Bool
  deriving DecidableEq, Repr

/-- An actuator record (R112). -/
structure ActRec where
  state       : ActState
  position    : Nat
  motor       : Drive
  latched     : Option Latched
  travelTimer : Option Nat
  stallTimer  : Option Nat
  overTimer   : Option Nat
  pauseTimer  : Option Nat
  hold        : Bool
  releaseMark : Bool
  faults      : FaultSet
  cause       : Option Cause
  deriving DecidableEq, Repr

/-- The levels of the four end-stop pins, high or low (R113, chapter 11 section 11.5). -/
structure StopPins where
  awningIn  : Bool
  awningOut : Bool
  stepIn    : Bool
  stepOut   : Bool
  deriving DecidableEq, Repr

/-- The wind meter (R134). `lastCapture` is absent when the next edge is a first edge. -/
structure WindMeter where
  lastCapture : Option Nat
  speed       : Nat
  gusts       : Nat
  silence     : Option Nat
  deriving DecidableEq, Repr

/-- The motion controller. -/
structure Motion where
  awning         : ActRec
  step           : ActRec
  pins           : StopPins
  wind           : WindMeter
  vehicle        : VehicleState
  storage        : Bool
  motionTimer    : Nat
  actuatorFaults : Nat
  deriving DecidableEq, Repr

/-! ## Light controller (chapter 7) -/

/-- A channel record (R143) with its PWM output (R153). -/
structure Channel where
  setLevel : Nat
  latch    : Bool
  scene    : Bool
  on       : Bool
  load     : LoadState
  target   : Nat
  current  : Nat
  duty     : Nat
  output   : Bool
  deriving DecidableEq, Repr

/-- The light controller. -/
structure LightCtl where
  channels    : Vector Channel 8
  ownStepOut  : Bool
  peerStepOut : Bool
  forcedOff   : Bool
  fadeTimer   : Nat
  pwm         : BitVec 8
  deriving DecidableEq, Repr

/-! ## Line interface (chapter 8) -/

/-- The twelve telegram kinds (R160). -/
inductive Kind where
  | alert | stow | vehicle | request | reply | scene
  | supply | battery | claim | motion | tanks | climate
  deriving DecidableEq, Repr

/-- A telegram, complete with header and payload (R166). -/
structure Telegram where
  kind    : Kind
  header  : Word
  payload : List Byte
  deriving DecidableEq, Repr

/-- A telegram in the transmit queue or the send register: its age, as its place in the order in which
entries were created, and its attempt count (R166). -/
structure TxEntry where
  telegram : Telegram
  age      : Nat
  attempts : Nat
  deriving DecidableEq, Repr

/-- What the receiver is doing with the line (R168). -/
inductive Receiver where
  | waiting | receiving | discarding
  deriving DecidableEq, Repr

/-- What the sender is doing (R162 to R165). -/
inductive Sender where
  | idle | header | body
  deriving DecidableEq, Repr

/-- The line interface. `sentCells` counts the cells of the frame being sent, from its start cell to its last
header bit (R159, R163). `nextAge` numbers the next queue entry. -/
structure Line where
  idle             : Bool
  receiver         : Receiver
  register         : Option TxEntry
  sender           : Sender
  sentCells        : Nat
  queue            : List TxEntry
  nextAge          : Nat
  rxCheck          : Nat
  rxFormat         : Nat
  rxClash          : Nat
  contentionLosses : Nat
  txCollisions     : Nat
  txExhausted      : Nat
  txDropped        : Nat
  deriving DecidableEq, Repr

/-! ## Request and event unit (chapter 9) -/

/-- The 16 event flags and the event mask; bit n is event n. -/
structure EventUnit where
  flags : Word
  mask  : Word
  deriving DecidableEq, Repr

/-! ## The part -/

/-- The state of the part. `params` are the parameters the blocks took from the record; `clock` is the
free-running 1 ms counter (R134); `cells` counts the line's cells of 20 µs in the present millisecond;
`freeCount` counts the free values drawn and `pending` holds the commands that are waiting, first in,
first out: these three are the model's own. -/
structure State where
  boot      : Boot
  params    : Params
  bank      : Bank
  peers     : Peers
  budget    : Budget
  zone      : ZoneCtl
  water     : Water
  motion    : Motion
  light     : LightCtl
  line      : Line
  event     : EventUnit
  clock     : Nat
  cells     : Nat
  freeCount : Nat
  pending   : List Instr
  deriving DecidableEq, Repr

/-- No operation of the part stops it: a command always leaves it in a next state. -/
inductive Fault where
  deriving DecidableEq, Repr

/-- Why a command has no next state. -/
inductive Refusal where
  /-- The row has no meaning yet. No arm of `exec` answers it. Safe. -/
  | notModelled (mnemonic : String)
  deriving DecidableEq, Repr

/-! ## Values after reset -/

/-- The bank monitor after a power-on reset: R15, R16 and the table of section 1.7 leave acc, d, Ceff,
SoC, I and V to the start; T is the 250 of R4. -/
def Bank.reset : Bank :=
  { acc := 0, derate := 0, ceff := 0, soc := 0, current := 0, voltage := 0, temp := 250
    restTimer := 0, quiet := false, estimated := true, mark := none
    sampleTimer := 0, derateTimer := 0, batteryTimer := 0 }

/-- The empty peer table (R38). -/
def Peers.reset : Peers :=
  { entries := [], lastVehicle := .unknown, lastStepOut := false, lastGreyFull := false
    peersLost := 0 }

/-- The class a load record starts with (R47, R68): motors at class 0. A light is class 3 until the
record names it a courtesy channel. -/
def LoadClass.initial (i : Fin 17) : LoadClass :=
  if i.val < 8 then .c3 else if i.val < 13 then .c1 else if i.val = 13 then .c2 else .c0

/-- A load record after reset (R68). -/
def LoadRecord.reset (i : Fin 17) : LoadRecord :=
  { cls := LoadClass.initial i, rated := 0, claim := 0, state := .off, hold := none }

/-- The budget unit after either reset (R68). -/
def Budget.reset : Budget :=
  { ownBank := none, peerBanks := [], supplySum := 0, supplyKnown := false
    claimSums := ⟨0, 0, 0, 0⟩, governing := none, shed := ⟨false, false, false, false⟩
    budget := 0, caps := ⟨0, 0, 0, 0⟩, own := ⟨0, 0, 0, 0⟩
    loads := Vector.ofFn LoadRecord.reset, retry := [], admitted := [], gateOpen := false
    dwell := none, claimTimer := 0, claimDue := false, levelSheds := 0, budgetSheds := 0 }

/-- A zone record after reset (R85), before the record gives its mode. -/
def Zone.reset : Zone :=
  { mode := .off, setpoint := 200, saved := none, temp := none, faulted := false, integral := 0
    duty := 0, load := .off, output := false }

/-- The zone controller after reset (R85). -/
def ZoneCtl.reset : ZoneCtl :=
  { zones := Vector.replicate 4 Zone.reset, periodTimer := 0, windowTimer := 0, window := 0#8 }

/-- A tank record after reset (R110). -/
def Tank.reset : Tank := { raw := none, filtered := none, state := .normal }

/-- The water controller after reset (R110). -/
def Water.reset : Water :=
  { fresh := Tank.reset, grey := Tank.reset, black := Tank.reset, periodTimer := 0
    moving := false, peerGreyFull := false
    pump := { demand := false, disabled := false, dryLock := false, runTimer := 0, load := .off
              output := false }
    frost := { temp := none, faulted := false, demand := false, load := .off, output := false
               dwell := none, valveOpen := false }
    tanksTimer := 0, tanksDue := false, frostDumps := 0 }

/-- An empty fault set. -/
def FaultSet.empty : FaultSet := ⟨false, false, false, false⟩

/-- An actuator record after reset, before its stops are read (R141). -/
def ActRec.reset : ActRec :=
  { state := .stowed, position := 0, motor := .off, latched := none, travelTimer := none
    stallTimer := none, overTimer := none, pauseTimer := none, hold := false
    releaseMark := false, faults := FaultSet.empty, cause := none }

/-- The wind meter after reset (R141), before the controller starts its silence timer. -/
def WindMeter.reset : WindMeter := { lastCapture := none, speed := 0, gusts := 0, silence := none }

/-- The motion controller after a power-on reset (R141). -/
def Motion.reset : Motion :=
  { awning := ActRec.reset, step := ActRec.reset, pins := ⟨false, false, false, false⟩
    wind := WindMeter.reset, vehicle := .unknown, storage := false, motionTimer := 0
    actuatorFaults := 0 }

/-- A light channel after reset (R158), before the record gives its default level. -/
def Channel.reset : Channel :=
  { setLevel := 1, latch := false, scene := false, on := false, load := .off, target := 0
    current := 0, duty := 0, output := false }

/-- The light controller after a power-on reset (R158). -/
def LightCtl.reset : LightCtl :=
  { channels := Vector.replicate 8 Channel.reset, ownStepOut := false, peerStepOut := false
    forcedOff := false, fadeTimer := 0, pwm := 0#8 }

/-- The line interface after either reset (R174): the line BUSY, and the receiver ignoring it until it
is IDLE. -/
def Line.reset : Line :=
  { idle := false, receiver := .discarding, register := none, sender := .idle, sentCells := 0, queue := []
    nextAge := 0, rxCheck := 0, rxFormat := 0, rxClash := 0, contentionLosses := 0
    txCollisions := 0, txExhausted := 0, txDropped := 0 }

/-- The request and event unit after either reset (R184). -/
def EventUnit.reset : EventUnit := { flags := 0#16, mask := 0#16 }

/-- The start-up block after a reset that sampled these straps, with this storage flag (R185, R191):
the record is being read. DESIGN CHOICE (assumption 1): the start stage holds LISTEN already before the blocks'
start. -/
def Boot.reset (straps : Station) (storage : Bool) : Boot :=
  { station := straps, phase := .reading, readTimer := 0, record := [], passed := false
    stage := .listen, listenTimer := 0, storage := storage }

/-- The part right after a reset (R191): every block at its reset value, but for the station number, the
storage flag and the bank monitor's state. DESIGN CHOICE (assumption 1): also with storage mode held, the
forced-off flag and the motion controller's storage flag are clear, and a zone's mode is OFF with none saved,
until the blocks' start, which hands the held flag to their controllers. -/
def State.afterReset (straps : Station) (storage : Bool) (bank : Bank) : State :=
  { boot := Boot.reset straps storage, params := Params.fallback, bank := bank
    peers := Peers.reset, budget := Budget.reset, zone := ZoneCtl.reset, water := Water.reset
    motion := Motion.reset, light := LightCtl.reset, line := Line.reset
    event := EventUnit.reset, clock := 0, cells := 0, freeCount := 0, pending := [] }

/-- The part right after a power-on reset with every strap low. -/
def State.reset : State := State.afterReset 0#4 false Bank.reset

/-! ## Setting one block -/

/-- The state with another start-up block. -/
def State.setBoot (s : State) (x : Boot) : State := { s with boot := x }
/-- The state with another bank monitor. -/
def State.setBank (s : State) (x : Bank) : State := { s with bank := x }
/-- The state with another peer table. -/
def State.setPeers (s : State) (x : Peers) : State := { s with peers := x }
/-- The state with another budget unit. -/
def State.setBudget (s : State) (x : Budget) : State := { s with budget := x }
/-- The state with another zone controller. -/
def State.setZone (s : State) (x : ZoneCtl) : State := { s with zone := x }
/-- The state with another water controller. -/
def State.setWater (s : State) (x : Water) : State := { s with water := x }
/-- The state with another motion controller. -/
def State.setMotion (s : State) (x : Motion) : State := { s with motion := x }
/-- The state with another light controller. -/
def State.setLight (s : State) (x : LightCtl) : State := { s with light := x }
/-- The state with another line interface. -/
def State.setLine (s : State) (x : Line) : State := { s with line := x }
/-- The state with another request and event unit. -/
def State.setEvent (s : State) (x : EventUnit) : State := { s with event := x }

end Sys2Proof.Machine
end

