-- ==== Sys2Proof/Machine/Operands.lean ====
section
/-! DEFINITION. The arithmetic of readings and fields: clipping and table lookup (Conventions), the
temperature conversion, the byte layouts of chapter 11, and the check byte of R161. -/

namespace Sys2Proof.Machine

/-! ## Clipping and lookup -/

/-- A natural quantity brought into a range (Conventions, "Arithmetic"). -/
def clipNat (lo hi n : Nat) : Nat := if n < lo then lo else if hi < n then hi else n

/-- A signed quantity brought into a range (Conventions, "Arithmetic"). -/
def clipInt (lo hi n : Int) : Int := if n < lo then lo else if hi < n then hi else n

/-- Linear interpolation between two points, the result truncated toward zero (Conventions). -/
def interpolate (p q : Point) (x : Int) : Int :=
  (p.y * (q.x - p.x) + (q.y - p.y) * (x - p.x)).tdiv (q.x - p.x)

/-- Table lookup: interpolation between neighbouring points, and the nearer end's value outside the
table (Conventions). -/
def lookup : List Point → Int → Int
  | [], _ => 0
  | [p], _ => p.y
  | p :: q :: rest, x =>
    if x ≤ p.x then p.y else if x < q.x then interpolate p q x else lookup (q :: rest) x

/-- The argument of a table's first point. -/
def firstArg (t : List Point) : Int := (t.head?.map Point.x).getD 0

/-- The argument of a table's last point. -/
def lastArg (t : List Point) : Int := (t.getLast?.map Point.x).getD 0

/-- A temperature reading: inside the conversion table it gives tenths of a degree, kept in the range of
temperatures; outside it is a sensor fault (R4, R72, R100; Conventions, "Units"). -/
def convertTemp (table : List Point) (reading : Adc) : Option Int :=
  let x : Int := reading.toNat
  if firstArg table ≤ x ∧ x ≤ lastArg table then some (clipInt (-400) 1250 (lookup table x))
  else none

/-- Division rounded upward, the one such division of chapter 3 (R65). -/
def ceilDiv (a b : Nat) : Nat := (a + (b - 1)) / b

/-! ## One value per class -/

/-- The value of a class. -/
def perClass {α : Type} (p : PerClass α) : LoadClass → α
  | .c0 => p.c0
  | .c1 => p.c1
  | .c2 => p.c2
  | .c3 => p.c3

/-- One value per class with the value of one class changed. -/
def setClass {α : Type} (p : PerClass α) (c : LoadClass) (v : α) : PerClass α :=
  match c with
  | .c0 => { p with c0 := v }
  | .c1 => { p with c1 := v }
  | .c2 => { p with c2 := v }
  | .c3 => { p with c3 := v }

/-- The number of a class. -/
def classNum : LoadClass → Nat
  | .c0 => 0
  | .c1 => 1
  | .c2 => 2
  | .c3 => 3

/-- The sum over classes 0 to c (R45). -/
def sumUpTo (p : PerClass Nat) : LoadClass → Nat
  | .c0 => p.c0
  | .c1 => p.c0 + p.c1
  | .c2 => p.c0 + p.c1 + p.c2
  | .c3 => p.c0 + p.c1 + p.c2 + p.c3

/-! ## Byte fields (chapter 11) -/

/-- The two bytes of a field, most significant first. -/
def wordBytes (w : Word) : List Byte := [w.extractLsb' 8 8, w.extractLsb' 0 8]

/-- A natural quantity as a two-byte field. -/
def natBytes (n : Nat) : List Byte := wordBytes (BitVec.ofNat 16 n)

/-- A signed quantity as a two-byte field in two's complement. -/
def intBytes (n : Int) : List Byte := wordBytes (BitVec.ofInt 16 n)

/-- Byte n of a payload or record; 0 past its end. -/
def byteAt (b : List Byte) (n : Nat) : Byte := b.getD n 0#8

/-- The two-byte field at byte n, most significant byte first. -/
def wordAt (b : List Byte) (n : Nat) : Word := byteAt b n ++ byteAt b (n + 1)

/-- The value of a byte. -/
def natAt8 (b : List Byte) (n : Nat) : Nat := (byteAt b n).toNat

/-- The value of a two-byte field. -/
def natAt16 (b : List Byte) (n : Nat) : Nat := (wordAt b n).toNat

/-- The value of a signed two-byte field. -/
def intAt16 (b : List Byte) (n : Nat) : Int := (wordAt b n).toInt

/-- A flag as bit k of a byte. -/
def bitOf (k : Nat) (f : Bool) : Byte := if f then 1#8 <<< k else 0#8

/-! ## The check byte (R161) -/

/-- One bit into the check register: a shift left, and 0x07 by exclusive-or when the bit shifted out
differs from the incoming bit. -/
def crcBit (r : Byte) (b : Bool) : Byte := if r.msb ^^ b then (r <<< 1) ^^^ 0x07#8 else r <<< 1

/-- The eight bits of a byte into the check register, most significant first. -/
def crcByte (r b : Byte) : Byte :=
  [7, 6, 5, 4, 3, 2, 1, 0].foldl (fun acc k => crcBit acc (b.getLsbD k)) r

/-- The check byte of a frame: over the two header bytes and the payload, from 0xFF. -/
def checkByte (header : Word) (payload : List Byte) : Byte :=
  (wordBytes header ++ payload).foldl crcByte 0xFF#8

end Sys2Proof.Machine
end

