-- ==== Sys2Proof/Machine/Flags.lean ====
section
/-! DEFINITION. The part's event flags and its saturating counters: the numbering of the events, the
pending sets, and the counting of a diagnostic counter. -/

namespace Sys2Proof.Machine

/-- The sixteen events (R179). -/
inductive Event where
  | socLow | bankResync | levelShed | budgetShed | zoneSensorFault | tankFull | tankEmpty
  | pumpDry | frostDump | actuatorFault | windRetract | stowFailed | interlockRetract
  | peerLost | clash | configFallback
  deriving DecidableEq, Repr

/-- The index of an event (chapter 9, section 9.3). -/
def eventIndex : Event → Nat
  | .socLow => 0
  | .bankResync => 1
  | .levelShed => 2
  | .budgetShed => 3
  | .zoneSensorFault => 4
  | .tankFull => 5
  | .tankEmpty => 6
  | .pumpDry => 7
  | .frostDump => 8
  | .actuatorFault => 9
  | .windRetract => 10
  | .stowFailed => 11
  | .interlockRetract => 12
  | .peerLost => 13
  | .clash => 14
  | .configFallback => 15

/-- The flag of an event in a 16-bit set: bit n is event n. -/
def eventBit (e : Event) : Word := 1#16 <<< eventIndex e

/-- The event is in the set. -/
def inSet (w : Word) (e : Event) : Bool := w.getLsbD (eventIndex e)

/-- The pending unmasked set: the flags that are set and not masked (R179). -/
def pendingUnmasked (u : EventUnit) : Word := u.flags &&& ~~~u.mask

/-- One more count of a 16-bit diagnostic counter, which stays at 65535 (Conventions; R173). -/
def countUp (n : Nat) : Nat := if 65535 ≤ n then 65535 else n + 1

/-- A count of time one unit on, held at its end. -/
def runTo (limit t : Nat) : Nat := if limit ≤ t then limit else t + 1

/-- A timer that may be idle, one millisecond on. -/
def runToIfRunning (limit : Nat) : Option Nat → Option Nat := Option.map (runTo limit)

/-- A timer that may be idle has reached its end. -/
def reached (limit : Nat) : Option Nat → Bool
  | none => false
  | some t => decide (limit ≤ t)

end Sys2Proof.Machine
end

