-- ==== Sys2Proof/Machine/Ops.lean ====
section
/-! DEFINITION. The operations every block shares: forming a header, handing a telegram to the line
interface and the rules of its transmit queue (section 8.3), beginning a frame (R162), and raising an
event with its ALERT (R179, R180). -/

namespace Sys2Proof.Machine

/-- The configured blocks have started (R189). -/
def State.running (s : State) : Bool := s.boot.phase == .running

/-! ## Kinds and headers (R160) -/

/-- The code of a kind. -/
def kindCode : Kind → BitVec 6
  | .alert => 0x05#6
  | .stow => 0x06#6
  | .vehicle => 0x07#6
  | .request => 0x18#6
  | .reply => 0x19#6
  | .scene => 0x1A#6
  | .supply => 0x24#6
  | .battery => 0x25#6
  | .claim => 0x26#6
  | .motion => 0x31#6
  | .tanks => 0x32#6
  | .climate => 0x33#6

/-- The kind of a code; a code outside the twelve has none (R169). -/
def kindOfCode (c : BitVec 6) : Option Kind :=
  [Kind.alert, .stow, .vehicle, .request, .reply, .scene, .supply, .battery, .claim, .motion,
   .tanks, .climate].find? fun k => kindCode k == c

/-- The header of a telegram: urgency, kind, origin and length (chapter 11, section 11.1). The urgency is
the two leading bits of the kind code. -/
def headerOf (k : Kind) (origin : Station) (length : Nat) : Word :=
  (kindCode k).extractLsb' 4 2 ++ kindCode k ++ origin ++ BitVec.ofNat 4 length

/-- The urgency field of a header. -/
def headerUrgency (h : Word) : BitVec 2 := h.extractLsb' 14 2
/-- The kind code of a header. -/
def headerKind (h : Word) : BitVec 6 := h.extractLsb' 8 6
/-- The origin of a header. -/
def headerOrigin (h : Word) : Station := h.extractLsb' 4 4
/-- The length field of a header. -/
def headerLength (h : Word) : Nat := (h.extractLsb' 0 4).toNat

/-- A telegram of this station. -/
def telegramOf (k : Kind) (origin : Station) (payload : List Byte) : Telegram :=
  { kind := k, header := headerOf k origin payload.length, payload := payload }

/-! ## The transmit queue (R166, R167) -/

/-- The six kinds of which the queue holds at most one entry (R166). -/
def coalesces : Kind → Bool
  | .claim | .battery | .motion | .tanks | .climate | .alert => true
  | _ => false

/-- The status kinds (R166). -/
def isStatus : Kind → Bool
  | .motion | .tanks | .climate => true
  | _ => false

/-- The kinds that displace a status entry from a full queue (R166). -/
def displaces : Kind → Bool
  | .reply | .alert | .claim | .battery => true
  | _ => false

/-- An entry of a kind is queued. -/
def queued (l : Line) (k : Kind) : Bool := l.queue.any fun e => e.telegram.kind == k

/-- The fill of the queue. -/
def fill (l : Line) : Nat := l.queue.length

/-- The status entry with the oldest age. -/
def oldestStatus (q : List TxEntry) : Option TxEntry :=
  (q.filter fun e => isStatus e.telegram.kind).foldl
    (fun best e =>
      match best with
      | none => some e
      | some b => if e.age < b.age then some e else some b) none

/-- The entry of a kind takes the content of a newer telegram and keeps its age, its attempt count and
its place (R166). -/
def replaceContent (q : List TxEntry) (t : Telegram) : List TxEntry :=
  q.map fun e => if e.telegram.kind == t.kind then { e with telegram := t } else e

/-- The table of R166, applied to an entry: its first line that applies. -/
def enqueue (l : Line) (e : TxEntry) : Line :=
  if coalesces e.telegram.kind && queued l e.telegram.kind then
    { l with queue := replaceContent l.queue e.telegram }
  else if isStatus e.telegram.kind && decide (6 ≤ fill l) then
    { l with txDropped := countUp l.txDropped }
  else if fill l < 8 then
    { l with queue := l.queue ++ [e] }
  else if displaces e.telegram.kind then
    match oldestStatus l.queue with
    | some old => { l with queue := l.queue.erase old ++ [e], txDropped := countUp l.txDropped }
    | none => { l with txDropped := countUp l.txDropped }
  else { l with txDropped := countUp l.txDropped }

/-- A telegram a block hands over is a new entry of the present age, not attempted yet (R166). -/
def takeTelegram (l : Line) (t : Telegram) : Line :=
  enqueue { l with nextAge := l.nextAge + 1 } { telegram := t, age := l.nextAge, attempts := 0 }

/-- A telegram that left the send register unsent (R167): a newer queued entry of its kind discards it,
and otherwise it is taken as a handed telegram is, with its own age and attempt count. -/
def returnTelegram (l : Line) (e : TxEntry) : Line :=
  if coalesces e.telegram.kind && queued l e.telegram.kind then l else enqueue l e

/-! ## Beginning a frame (R162) -/

/-- An entry goes before another: a lower header, or an equal header and an older age. -/
def goesBefore (a b : TxEntry) : Bool :=
  decide (a.telegram.header.toNat < b.telegram.header.toNat)
  || (a.telegram.header == b.telegram.header && decide (a.age < b.age))

/-- The entry to be sent next: the lowest header, and among equal headers the oldest age. -/
def nextToSend : List TxEntry → Option TxEntry
  | [] => none
  | e :: rest =>
    match nextToSend rest with
    | none => some e
    | some b => if goesBefore b e then some b else some e

/-- The sender begins a frame when the line is IDLE, the send register is empty and the queue holds a
telegram. Its start cell makes the line BUSY, and its own receiver reads the frame (R159, R168). -/
def beginFrame (l : Line) : Line :=
  if l.idle && l.register.isNone then
    match nextToSend l.queue with
    | none => l
    | some e =>
      { l with queue := l.queue.erase e, register := some e, sender := .header, sentCells := 0
               idle := false, receiver := .receiving }
  else l

/-- A block hands a telegram to the line interface (R166), which begins a frame where it can (R162). An
unconfigured station's line interface does not take it (R172). -/
def sendTelegram (k : Kind) (payload : List Byte) (s : State) : State :=
  if s.boot.station = 0#4 then s
  else s.setLine (beginFrame (takeTelegram s.line (telegramOf k s.boot.station payload)))

/-! ## Raising an event (R179, R180) -/

/-- The ALERT with the whole pending unmasked set. -/
def sendAlert (s : State) : State := sendTelegram .alert (wordBytes (pendingUnmasked s.event)) s

/-- An event is raised: a flag already set changes nothing, and a clear flag becomes set and, unless the
event is masked, forms an ALERT. -/
def raiseEvent (e : Event) (s : State) : State :=
  if inSet s.event.flags e then s
  else
    let s1 := s.setEvent { s.event with flags := s.event.flags ||| eventBit e }
    if inSet s.event.mask e then s1 else sendAlert s1

/-! ## Free values -/

/-- The free value number `k` of those that stand at this moment (assumption 6). -/
def freeField (s : State) (k : Nat) : BitVec 24 := Config.unstatedField (s.freeCount + k)

/-- `n` free values have been drawn: the next ones are others. -/
def drawFree (n : Nat) (s : State) : State := { s with freeCount := s.freeCount + n }

end Sys2Proof.Machine
end

