-- ==== Sys2Proof/Machine/Handover.lean ====
section
/-! DEFINITION. What a controller does when the budget unit hands it a change of one of its load records
(R54): the zone controller by R76 and R77, the water controller by R96, R97, R101 and R103, and the
light controller by R148, R149 and R152. None of these asks for or releases a load. -/

namespace Sys2Proof.Machine

/-! ## Light channels -/

/-- The gamma of a level (R152). -/
def gammaDuty (level : Nat) : Nat := (level * level + 255) >>> 8

/-- The target level of a channel (R148). -/
def targetLevel (p : ChannelParams) (load : LoadState) (setLevel : Nat) : Nat :=
  match load with
  | .admitted => setLevel
  | .reduced _ => min setLevel p.ceiling
  | .off | .waiting | .shed _ => 0

/-- A channel with its target recomputed (R148). -/
def retarget (p : ChannelParams) (c : Channel) : Channel :=
  { c with target := targetLevel p c.load c.setLevel }

/-- A channel with another current level, its duty recomputed in the same event (R152). -/
def withLevel (c : Channel) (level : Nat) : Channel :=
  { c with current := level, duty := gammaDuty level }

/-- The load state puts the channel into REDUCED (R149). -/
def entersReduced (before after : LoadState) : Bool :=
  match after with
  | .reduced _ => before != after
  | _ => false

/-- A channel takes a load state handed to it: the target follows (R148), and an entry into REDUCED cuts
the current level to the ceiling at once (R149). -/
def channelHanded (p : ChannelParams) (load : LoadState) (c : Channel) : Channel :=
  let c1 := retarget p { c with load := load }
  if entersReduced c.load load then withLevel c1 (min c.current p.ceiling) else c1

/-! ## Zone heaters -/

/-- The admitted duty of a zone (R77). -/
def admittedDuty (z : Zone) : Nat := if z.load = .admitted then z.duty else 0

/-- An output of a duty against a counter: on at 255, off at 0, and otherwise on while the duty is
greater than the counter value (R77, R153). -/
def dutyOutput (duty : Nat) (counter : BitVec 8) : Bool :=
  if duty = 255 then true else decide (counter.toNat < duty)

/-- A zone with its heater output brought to R77. -/
def driveHeater (window : BitVec 8) (z : Zone) : Zone :=
  { z with output := dutyOutput (admittedDuty z) window }

/-! ## Pump, frost heater and frost dwell -/

/-- Some known grey tank is FULL (R95). -/
def anyGreyFull (s : State) : Bool := s.water.grey.state == .full || s.water.peerGreyFull

/-- A pump block other than dry-lock holds (R95, R109). -/
def otherPumpBlock (s : State) : Bool :=
  s.water.pump.disabled || s.water.fresh.state == .empty || anyGreyFull s
  || s.water.frost.valveOpen || s.boot.storage

/-- A pump block holds (R95). -/
def pumpBlocked (s : State) : Bool := s.water.pump.dryLock || otherPumpBlock s

/-- The pump record with its output brought to R97, and the run timer at 0 whenever the output comes on
or stands off (R98). -/
def drivePump (blocked : Bool) (p : Pump) : Pump :=
  let on := p.load == .admitted && !blocked
  { p with output := on, runTimer := if p.output && on then p.runTimer else 0 }

/-- The tank is good and at or below 1.0 degrees (R103). -/
def frostCold (f : Frost) : Bool :=
  match f.temp with
  | some t => !f.faulted && decide (t ≤ 10)
  | none => false

/-- The conditions of the frost dwell (R103). -/
def frostAtRisk (f : Frost) : Bool := !f.valveOpen && frostCold f && f.load != .admitted

/-- The frost dwell timer evaluated: it starts at 0 from idle when the conditions begin to hold, runs on
while they hold, and is idle otherwise (R103). -/
def evalDwell (f : Frost) : Frost :=
  { f with dwell := if frostAtRisk f then some (f.dwell.getD 0) else none }

/-! ## The handover (R54) -/

/-- Light channel n takes a load state. -/
def handLight (n : Fin 8) (load : LoadState) (s : State) : State :=
  s.setLight { s.light with
    channels := s.light.channels.set n (channelHanded s.params.channels[n] load s.light.channels[n]) }

/-- Zone n takes a load state (R76). -/
def handZone (n : Fin 4) (load : LoadState) (s : State) : State :=
  s.setZone { s.zone with
    zones := s.zone.zones.set n (driveHeater s.zone.window { s.zone.zones[n] with load := load }) }

/-- The frost record takes a load state (R101, R103). -/
def handHeater (load : LoadState) (s : State) : State :=
  s.setWater { s.water with
    frost := evalDwell { s.water.frost with load := load, output := load == .admitted } }

/-- The pump record takes a load state (R96, R97). -/
def handPump (load : LoadState) (s : State) : State :=
  s.setWater { s.water with
    pump := drivePump (pumpBlocked s) { s.water.pump with load := load } }

/-- A change of load record `i` is handed to the controller that owns the load (R54). The valve and the
motors have their state set by the events that ask for and release them (R104, R106, R115, R120). -/
def handLoad (i : Fin 17) (load : LoadState) (s : State) : State :=
  if h : i.val < 8 then handLight ⟨i.val, h⟩ load s
  else if h' : i.val < 12 then handZone ⟨i.val - 8, by omega⟩ load s
  else if i.val = 12 then handHeater load s
  else if i.val = 13 then handPump load s
  else s

end Sys2Proof.Machine
end

