-- ==== Sys2Proof/Machine/Budget.lean ====
section
/-! DEFINITION. The budget unit (chapter 3): the budget and its caps, the load table with its two lists,
asks and releases, the admission pass, level shedding, the over-budget watch, and the CLAIM telegram. -/

namespace Sys2Proof.Machine

/-! ## Fixed facts of a load record (R47) -/

/-- The record is a light channel's. -/
def isLight (i : Fin 17) : Bool := decide (i.val < 8)

/-- The record is sheddable: all but the dump valve and the two motors (R47). -/
def sheddable (i : Fin 17) : Bool := decide (i.val < 14)

/-- The reduced claim of a record: of a light, its rated current times its ceiling over 255, rounded
upward (R65). -/
def reducedClaim (s : State) (i : Fin 17) : Nat :=
  if h : i.val < 8 then ceilDiv (s.budget.loads[i].rated * s.params.channels[i.val].ceiling) 255
  else 0

/-! ## Totals and the admission test (R45, R46, R49) -/

/-- A record's contribution to the own claim total of a class: the claim of an ADMITTED or REDUCED record
of that class (R49). -/
def claimIn (c : LoadClass) (r : LoadRecord) : Nat :=
  match r.state with
  | .admitted | .reduced _ => if r.cls = c then r.claim else 0
  | _ => 0

/-- The own claim total of a class over the load table (R49). -/
def ownTotal (loads : Vector LoadRecord 17) (c : LoadClass) : Nat :=
  ((List.finRange 17).map fun i => claimIn c loads[i]).sum

/-- The own claim totals (R49). -/
def ownTotals (loads : Vector LoadRecord 17) : PerClass Nat :=
  ⟨ownTotal loads .c0, ownTotal loads .c1, ownTotal loads .c2, ownTotal loads .c3⟩

/-- The totals T_0 to T_3 (R45). -/
def totals (b : Budget) : PerClass Nat :=
  ⟨b.own.c0 + b.claimSums.c0, b.own.c1 + b.claimSums.c1, b.own.c2 + b.claimSums.c2,
   b.own.c3 + b.claimSums.c3⟩

/-- T_all (R45). -/
def totalAll (b : Budget) : Nat := sumUpTo (totals b) .c3

/-- The admission test of R46 for a load of class c asking for x: a class 0 load is admitted without
it. -/
def admissionTest (b : Budget) (c : LoadClass) (x : Nat) : Bool :=
  match c with
  | .c0 => true
  | _ => decide (sumUpTo (totals b) c + x ≤ perClass b.caps c)

/-- Some T_k is lower than before (R45, R57). -/
def fell (before after : PerClass Nat) : Bool :=
  decide (after.c0 < before.c0) || decide (after.c1 < before.c1) || decide (after.c2 < before.c2)
  || decide (after.c3 < before.c3)

/-! ## Changing one record (R47, R48, R54) -/

/-- A record is written: the own totals follow (R49) and its controller receives the change (R54). -/
def putLoad (i : Fin 17) (r : LoadRecord) (s : State) : State :=
  let loads := s.budget.loads.set i r
  handLoad i r.state (s.setBudget { s.budget with loads := loads, own := ownTotals loads })

/-- The retry list without a record. -/
def leaveRetry (i : Fin 17) (s : State) : State :=
  s.setBudget { s.budget with retry := s.budget.retry.filter (· ≠ i) }

/-- The admitted list without a record. -/
def leaveAdmitted (i : Fin 17) (s : State) : State :=
  s.setBudget { s.budget with admitted := s.budget.admitted.filter (· ≠ i) }

/-- The admitted list with a record at its tail, moved there if it was in it (R58). -/
def joinAdmitted (i : Fin 17) (s : State) : State :=
  s.setBudget { s.budget with admitted := s.budget.admitted.filter (· ≠ i) ++ [i] }

/-- A record stands before a joining record of class c: its class is not higher (R55). -/
def staysBefore (b : Budget) (c : LoadClass) (j : Fin 17) : Bool :=
  decide (classNum b.loads[j].cls ≤ classNum c)

/-- The retry list with a record in its place: behind every record of its class or a lower one (R55). A
record already in it is not put in twice. -/
def joinRetry (i : Fin 17) (s : State) : State :=
  if s.budget.retry.contains i then s
  else
    let before := staysBefore s.budget s.budget.loads[i].cls
    s.setBudget { s.budget with
      retry := s.budget.retry.takeWhile before ++ i :: s.budget.retry.dropWhile before }

/-- The record becomes ADMITTED at its rated current, leaves the retry list and stands at the tail of the
admitted list (R51, R56, R58). -/
def admitLoad (i : Fin 17) (s : State) : State :=
  let r := s.budget.loads[i]
  joinAdmitted i (leaveRetry i
    (putLoad i { r with state := .admitted, claim := r.rated, hold := none } s))

/-- The record becomes WAITING (R51, R60, R63), without joining the retry list. -/
def setWaiting (i : Fin 17) (s : State) : State :=
  putLoad i { s.budget.loads[i] with state := .waiting, claim := 0, hold := none } s

/-- The record becomes WAITING and joins the retry list (R51, R63). -/
def wait (i : Fin 17) (s : State) : State := joinRetry i (setWaiting i s)

/-- The record becomes SHED and leaves both lists; a budget shed starts its hold timer (R59, R62). -/
def shedLoad (i : Fin 17) (reason : Reason) (s : State) : State :=
  leaveAdmitted i (leaveRetry i (putLoad i
    { s.budget.loads[i] with
      state := .shed reason, claim := 0, hold := if reason = .budget then some 0 else none } s))

/-- The record becomes REDUCED with the reduced claim; its lists are left as they are (R65). -/
def setReduced (i : Fin 17) (reason : Reason) (s : State) : State :=
  putLoad i { s.budget.loads[i] with
    state := .reduced reason, claim := reducedClaim s i, hold := none } s

/-- A light becomes REDUCED(LEVEL): it is in the admitted list, at its place if it was there and otherwise
at the tail, and not in the retry list (R51, R58, R59). -/
def reduceLevel (i : Fin 17) (s : State) : State :=
  let s1 := leaveRetry i (setReduced i .level s)
  if s.budget.admitted.contains i then s1 else joinAdmitted i s1

/-- The record becomes OFF, whatever its state (R53). -/
def turnOff (i : Fin 17) (s : State) : State :=
  leaveAdmitted i (leaveRetry i (putLoad i
    { s.budget.loads[i] with state := .off, claim := 0, hold := none } s))

/-! ## The CLAIM telegram (R66, R67) -/

/-- A CLAIM's payload: the own totals, each clipped to 65535, and the pending unmasked set (R67). -/
def claimPayload (s : State) : List Byte :=
  natBytes (min s.budget.own.c0 65535) ++ natBytes (min s.budget.own.c1 65535)
  ++ natBytes (min s.budget.own.c2 65535) ++ natBytes (min s.budget.own.c3 65535)
  ++ wordBytes (pendingUnmasked s.event)

/-- A CLAIM is queued and the CLAIM timer restarts (R66). An unconfigured station queues none (R67). DESIGN
CHOICE (assumption 18): its CLAIM timer then runs on to its end and stands there. -/
def queueClaim (s : State) : State :=
  if s.boot.station = 0#4 then s
  else sendTelegram .claim (claimPayload s)
    (s.setBudget { s.budget with claimTimer := 0, claimDue := false })

/-- Two sets of totals agree in every class. -/
def sameTotals (a b : PerClass Nat) : Bool :=
  a.c0 == b.c0 && a.c1 == b.c1 && a.c2 == b.c2 && a.c3 == b.c3

/-- The own totals after an event against those before it: a change queues a CLAIM when the spacing has
passed, and otherwise makes one due (R49, R66). DESIGN CHOICE (assumption 18): on an unconfigured station,
which queues no CLAIM (R67), none becomes due. -/
def claimAfter (before : PerClass Nat) (s : State) : State :=
  if sameTotals s.budget.own before ∨ s.boot.station = 0#4 then s
  else if Config.claimSpacingMs ≤ s.budget.claimTimer then queueClaim s
  else s.setBudget { s.budget with claimDue := true }

/-! ## The over-budget condition and the admission pass (R56, R57, R62) -/

/-- The over-budget condition (R62). -/
def overBudget (b : Budget) : Bool := decide (b.budget < totalAll b)

/-- The over-budget condition evaluated: the dwell starts when the condition begins to hold, runs on
while it holds, and is idle otherwise (R62). -/
def evalOver (s : State) : State :=
  s.setBudget { s.budget with
    dwell := if overBudget s.budget then some (s.budget.dwell.getD 0) else none }

/-- The walk of an admission pass over the records of the retry list from its head: it ends at the first
record whose test fails (R56). -/
def passOver : List (Fin 17) → State → State
  | [], s => s
  | i :: rest, s =>
    let r := s.budget.loads[i]
    match r.state with
    | .waiting => if admissionTest s.budget r.cls r.rated then passOver rest (admitLoad i s) else s
    | .reduced .budget =>
      if admissionTest s.budget r.cls (r.rated - r.claim) then passOver rest (admitLoad i s) else s
    | _ => s

/-- An admission pass; while the gate is closed it changes nothing (R50, R56). -/
def admissionPass (s : State) : State :=
  if s.budget.gateOpen then passOver s.budget.retry s else s

/-- The end of an event of the budget unit: the over-budget condition, the admission pass where the event
calls for one, the condition after it, and the CLAIM (R40, R49, R57). `before` are the own totals
before the event. -/
def settle (before : PerClass Nat) (callsForPass : Bool) (s : State) : State :=
  let s1 := evalOver s
  let s2 := if callsForPass then evalOver (admissionPass s1) else s1
  claimAfter before s2

/-! ## Asks and releases (R51 to R53) -/

/-- A controller asks for a load (R51). -/
def ask (i : Fin 17) (s : State) : State :=
  let r := s.budget.loads[i]
  let before := s.budget.own
  if r.state ≠ .off then s
  else if r.cls = .c0 then settle before false (admitLoad i s)
  else if perClass s.budget.shed r.cls then
    if isLight i && s.budget.gateOpen then settle before false (reduceLevel i s)
    else settle before false (shedLoad i .level s)
  else settle before true (wait i s)

/-- The motor's record takes the class of the travel (R52). -/
def setMotorClass (i : Fin 17) (c : LoadClass) (s : State) : State :=
  s.setBudget { s.budget with loads := s.budget.loads.set i { s.budget.loads[i] with cls := c } }

/-- The motion controller asks for a motor at class 0, which is admitted without test (R52). -/
def askRetraction (i : Fin 17) (s : State) : State :=
  if s.budget.loads[i].state ≠ .off then s
  else settle s.budget.own false (admitLoad i (setMotorClass i .c0 s))

/-- A class 2 immediate ask is refused: the gate is closed, shed_2 is set, or the admission test fails at
the rated current (R52). -/
def extensionRefused (i : Fin 17) (s : State) : Bool :=
  !s.budget.gateOpen || s.budget.shed.c2
  || !admissionTest s.budget .c2 s.budget.loads[i].rated

/-- The motion controller asks for a motor at class 2: refused, or admitted at once (R52). -/
def askExtension (i : Fin 17) (s : State) : State :=
  if s.budget.loads[i].state ≠ .off then s
  else if extensionRefused i s then s
  else settle s.budget.own false (admitLoad i (setMotorClass i .c2 s))

/-- A controller releases a load (R53). A release that lowers an own total calls for an admission pass
(R57). -/
def release (i : Fin 17) (s : State) : State :=
  if s.budget.loads[i].state = .off then s
  else
    let s1 := turnOff i s
    settle s.budget.own (fell (totals s.budget) (totals s1.budget)) s1

/-! ## Level shedding (R42, R59 to R61) -/

/-- One record under the setting of its class's flag (R59). -/
def shedOne (c : LoadClass) (s : State) (i : Fin 17) : State :=
  let r := s.budget.loads[i]
  if r.cls = c ∧ sheddable i then
    match r.state with
    | .off | .reduced .level | .shed .level => s
    | .waiting =>
      if isLight i && s.budget.gateOpen then reduceLevel i s else shedLoad i .level s
    | .admitted | .reduced .budget =>
      if isLight i then reduceLevel i s else shedLoad i .level s
    | .shed .budget => shedLoad i .level s
  else s

/-- The number of the counter of level sheds goes up (R59). -/
def countLevelShed (s : State) : State :=
  s.setBudget { s.budget with levelSheds := countUp s.budget.levelSheds }

/-- A shed flag is set, with the effects of R59 and, for class 1, SOC-LOW (R42). -/
def setShedFlag (c : LoadClass) (s : State) : State :=
  let s1 := s.setBudget { s.budget with shed := setClass s.budget.shed c true }
  let s2 := (List.finRange 17).foldl (shedOne c) s1
  let s3 := raiseEvent .levelShed (countLevelShed s2)
  if c = .c1 then raiseEvent .socLow s3 else s3

/-- Step 1 of R60 for one light: tested for its increment, it is ADMITTED again, or becomes
REDUCED(BUDGET) at its place. -/
def restoreLight (c : LoadClass) (s : State) (i : Fin 17) : State :=
  let r := s.budget.loads[i]
  if r.cls = c ∧ r.state = .reduced .level then
    if admissionTest s.budget c (r.rated - r.claim) then admitLoad i s else setReduced i .budget s
  else s

/-- Step 2 of R60 for one record: SHED(LEVEL) becomes WAITING. -/
def restoreShed (c : LoadClass) (s : State) (i : Fin 17) : State :=
  let r := s.budget.loads[i]
  if r.cls = c ∧ r.state = .shed .level then setWaiting i s else s

/-- A record of the class that waits for admission joins the retry list (R48, R60). -/
def joinRestored (c : LoadClass) (s : State) (i : Fin 17) : State :=
  let r := s.budget.loads[i]
  if r.cls = c ∧ (r.state = .waiting ∨ r.state = .reduced .budget) then joinRetry i s else s

/-- A shed flag is cleared, with the effects of R60: the lights in admitted-list order, then the shed
records, and all that join the retry list join it in index order (R55). -/
def clearShedFlag (c : LoadClass) (s : State) : State :=
  let s1 := s.setBudget { s.budget with shed := setClass s.budget.shed c false }
  let s2 := s1.budget.admitted.foldl (restoreLight c) s1
  let s3 := (List.finRange 17).foldl (restoreShed c) s2
  (List.finRange 17).foldl (joinRestored c) s3

/-- The shed flag of a class evaluated against the governing SoC (R42). -/
def evalShedFlag (s : State) (c : LoadClass) : State :=
  let set := perClass s.budget.shed c
  match s.budget.governing with
  | none => if set then clearShedFlag c s else s
  | some g =>
    if set then (if perClass s.params.resume c ≤ g then clearShedFlag c s else s)
    else if g ≤ perClass s.params.pause c then setShedFlag c s else s

/-- The shed flags of classes 1, 2 and 3 in that order (R42). The fallback profile holds them clear
(R188). -/
def evalShedFlags (s : State) : State :=
  if s.params.levelShedding then [LoadClass.c1, .c2, .c3].foldl evalShedFlag s else s

/-! ## The budget (R41, R43, R44) -/

/-- The known banks, as state of charge and discharge limit: the own bank and each peer bank (R41). -/
def knownBanks (b : Budget) : List (Nat × Nat) :=
  (match b.ownBank with
   | some o => [(o.soc, o.limit)]
   | none => [])
  ++ b.peerBanks.map fun p => (p.soc, p.limit)

/-- The lowest state of charge among the known banks (R41). -/
def lowestSoc : List (Nat × Nat) → Option Nat
  | [] => none
  | (soc, _) :: rest =>
    match lowestSoc rest with
    | none => some soc
    | some m => some (min soc m)

/-- The allowance of a bank: floor(L × g(SoC) / 256), g clipped to 0 to 256 (R43). -/
def bankAllowance (table : List Point) (soc limit : Nat) : Nat :=
  limit * (clipInt 0 256 (lookup table soc)).toNat / 256

/-- The budget B (R43). -/
def budgetOf (p : Params) (b : Budget) : Nat :=
  let banks := knownBanks b
  if banks.isEmpty && !b.supplyKnown then p.fallbackBudget
  else min 65535
    (b.supplySum + (banks.map fun k => bankAllowance p.allowance k.1 k.2).sum)

/-- The class caps B_0 to B_3 (R44). -/
def capsOf (p : Params) (b : Nat) : PerClass Nat :=
  ⟨b * p.share.c0 / 256, b * p.share.c1 / 256, b * p.share.c2 / 256, b * p.share.c3 / 256⟩

/-- The governing SoC, the budget and the caps from the inputs held (R40, items 1 and 2). -/
def computeBudget (s : State) : State :=
  let b := budgetOf s.params s.budget
  s.setBudget { s.budget with
    governing := lowestSoc (knownBanks s.budget), budget := b, caps := capsOf s.params b }

/-- A record stands in the retry list that did not before (R57). -/
def joined (before after : List (Fin 17)) : Bool := after.any fun i => !before.contains i

/-- The re-evaluation of R40 after an input has been replaced; `before` is the unit's state before the
event. DESIGN CHOICE (assumption 9): whether a total fell (R45, R57) is told by its net change over items 1
to 3 and by its net change over item 4, so a fall made good within one of the two calls for no pass. -/
def reevaluate (before : Budget) (s : State) : State :=
  let s2 := computeBudget s
  let s3 := evalShedFlags s2
  settle before.own
    (joined before.retry s3.budget.retry || decide (before.budget < s2.budget.budget)
     || fell (totals before) (totals s2.budget) || fell (totals s2.budget) (totals s3.budget)) s3

/-- The own bank record is handed over (R20, R40). -/
def handOwnBank (o : BatteryPart) (s : State) : State :=
  reevaluate s.budget (s.setBudget { s.budget with ownBank := some o })

/-- The quantity facts are handed over (R37, R40). -/
def handQuantities (banks : List PeerBank) (supply : Nat) (known : Bool) (sums : PerClass Nat)
    (s : State) : State :=
  reevaluate s.budget (s.setBudget { s.budget with
    peerBanks := banks, supplySum := supply, supplyKnown := known, claimSums := sums })

/-! ## The over-budget watch (R62, R63) -/

/-- The length of the over-budget dwell (R62). -/
def dwellLength (station : Station) : Nat := 1000 + 250 * station.toNat

/-- A record can be a victim at class c (R62). -/
def victimIn (b : Budget) (c : LoadClass) (i : Fin 17) : Bool :=
  let r := b.loads[i]
  sheddable i && r.cls == c && (match r.state with | .admitted | .reduced _ => true | _ => false)

/-- The victim of the over-budget watch: of the highest class that has one, the record nearest the tail
of the admitted list (R62). -/
def victim (b : Budget) : Option (Fin 17) :=
  let fromTail := b.admitted.reverse
  (fromTail.find? (victimIn b .c3)).or
    ((fromTail.find? (victimIn b .c2)).or (fromTail.find? (victimIn b .c1)))

/-- The victim is treated: an ADMITTED light is reduced and joins the retry list, any other victim is
shed (R62). -/
def takeVictim (i : Fin 17) (s : State) : State :=
  if isLight i && s.budget.loads[i].state == .admitted then joinRetry i (setReduced i .budget s)
  else shedLoad i .budget s

/-- The dwell after its expiry: again at 0 while the condition holds, and otherwise idle (R62). -/
def restartDwell (s : State) : State :=
  s.setBudget { s.budget with dwell := if overBudget s.budget then some 0 else none }

/-- The over-budget dwell reaches its length (R62). -/
def dwellExpires (s : State) : State :=
  match victim s.budget with
  | none => restartDwell s
  | some i =>
    let s1 := takeVictim i s
    let s2 := raiseEvent .budgetShed
      (s1.setBudget { s1.budget with budgetSheds := countUp s1.budget.budgetSheds })
    settle s.budget.own
      (joined s.budget.retry s2.budget.retry || fell (totals s.budget) (totals s2.budget))
      (restartDwell s2)

/-- The hold timer of a record expires (R63): WAITING, or SHED(LEVEL) under a set flag, and an admission
pass. -/
def holdExpires (i : Fin 17) (s : State) : State :=
  let s1 := if perClass s.budget.shed s.budget.loads[i].cls then shedLoad i .level s else wait i s
  settle s.budget.own true s1

/-- The admission gate opens and a pass runs (R50, R57). -/
def openGate (s : State) : State :=
  settle s.budget.own true (s.setBudget { s.budget with gateOpen := true })

/-! ## Start (R47, R66, R68) -/

/-- The class a load record has from start (R47). -/
def startClass (p : Params) (i : Fin 17) : LoadClass :=
  if h : i.val < 8 then (if p.channels[i.val].courtesy then .c0 else .c3)
  else LoadClass.initial i

/-- The rated current of a load record (R47). DESIGN CHOICE (assumption 15): 0 for a load whose function the
record does not host, which the parameters give as absent. -/
def startRated (p : Params) (i : Fin 17) : Nat :=
  if h : i.val < 8 then p.channels[i.val].rated
  else if h' : i.val < 12 then p.zones[i.val - 8].rated
  else if i.val = 12 then p.water.heaterRated
  else if i.val = 13 then p.water.pumpRated
  else if i.val = 14 then p.water.valveRated
  else if i.val = 15 then p.awning.rated
  else p.step.rated

/-- The budget unit at its start: its reset values, with the classes and rated currents of the record and
the fallback budget with the caps from it (R68). -/
def startedBudget (p : Params) : Budget :=
  { Budget.reset with
    loads := Vector.ofFn fun i =>
      { LoadRecord.reset i with cls := startClass p i, rated := startRated p i }
    budget := p.fallbackBudget, caps := capsOf p p.fallbackBudget }

end Sys2Proof.Machine
end

