-- ==== Sys2Proof/Machine/Bank.lean ====
section
/-! DEFINITION. The bank monitor (chapter 1): the charge accumulator, derate and effective capacity, rest
and resync, the start with or without retained state, and the BATTERY telegram. -/

namespace Sys2Proof.Machine

/-! ## The account -/

/-- Effective capacity (R6): Cn × 360,000 × d accumulator units. -/
def effectiveCapacity (cn d : Nat) : Nat := cn * 368640000 * d / 1024

/-- State of charge (R10). -/
def socOf (acc ceff : Nat) : Nat := acc * 1000 / ceff

/-- The charge step of a sample (R9). -/
def chargeStep (eta : Nat) (i : Int) : Int := if 0 ≤ i then i * eta else i * 256

/-- The accumulator after a charge step, clipped to 0 to Ceff (R9). -/
def stepAcc (acc ceff eta : Nat) (i : Int) : Nat :=
  (clipInt 0 ceff (acc + chargeStep eta i)).toNat

/-- The derate factor at a temperature, clipped to 1 to 1024 (R5). -/
def derateAt (p : BankParams) (t : Int) : Nat := (clipInt 1 1024 (lookup p.derate t)).toNat

/-- The state of charge of a bank at rest from its voltage, clipped to 0 to 1000 (R13). -/
def socAtRest (p : BankParams) (v : Nat) : Nat := (clipInt 0 1000 (lookup p.ocv v)).toNat

/-- The converted current clamped (R3). -/
def clampCurrent (i : Int) : Int := clipInt (-32000) 32000 i

/-- The converted voltage clamped (R3). -/
def clampVoltage (v : Nat) : Nat := min v 65535

/-- The account set to a fraction of the effective capacity (R14, R16). -/
def accAt (ceff soc : Nat) : Nat := ceff * soc / 1000

/-- The monitor with SoC recomputed (R10). -/
def withSoc (b : Bank) : Bank := { b with soc := socOf b.acc b.ceff }

/-- The sample's charge step applied, and SoC recomputed (R9, R10). -/
def applyCharge (p : BankParams) (i : Int) (v : Nat) (b : Bank) : Bank :=
  withSoc { b with acc := stepAcc b.acc b.ceff p.eta i, current := i, voltage := v }

/-- The sample is quiet (R12). -/
def isQuiet (p : BankParams) (i : Int) : Bool := decide (i.natAbs ≤ p.restThreshold)

/-- The rest timer after a sample (R12). -/
def restAfter (p : BankParams) (b : Bank) : Nat :=
  if isQuiet p b.current then b.restTimer + 250 else 0

/-- The sample brings the rest timer to the rest time or beyond it (R12). -/
def resyncs (p : BankParams) (b : Bank) : Bool :=
  isQuiet p b.current && decide (p.restTime * 1000 ≤ restAfter p b)

/-- The account resynced from the OCV table (R14, items 1 to 5). -/
def resynced (p : BankParams) (b : Bank) : Bank :=
  withSoc { b with acc := accAt b.ceff (socAtRest p b.voltage), estimated := false, restTimer := 0
                   quiet := true }

/-- The rest timer and the quiet flag evaluated, with the resync where the rest time is reached (R12,
R14). -/
def evalRest (p : BankParams) (b : Bank) : Bank :=
  if resyncs p b then resynced p b
  else { b with quiet := isQuiet p b.current, restTimer := restAfter p b }

/-! ## Handing out (R20 to R22) -/

/-- The own bank record (R20). -/
def ownRecord (p : BankParams) (b : Bank) : BatteryPart :=
  { letter := p.letter, soc := b.soc, limit := p.limit }

/-- The code of a bank letter in BATTERY (chapter 11). -/
def letterBit : BankLetter → Bool
  | .a => false
  | .b => true

/-- A BATTERY's payload (R21, chapter 11). -/
def batteryPayload (p : BankParams) (b : Bank) : List Byte :=
  [bitOf 0 (letterBit p.letter) ||| bitOf 6 b.estimated ||| bitOf 7 b.quiet]
  ++ natBytes b.soc ++ intBytes b.current ++ natBytes b.voltage ++ intBytes b.temp
  ++ natBytes p.limit

/-- A BATTERY is formed and handed to the line interface, and its period restarts (R21). An unconfigured
station forms none (R22). DESIGN CHOICE (assumption 18): its period timer starts at the first sample and
restarts at each BATTERY_PERIOD all the same. -/
def formBattery (p : BankParams) (s : State) : State :=
  let s1 := s.setBank { s.bank with batteryTimer := 0 }
  if s.boot.station = 0#4 then s1 else sendTelegram .battery (batteryPayload p s1.bank) s1

/-- A sample's rest evaluation, its event and its handover (R12, R14, R20). -/
def finishSample (p : BankParams) (s : State) : State :=
  let b := evalRest p s.bank
  let s1 := s.setBank b
  let s2 := if resyncs p s.bank then raiseEvent .bankResync s1 else s1
  handOwnBank (ownRecord p b) s2

/-- One sample (R3). -/
def sampleBank (p : BankParams) (i : Int) (v : Nat) (s : State) : State :=
  finishSample p (s.setBank (applyCharge p (clampCurrent i) (clampVoltage v)
    { s.bank with sampleTimer := 0 }))

/-- The temperature of a derate evaluation: the reading, or the kept value on a sensor fault (R4). -/
def evalTemp (table : List Point) (reading : Adc) (kept : Int) : Int :=
  (convertTemp table reading).getD kept

/-- The monitor after a derate evaluation that takes factor d (R7). -/
def takeDerate (p : BankParams) (d : Nat) (b : Bank) : Bank :=
  let ceff := effectiveCapacity p.cn d
  withSoc { b with derate := d, ceff := ceff, acc := min b.acc ceff }

/-- A derate evaluation after the first (R4, R5, R7). -/
def evalDerate (p : BankParams) (reading : Adc) (s : State) : State :=
  let t := evalTemp s.params.tempTable reading s.bank.temp
  let b := { s.bank with temp := t, derateTimer := 0 }
  let d := derateAt p t
  if d = s.bank.derate then s.setBank b
  else
    let b1 := takeDerate p d b
    handOwnBank (ownRecord p b1) (s.setBank b1)

/-! ## Start (R15 to R19) -/

/-- The retained state is kept: the mark is valid and its Cn and letter are those of the record (R17). -/
def keepsRetained (p : BankParams) (b : Bank) : Bool :=
  b.mark == some { cn := p.cn, letter := p.letter }

/-- The monitor after its first derate evaluation (R15). -/
def firstDerate (p : BankParams) (table : List Point) (reading : Adc) (b : Bank) : Bank :=
  let t := evalTemp table reading 250
  let d := derateAt p t
  { b with temp := t, derate := d, ceff := effectiveCapacity p.cn d }

/-- The first sample's account: the kept one with its charge step, or the OCV start value (R16, R17). -/
def firstCharge (p : BankParams) (keep : Bool) (i : Int) (v : Nat) (b : Bank) : Bank :=
  if keep then applyCharge p i v { b with acc := min b.acc b.ceff }
  else withSoc { b with acc := accAt b.ceff (socAtRest p v), estimated := true, restTimer := 0
                        current := i, voltage := v }

/-- The monitor starts (R15); where the record names no bank the retained state is discarded (R18). -/
def startBank (inputs : StartInputs) (s : State) : State :=
  match s.params.bank with
  | none => s.setBank Bank.reset
  | some p =>
    let b := firstDerate p s.params.tempTable inputs.bankTemp s.bank
    let b1 := firstCharge p (keepsRetained p s.bank) (clampCurrent inputs.current)
      (clampVoltage inputs.voltage) b
    let b2 := { b1 with mark := some { cn := p.cn, letter := p.letter }, sampleTimer := 0
                        derateTimer := 0, batteryTimer := 0 }
    formBattery p (finishSample p (s.setBank b2))

/-- What a reset-pin reset keeps of the monitor: the accumulator, the estimated flag, the rest timer and
the mark, until the start decides (R17, R18). A reset that comes before the blocks have started, and so
before the first sample of R15, discards them (R18). -/
def retainBank (started : Bool) (b : Bank) : Bank :=
  if started then
    { Bank.reset with
      acc := b.acc, estimated := b.estimated, restTimer := b.restTimer, mark := b.mark }
  else Bank.reset

end Sys2Proof.Machine
end

