-- ==== Sys2Proof/Machine/Lights.lean ====
section
/-! DEFINITION. The light controller (chapter 7): the on condition and its asks and releases, switch
edges, scenes, fades and PWM, LIGHT-SET, storage mode, and the start. -/

namespace Sys2Proof.Machine

/-- The load record of light channel n (chapter 7). -/
def lightLoad (n : Fin 8) : Fin 17 := ⟨n.val, by omega⟩

/-- A channel record written. -/
def putChannel (n : Fin 8) (c : Channel) (s : State) : State :=
  s.setLight { s.light with channels := s.light.channels.set n c }

/-- Step-out C (R144). -/
def stepOutC (l : LightCtl) : Bool := l.ownStepOut || l.peerStepOut

/-- The index of a truth table: 4C + 2B + A (R145). -/
def truthIndex (c b a : Bool) : Nat := 4 * c.toNat + 2 * b.toNat + a.toNat

/-- The on condition of a channel (R145). -/
def onCondition (p : ChannelParams) (l : LightCtl) (c : Channel) : Bool :=
  !l.forcedOff && p.truth.getLsbD (truthIndex (stepOutC l) c.scene c.latch)

/-- A hosted channel is evaluated: its on condition is stored, and its load is asked for or released
(R145). -/
def evalChannel (s : State) (n : Fin 8) : State :=
  let p := s.params.channels[n]
  if !p.hosted then s
  else
    let c := s.light.channels[n]
    let on := onCondition p s.light c
    let s1 := putChannel n { c with on := on } s
    if on && c.load == .off then ask (lightLoad n) s1
    else if !on && c.load != .off then release (lightLoad n) s1
    else s1

/-- Every hosted channel is evaluated, in channel order (R145). -/
def evalChannels (s : State) : State := (List.finRange 8).foldl evalChannel s

/-! ## Step-out handovers (R144) -/

/-- The own step-out is handed over by the motion controller (R138, R144). -/
def handOwnStepOut (out : Bool) (s : State) : State :=
  evalChannels (s.setLight { s.light with ownStepOut := out })

/-- The peer step out fact is handed over by the peer table (R37, R144). -/
def handPeerStepOut (out : Bool) (s : State) : State :=
  evalChannels (s.setLight { s.light with peerStepOut := out })

/-! ## Switches and scenes (R146, R147) -/

/-- The configured sense takes an edge (R146). -/
def senseTakes : SwitchSense → Bool → Bool
  | .none, _ => false
  | .rising, rising => rising
  | .falling, rising => !rising
  | .both, _ => true

/-- An edge of a channel's switch input (R146). -/
def switchEdgeAt (n : Fin 8) (rising : Bool) (s : State) : State :=
  let p := s.params.channels[n]
  let c := s.light.channels[n]
  if p.hosted && senseTakes p.sense rising && !s.light.forcedOff then
    evalChannel (putChannel n { c with latch := !c.latch } s) n
  else s

/-- A channel under a recall of a scene (R147). -/
def recallChannel (p : ChannelParams) (sc : SceneParams) (n : Fin 8) (c : Channel) : Channel :=
  let member := sc.members.getLsbD n.val
  let level := sc.levels[n]
  retarget p { c with
    scene := member, setLevel := if member && level != 0 then level else c.setLevel }

/-- A hosted channel takes its scene bit and set level (R147). -/
def recallOne (sc : SceneParams) (s : State) (n : Fin 8) : State :=
  let p := s.params.channels[n]
  if p.hosted then putChannel n (recallChannel p sc n s.light.channels[n]) s else s

/-- A SCENE is recalled (R147). A number of 8 or more, and every SCENE while the forced-off flag is set,
changes nothing. -/
def recallScene (number : Byte) (s : State) : State :=
  if h : number.toNat < 8 then
    if s.light.forcedOff then s
    else evalChannels ((List.finRange 8).foldl (recallOne s.params.scenes[number.toNat]) s)
  else s

/-! ## Fades and outputs (R150, R153) -/

/-- The level one fade step nearer its target (R150). -/
def fadeLevel (step current target : Nat) : Nat :=
  if current < target then min (current + step) target
  else if target < current then max (current - step) target
  else current

/-- A channel under a fade tick; a change of its level recomputes the duty (R150, R152). -/
def fadeChannel (p : ChannelParams) (c : Channel) : Channel :=
  let level := fadeLevel p.fadeStep c.current c.target
  if level = c.current then c else withLevel c level

/-- A hosted channel takes its fade step (R150). -/
def fadeOne (s : State) (n : Fin 8) : State :=
  let p := s.params.channels[n]
  if p.hosted then putChannel n (fadeChannel p s.light.channels[n]) s else s

/-- The fade tick (R150). -/
def fadeAll (s : State) : State :=
  (List.finRange 8).foldl fadeOne (s.setLight { s.light with fadeTimer := 0 })

/-- A hosted channel's output compared with the PWM counter; the others are off (R153). -/
def driveChannel (s : State) (n : Fin 8) : State :=
  let c := s.light.channels[n]
  putChannel n { c with
    output := s.params.channels[n].hosted && dutyOutput c.duty s.light.pwm } s

/-- The PWM counter advances, and every output is compared with it (R153). -/
def advancePwm (s : State) : State :=
  (List.finRange 8).foldl driveChannel (s.setLight { s.light with pwm := s.light.pwm + 1#8 })

/-! ## Storage mode (R156, R157) -/

/-- A hosted channel's latch and scene bit cleared (R156). -/
def clearChannel (s : State) (n : Fin 8) : State :=
  if s.params.channels[n].hosted then
    putChannel n { s.light.channels[n] with latch := false, scene := false } s
  else s

/-- The entry into storage mode (R156). -/
def lightsEnterStorage (s : State) : State :=
  evalChannels ((List.finRange 8).foldl clearChannel (s.setLight { s.light with forcedOff := true }))

/-- The exit from storage mode (R157). -/
def lightsExitStorage (s : State) : State :=
  evalChannels (s.setLight { s.light with forcedOff := false })

/-! ## Start (R158) -/

/-- A channel at the controller's start (R158). -/
def startedChannel (p : ChannelParams) : Channel := { Channel.reset with setLevel := p.defaultLevel }

/-- The light controller at its start, with the storage flag as held (R158, R191). -/
def startedLights (p : Params) (storage : Bool) : LightCtl :=
  { LightCtl.reset with
    channels := Vector.ofFn fun n => startedChannel p.channels[n], forcedOff := storage }

end Sys2Proof.Machine
end

