-- ==== Sys2Proof/Machine/Motion.lean ====
section
/-! DEFINITION. The motion controller (chapter 6): travels and reversals, end stops, faults, holds, the
vehicle interlock, the wind meter, STOW, the MOTION telegram, and the start. -/

namespace Sys2Proof.Machine

/-! ## Records, stops and loads -/

/-- The record of an actuator. -/
def act (m : Motion) : Actuator → ActRec
  | .awning => m.awning
  | .step => m.step

/-- An actuator record written. -/
def putAct (a : Actuator) (r : ActRec) (s : State) : State :=
  match a with
  | .awning => s.setMotion { s.motion with awning := r }
  | .step => s.setMotion { s.motion with step := r }

/-- The load record of an actuator's motor. -/
def motorLoad : Actuator → Fin 17
  | .awning => 15
  | .step => 16

/-- The level of an end-stop pin. -/
def pinLevel (p : StopPins) : Actuator → StopEnd → Bool
  | .awning, .inStop => p.awningIn
  | .awning, .outStop => p.awningOut
  | .step, .inStop => p.stepIn
  | .step, .outStop => p.stepOut

/-- An end-stop pin takes a level. -/
def setPin (p : StopPins) (level : Bool) : Actuator → StopEnd → StopPins
  | .awning, .inStop => { p with awningIn := level }
  | .awning, .outStop => { p with awningOut := level }
  | .step, .inStop => { p with stepIn := level }
  | .step, .outStop => { p with stepOut := level }

/-- The configured sense of a stop (R113). -/
def stopSense (p : ActuatorParams) : StopEnd → StopSense
  | .inStop => p.inSense
  | .outStop => p.outSense

/-- The level at which a stop is active: high for senses rising and both, low for falling (R113). -/
def activeLevel : StopSense → Bool
  | .rising | .both => true
  | .falling => false

/-- A stop is active (R113). -/
def stopActive (s : State) (a : Actuator) (e : StopEnd) : Bool :=
  pinLevel s.motion.pins a e == activeLevel (stopSense (s.params.actuator a) e)

/-- The end state of an end stop. -/
def endState : StopEnd → ActState
  | .inStop => .stowed
  | .outStop => .extended

/-- The position an end stop sets (R114). -/
def endPosition (p : ActuatorParams) : StopEnd → Nat
  | .inStop => 0
  | .outStop => p.length

/-- A moving state (R112). -/
def isMoving : ActState → Bool
  | .extending | .retracting => true
  | _ => false

/-! ## Travels (R115 to R120) -/

/-- The record with its motor off, its four timers idle and its latched parameters discarded (R120). -/
def stopMotor (r : ActRec) : ActRec :=
  { r with motor := .off, latched := none, travelTimer := none, stallTimer := none
           overTimer := none, pauseTimer := none }

/-- The record at the end of its travel: a hold marked for release is cleared at STOWED, and the mark and
the cause are gone (R120). -/
def endedTravel (st : ActState) (r : ActRec) : ActRec :=
  { stopMotor r with
    state := st, hold := r.hold && !(st == .stowed && r.releaseMark)
    releaseMark := false, cause := none }

/-- A travel ends: the record as R120 states, and the motor's load record released. -/
def endTravel (a : Actuator) (st : ActState) (s : State) : State :=
  release (motorLoad a) (putAct a (endedTravel st (act s.motion a)) s)

/-- A travel ends at an end stop, which sets the position (R118). -/
def endAtStop (a : Actuator) (e : StopEnd) (s : State) : State :=
  endTravel a (endState e)
    (putAct a { act s.motion a with position := endPosition (s.params.actuator a) e } s)

/-- A still actuator takes an end's state without a travel (R115, R118). -/
def takeEnd (a : Actuator) (e : StopEnd) (s : State) : State :=
  putAct a { act s.motion a with
    state := endState e, position := endPosition (s.params.actuator a) e } s

/-- The latched parameters of a travel toward an end (R115). -/
def latchFor (p : ActuatorParams) : StopEnd → Latched
  | .inStop => { drive := .inward, limit := p.inLimit, timeout := p.timeout }
  | .outStop => { drive := .outward, limit := p.outLimit, timeout := p.timeout }

/-- The moving state toward an end. -/
def movingState : StopEnd → ActState
  | .inStop => .retracting
  | .outStop => .extending

/-- The record with its motor driven toward an end: latched parameters, travel and stall timers at 0, no
overcurrent, no pause (R115, R117). -/
def driveToward (p : ActuatorParams) (e : StopEnd) (r : ActRec) : ActRec :=
  let l := latchFor p e
  { r with state := movingState e, motor := l.drive, latched := some l, travelTimer := some 0
           stallTimer := some 0, overTimer := none, pauseTimer := none }

/-- The motor is driven toward an end. -/
def startDrive (a : Actuator) (e : StopEnd) (s : State) : State :=
  putAct a (driveToward (s.params.actuator a) e (act s.motion a)) s

/-- A travel inward is started from a still state (R115): at once STOWED on an active in-stop, and
otherwise driven, its class 0 ask being admitted. -/
def startInward (a : Actuator) (s : State) : State :=
  if stopActive s a .inStop then takeEnd a .inStop s
  else startDrive a .inStop (askRetraction (motorLoad a) s)

/-- A travel outward is started from a still state (R115): at once EXTENDED on an active out-stop; driven
if the class 2 ask is admitted; refused otherwise. -/
def startOutward (a : Actuator) (s : State) : State :=
  if stopActive s a .outStop then takeEnd a .outStop s
  else
    let s1 := askExtension (motorLoad a) s
    if s1.budget.loads[motorLoad a].state = .admitted then startDrive a .outStop s1 else s1

/-- The record at a reversal toward an end: motor off, timers idle, the pause at 0, no cause and no mark
(R116). -/
def pausedToward (e : StopEnd) (r : ActRec) : ActRec :=
  { stopMotor r with
    state := movingState e, pauseTimer := some 0, releaseMark := false, cause := none }

/-- A reversal toward retraction (R116). -/
def reverseInward (a : Actuator) (s : State) : State :=
  let s1 := askRetraction (motorLoad a) (release (motorLoad a) s)
  putAct a (pausedToward .inStop (act s1.motion a)) s1

/-- A reversal toward extension (R116): carried out if the class 2 ask is admitted; otherwise the record
is asked for again at class 0 and the actuator carries on. -/
def reverseOutward (a : Actuator) (s : State) : State :=
  let s1 := askExtension (motorLoad a) (release (motorLoad a) s)
  if s1.budget.loads[motorLoad a].state = .admitted then
    putAct a (pausedToward .outStop (act s1.motion a)) s1
  else askRetraction (motorLoad a) s1

/-- The end an actuator's moving state points to. -/
def endAhead : ActState → StopEnd
  | .extending => .outStop
  | _ => .inStop

/-- The reverse pause ends (R117): at an active stop the travel ends there, and otherwise the motor is
driven in the new direction. -/
def endPause (a : Actuator) (s : State) : State :=
  let e := endAhead (act s.motion a).state
  if stopActive s a e then endAtStop a e s else startDrive a e s

/-! ## Faults (R121 to R125) -/

/-- A fault of an actuator (R112). -/
inductive ActFault where
  | travelTimeout | stall | obstructed | conflict
  deriving DecidableEq, Repr

/-- A fault joins a fault set. -/
def addFault (f : FaultSet) : ActFault → FaultSet
  | .travelTimeout => { f with travelTimeout := true }
  | .stall => { f with stall := true }
  | .obstructed => { f with obstructed := true }
  | .conflict => { f with conflict := true }

/-- One more actuator fault is counted (R124). -/
def countFault (s : State) : State :=
  s.setMotion { s.motion with actuatorFaults := countUp s.motion.actuatorFaults }

/-- An actuator enters FAULT (R124): STOW-FAILED if a cause is present, the travel ended if it was moving,
the fault recorded, and ACTUATOR-FAULT. -/
def enterFault (a : Actuator) (f : ActFault) (s : State) : State :=
  let r := act s.motion a
  let s1 := if isMoving r.state && r.cause.isSome then raiseEvent .stowFailed s else s
  let s2 := if isMoving r.state then endTravel a .fault s1 else s1
  let r2 := act s2.motion a
  let s3 := putAct a { r2 with state := .fault, faults := addFault r2.faults f } s2
  countFault (raiseEvent .actuatorFault s3)

/-! ## Auto-retraction (R131) -/

/-- The cause of a retraction is recorded. -/
def recordCause (a : Actuator) (c : Cause) (s : State) : State :=
  putAct a { act s.motion a with cause := some c } s

/-- An auto-retraction with a cause acts on an actuator by its state (R131). -/
def autoRetract (a : Actuator) (c : Cause) (s : State) : State :=
  let r := act s.motion a
  match r.state with
  | .stowed => s
  | .extended | .stoppedMid =>
    let s1 := startInward a s
    if (act s1.motion a).state = .retracting then recordCause a c s1 else s1
  | .extending => recordCause a c (reverseInward a s)
  | .retracting => if r.cause.isSome then s else recordCause a c s
  | .fault => raiseEvent .stowFailed s

/-- The hosted actuators. DESIGN CHOICE (assumption 9): in one event the awning is taken before the step. -/
def hostedActs (p : Params) : List Actuator :=
  [Actuator.awning, .step].filter fun a => (p.actuator a).hosted

/-! ## End stops and hall edges (R113, R114, R118, R119, R123) -/

/-- Both stops of an actuator are active (R123). -/
def stopConflict (s : State) (a : Actuator) : Bool :=
  stopActive s a .inStop && stopActive s a .outStop

/-- A stop pin takes its active level, or the other one. -/
def setStop (a : Actuator) (e : StopEnd) (active : Bool) (s : State) : State :=
  let level := activeLevel (stopSense (s.params.actuator a) e)
  s.setMotion { s.motion with
    pins := setPin s.motion.pins (if active then level else !level) a e }

/-- An arrival without a conflict, by state (R118). -/
def arrive (a : Actuator) (e : StopEnd) (s : State) : State :=
  match (act s.motion a).state, e with
  | .retracting, .inStop | .extending, .outStop => endAtStop a e s
  | .extended, .inStop | .stoppedMid, .inStop => takeEnd a e s
  | .stoppedMid, .outStop | .stowed, .outStop => takeEnd a e s
  | _, _ => s

/-- An arrival edge of a stop (R118, R123). -/
def arrivalAt (a : Actuator) (e : StopEnd) (s : State) : State :=
  let s1 := setStop a e true s
  if (act s.motion a).state = .fault then s1
  else if stopConflict s1 a then enterFault a .conflict s1
  else arrive a e s1

/-- The vehicle is in use (R130). -/
def inUse (p : Params) (v : VehicleState) : Bool :=
  match v with
  | .unknown => false
  | .known ignition moving => p.gateway && (ignition || moving)

/-- The vehicle interlock is active (R130). -/
def interlockActive (p : Params) (v : VehicleState) : Bool :=
  match v with
  | .unknown => p.gateway
  | .known ignition moving => p.gateway && (ignition || moving)

/-- The still end state of a stop departs (R119). -/
def departsFrom (st : ActState) (e : StopEnd) : Bool := st == endState e

/-- A departure edge of a stop (R119): taken only for a stop of sense both, it makes an actuator at that
end STOPPED-MID, and brings it in while the vehicle is in use. -/
def departureAt (a : Actuator) (e : StopEnd) (s : State) : State :=
  let s1 := setStop a e false s
  let r := act s1.motion a
  if stopSense (s.params.actuator a) e = .both ∧ departsFrom r.state e then
    let s2 := putAct a { r with state := .stoppedMid } s1
    if inUse s.params s.motion.vehicle then
      raiseEvent .interlockRetract (autoRetract a .vehicle s2)
    else s2
  else s1

/-- The position one hall edge on, saturating at 0 and at the travel length (R114). -/
def positionAfter (p : ActuatorParams) (d : Drive) (n : Nat) : Nat :=
  match d with
  | .off => n
  | .outward => min (n + 1) p.length
  | .inward => n - 1

/-- A hall edge: counted only while the motor is driven, when it also restarts the stall timer (R114,
R121). -/
def hallEdgeAt (a : Actuator) (s : State) : State :=
  let r := act s.motion a
  if r.motor = .off then s
  else putAct a { r with
    position := positionAfter (s.params.actuator a) r.motor r.position
    stallTimer := some 0 } s

/-! ## Motor current (R122) -/

/-- The overcurrent timer after a crossing: it starts at 0 when the current rises above the latched limit,
and goes idle when it is at or below it. -/
def overAfter (l : Latched) (current : Nat) (timer : Option Nat) : Option Nat :=
  if l.limit < current then some (timer.getD 0) else none

/-- The sensed motor current crosses its limit; it is compared only while the motor is driven. -/
def currentCrossing (a : Actuator) (current : Nat) (s : State) : State :=
  let r := act s.motion a
  match r.latched with
  | none => s
  | some l => putAct a { r with overTimer := overAfter l current r.overTimer } s

/-- The overcurrent timer reaches 200 ms (R122). -/
def overcurrentAt (a : Actuator) (s : State) : State :=
  if (act s.motion a).motor = .inward then enterFault a .obstructed s
  else
    match a with
    | .step => recordCause .step .stow (reverseInward .step s)
    | .awning => endTravel .awning .stoppedMid s

/-! ## The vehicle interlock (R130, R132, R133) -/

/-- The actuator is in neither STOWED nor FAULT (R132). -/
def isOut (s : State) (a : Actuator) : Bool :=
  (act s.motion a).state != .stowed && (act s.motion a).state != .fault

/-- The interlock rise (R132). -/
def interlockRise (s : State) : State :=
  let hosted := hostedActs s.params
  let s1 := hosted.foldl (fun x a => autoRetract a .vehicle x) s
  if hosted.any (isOut s) then raiseEvent .interlockRetract s1 else s1

/-- An extending actuator is stopped (R133). -/
def stopExtension (s : State) (a : Actuator) : State :=
  if (act s.motion a).state = .extending then endTravel a .stoppedMid s else s

/-- The interlock is active without a rise (R133). -/
def interlockHolds (s : State) : State := (hostedActs s.params).foldl stopExtension s

/-- A vehicle state is handed over by the peer table (R130). -/
def handVehicle (v : VehicleState) (s : State) : State :=
  let s1 := s.setMotion { s.motion with vehicle := v }
  if inUse s.params v && !inUse s.params s.motion.vehicle then interlockRise s1
  else if interlockActive s.params v then interlockHolds s1
  else s1

/-! ## STOW and storage mode (R136, R137) -/

/-- The hold and its mark after an override STOW has acted on an actuator (R136): the mark on one that is
then RETRACTING, and the hold cleared on one that became STOWED at once. -/
def afterOverride (before : ActState) (r : ActRec) : ActRec :=
  if r.state = .retracting then { r with releaseMark := true }
  else if r.state = .stowed ∧ before ≠ .stowed then { r with hold := false }
  else r

/-- A STOW acts on one actuator (R136). -/
def stowOne (override : Bool) (s : State) (a : Actuator) : State :=
  let r := act s.motion a
  if r.hold && !override then s
  else
    let s1 := autoRetract a .stow s
    if override then putAct a (afterOverride r.state (act s1.motion a)) s1 else s1

/-- A STOW (R136). -/
def takeStow (override : Bool) (s : State) : State :=
  (hostedActs s.params).foldl (stowOne override) s

/-- The entry into storage mode: the flag, and a STOW without override (R137). -/
def motionEntersStorage (s : State) : State :=
  takeStow false (s.setMotion { s.motion with storage := true })

/-- The exit from storage mode (R137). -/
def motionExitsStorage (s : State) : State := s.setMotion { s.motion with storage := false }

/-! ## The wind meter (R134, R135) -/

/-- The period between two captures; 0 is taken as 1 (R134). -/
def windPeriod (last now : Nat) : Nat := max 1 (now - last)

/-- A gust (R135): the awning is brought in with cause WIND if it is EXTENDING, EXTENDED or
STOPPED-MID. -/
def takeGust (s : State) : State :=
  match s.motion.awning.state with
  | .extending | .extended | .stoppedMid =>
    raiseEvent .windRetract (autoRetract .awning .wind s)
  | _ => s

/-- The gust count after a speed (R135), before a gust sets it back. -/
def gustsAfter (p : WindParams) (speed gusts : Nat) : Nat :=
  if p.threshold ≤ speed then gusts + 1 else 0

/-- The wind meter stored. -/
def putWind (w : WindMeter) (s : State) : State := s.setMotion { s.motion with wind := w }

/-- A rising edge of the anemometer input (R134, R135). -/
def windEdge (s : State) : State :=
  let w := s.motion.wind
  match w.lastCapture with
  | none => putWind { w with lastCapture := some s.clock, silence := some 0 } s
  | some last =>
    let speed := s.params.wind.kw / windPeriod last s.clock
    let gusts := gustsAfter s.params.wind speed w.gusts
    let w1 := { w with lastCapture := some s.clock, silence := some 0, speed := speed }
    if gusts < 3 then putWind { w1 with gusts := gusts } s
    else takeGust (putWind { w1 with gusts := 0 } s)

/-- The silence timer reaches 2000 ms (R134). DESIGN CHOICE (assumption 19): it is then idle until the next
edge starts it. -/
def windFallsSilent (s : State) : State :=
  putWind { lastCapture := none, speed := 0, gusts := 0, silence := none } s

/-! ## Step-out and the MOTION telegram (R138 to R140) -/

/-- The own step-out (R138). -/
def ownStepOut (s : State) : Bool := s.params.step.hosted && s.motion.step.state != .stowed

/-- The own step-out after a command against that before it: a change is handed to the light controller
(R138). -/
def stepOutAfter (before : State) (s : State) : State :=
  if ownStepOut s = ownStepOut before then s else handOwnStepOut (ownStepOut s) s

/-- The code of an actuator state (chapter 11); 0 is not hosted. -/
def actCode : ActState → Byte
  | .stowed => 1#8
  | .extending => 2#8
  | .extended => 3#8
  | .retracting => 4#8
  | .stoppedMid => 5#8
  | .fault => 6#8

/-- The faults and hold byte of MOTION (chapter 11). -/
def faultByte (r : ActRec) : Byte :=
  bitOf 0 r.faults.travelTimeout ||| bitOf 1 r.faults.stall ||| bitOf 2 r.faults.obstructed
  ||| bitOf 3 r.faults.conflict ||| bitOf 7 r.hold

/-- The four bytes of an actuator in MOTION; of one that is not hosted the state code 0, the position,
fault and hold fields being free values (assumption 6). The bits that no table defines are 0 (chapter
11). -/
def actBytes (s : State) (a : Actuator) (k : Nat) : List Byte :=
  let p := s.params.actuator a
  let r := act s.motion a
  if p.hosted then
    [actCode r.state] ++ natBytes (r.position * 1000 / p.length) ++ [faultByte r]
  else
    let f := freeField s k
    [0#8] ++ wordBytes (f.extractLsb' 0 16) ++ [f.extractLsb' 16 8 &&& 0x8F#8]

/-- A MOTION's payload (R140). -/
def motionPayload (s : State) : List Byte :=
  actBytes s .awning 0 ++ actBytes s .step 1
  ++ [if s.params.wind.hosted then 1#8 else 0#8] ++ natBytes s.motion.wind.speed

/-- The station forms MOTION telegrams (R139). -/
def formsMotion (s : State) : Bool :=
  (s.params.awning.hosted || s.params.step.hosted || s.params.wind.hosted)
  && s.boot.station != 0#4

/-- A MOTION is queued, and the MOTION timer restarts (R139). DESIGN CHOICE (assumption 18): on a station that
forms none the timer runs on to its end and stands there. -/
def queueMotion (s : State) : State :=
  if formsMotion s then
    drawFree 2 (sendTelegram .motion (motionPayload s)
      (s.setMotion { s.motion with motionTimer := 0 }))
  else s

/-- What MOTION reports at once: the state, fault set and hold of an actuator (R139). -/
def trackedAct (s : State) (a : Actuator) : ActState × FaultSet × Bool :=
  let r := act s.motion a
  (r.state, r.faults, r.hold)

/-- A change of a hosted actuator's state, fault set or hold queues a MOTION, once for the command
(R139). -/
def motionAfter (before : State) (s : State) : State :=
  if (hostedActs s.params).any fun a => trackedAct before a != trackedAct s a then queueMotion s
  else s

/-! ## Start (R141) -/

/-- An actuator's start state from its stops (R141), its fault set apart. -/
def startState (inActive outActive : Bool) : ActState :=
  if inActive && outActive then .fault
  else if inActive then .stowed
  else if outActive then .extended
  else .stoppedMid

/-- An actuator's start position (R141). -/
def startPosition (p : ActuatorParams) (inActive outActive : Bool) : Nat :=
  if inActive && outActive then p.length / 2
  else if inActive then 0
  else if outActive then p.length
  else p.length / 2

/-- A hosted actuator takes its start state; one that starts in FAULT raises ACTUATOR-FAULT (R141). -/
def startAct (s : State) (a : Actuator) : State :=
  let i := stopActive s a .inStop
  let o := stopActive s a .outStop
  let s1 := putAct a { ActRec.reset with
    state := startState i o, position := startPosition (s.params.actuator a) i o
    faults := { FaultSet.empty with conflict := i && o } } s
  if i && o then countFault (raiseEvent .actuatorFault s1) else s1

/-- The motion controller starts from its reset values: the stops read, the silence timer of a hosted wind
meter started, and the first MOTION (R139, R141). DESIGN CHOICE (assumption 19): without a hosted wind meter the
silence timer stays idle. -/
def startMotion (inputs : StartInputs) (s : State) : State :=
  let s1 := s.setMotion { s.motion with
    pins := ⟨inputs.awningIn, inputs.awningOut, inputs.stepIn, inputs.stepOut⟩
    wind := { WindMeter.reset with silence := if s.params.wind.hosted then some 0 else none } }
  queueMotion ((hostedActs s1.params).foldl startAct s1)

end Sys2Proof.Machine
end

