-- ==== Sys2Proof/Machine/Water.lean ====
section
/-! DEFINITION. The water controller (chapter 5): tank senders, filters and states, the pump and its
blocks, the frost heater, the frost dwell and the dump valve, the TANKS telegram, and the start. -/

namespace Sys2Proof.Machine

/-- The load record of the frost heater. -/
def heaterLoad : Fin 17 := 12
/-- The load record of the pump. -/
def pumpLoad : Fin 17 := 13
/-- The load record of the dump valve. -/
def valveLoad : Fin 17 := 14

/-! ## Tank senders, filters and states (R89 to R93) -/

/-- A sender reading: a raw level, or none for a sender fault, further than 20 beyond either end of the
calibration table (R89). -/
def rawLevel (table : List Point) (reading : Adc) : Option Nat :=
  let x : Int := reading.toNat
  if firstArg table - 20 ≤ x ∧ x ≤ lastArg table + 20 then
    some (clipInt 0 1000 (lookup table x)).toNat
  else none

/-- The filtered level one reading on: an eighth of the difference, rounded toward minus infinity
(R90). -/
def filterStep (filtered raw : Nat) : Nat := ((filtered : Int) + ((raw : Int) - filtered) / 8).toNat

/-- The filtered level after a good reading: seeded if absent, held while the vehicle moves, and
otherwise one filter step on (R90, R91). -/
def filterAfter (moving : Bool) (raw : Nat) : Option Nat → Nat
  | none => raw
  | some f => if moving then f else filterStep f raw

/-- The state of the fresh tank derived from its filtered level and the state before (R92). -/
def deriveFresh (level : Nat) (before : TankState) : TankState :=
  if level < 30 then .empty
  else if level < 50 ∧ before = .empty then .empty
  else if level < 150 then .low
  else if level < 170 ∧ (before = .low ∨ before = .empty) then .low
  else .normal

/-- The state of the grey or black tank derived from its filtered level and the state before (R92). -/
def deriveWaste (level : Nat) (before : TankState) : TankState :=
  if 950 < level then .full
  else if 930 < level ∧ before = .full then .full
  else if 800 < level then .high
  else if 780 < level ∧ (before = .high ∨ before = .full) then .high
  else .normal

/-- The state a derivation starts from: NORMAL after a fault (R92, R93). -/
def stateBefore (t : Tank) : TankState := if t.state = .fault then .normal else t.state

/-- A tank after a reading (R89 to R93): a fault sets FAULT; a good reading updates the filter and, unless
the slosh freeze holds it, derives the state. -/
def readTank (derive : Nat → TankState → TankState) (table : List Point) (moving : Bool)
    (reading : Adc) (t : Tank) : Tank :=
  match rawLevel table reading with
  | none => { t with state := .fault }
  | some raw =>
    let level := filterAfter moving raw t.filtered
    { raw := some raw, filtered := some level
      state := if moving then stateBefore t else derive level (stateBefore t) }

/-- A tank enters a state it was not in, by its derivation (R92, R93). -/
def enters (before after : Tank) (st : TankState) : Bool :=
  after.state == st && before.state != st

/-- The fresh tank is read; an entry to EMPTY raises TANK-EMPTY (R92). -/
def readFresh (reading : Adc) (s : State) : State :=
  let p := s.params.water.fresh
  if p.hosted then
    let t := readTank deriveFresh p.table s.water.moving reading s.water.fresh
    let s1 := s.setWater { s.water with fresh := t }
    if enters s.water.fresh t .empty then raiseEvent .tankEmpty s1 else s1
  else s

/-- The grey tank is read; an entry to FULL raises TANK-FULL (R92). -/
def readGrey (reading : Adc) (s : State) : State :=
  let p := s.params.water.grey
  if p.hosted then
    let t := readTank deriveWaste p.table s.water.moving reading s.water.grey
    let s1 := s.setWater { s.water with grey := t }
    if enters s.water.grey t .full then raiseEvent .tankFull s1 else s1
  else s

/-- The black tank is read; an entry to FULL raises TANK-FULL (R92). -/
def readBlack (reading : Adc) (s : State) : State :=
  let p := s.params.water.black
  if p.hosted then
    let t := readTank deriveWaste p.table s.water.moving reading s.water.black
    let s1 := s.setWater { s.water with black := t }
    if enters s.water.black t .full then raiseEvent .tankFull s1 else s1
  else s

/-! ## The pump (R94 to R99) -/

/-- The pump asked for or released by its blocks and its demand: released while a block holds (R95), and
otherwise asked for while demand is set and released while it is clear (R96). -/
def evalPump (s : State) : State :=
  if !s.params.water.pump then s
  else
    let p := s.water.pump
    if pumpBlocked s || !p.demand then
      if p.load = .off then s else release pumpLoad s
    else if p.load = .off then ask pumpLoad s
    else s

/-- The pump record written. -/
def putPump (p : Pump) (s : State) : State := s.setWater { s.water with pump := p }

/-- An edge of the pressure switch (R94). -/
def pressureEdge (closing : Bool) (s : State) : State :=
  if s.params.water.pump && s.water.pump.demand != closing then
    evalPump (putPump { s.water.pump with demand := closing } s)
  else s

/-- The run timer reaches 120 s (R98). -/
def pumpRunsDry (s : State) : State :=
  evalPump (raiseEvent .pumpDry (putPump { s.water.pump with dryLock := true } s))

/-! ## The frost heater, the frost dwell and the dump valve (R100 to R106) -/

/-- The heater demand after a reading (R101): none is a sensor fault. -/
def demandAfter (reading : Option Int) (demand : Bool) : Bool :=
  match reading with
  | none => true
  | some t => if t ≤ 30 then true else if 60 ≤ t then false else demand

/-- The frost record after a temperature reading (R100, R101). -/
def frostRead (reading : Option Int) (f : Frost) : Frost :=
  { f with temp := reading.or f.temp, faulted := reading.isNone
           demand := demandAfter reading f.demand }

/-- The frost heater asked for or released by its demand (R101). -/
def demandHeater (s : State) : State :=
  let f := s.water.frost
  if f.demand ∧ f.load = .off then ask heaterLoad s
  else if ¬ f.demand ∧ f.load ≠ .off then release heaterLoad s
  else s

/-- The frost dwell evaluated (R103). -/
def checkDwell (s : State) : State := s.setWater { s.water with frost := evalDwell s.water.frost }

/-- The fresh-tank temperature reading, followed by the heater demand and the frost dwell (R100). -/
def readFrost (reading : Adc) (s : State) : State :=
  if s.params.water.frost then
    checkDwell (demandHeater (s.setWater { s.water with
      frost := frostRead (convertTemp s.params.tempTable reading) s.water.frost }))
  else s

/-- The frost dwell reaches 600 s: the dump valve opens (R104). -/
def openValve (s : State) : State :=
  let s1 := ask valveLoad s
  let s2 := s1.setWater { s1.water with
    frost := { s1.water.frost with valveOpen := true, dwell := none } }
  let s3 := raiseEvent .frostDump s2
  evalPump (s3.setWater { s3.water with frostDumps := countUp s3.water.frostDumps })

/-- The tank temperature is good and above 5.0 degrees (R106). -/
def frostWarm (f : Frost) : Bool :=
  match f.temp with
  | some t => !f.faulted && decide (50 < t)
  | none => false

/-- The dump valve closes (R106). -/
def closeValve (s : State) : State :=
  let s1 := release valveLoad (s.setWater { s.water with
    frost := { s.water.frost with valveOpen := false } })
  evalPump (checkDwell s1)

/-! ## The tank period (R89) -/

/-- The fresh or grey state changed (R95). -/
def tankStateChanged (before after : Water) : Bool :=
  before.fresh.state != after.fresh.state || before.grey.state != after.grey.state

/-- A tank period: the hosted tanks in the order fresh, grey, black, the pump blocks where the fresh or
grey state changed, and the fresh-tank temperature (R89, R95, R100). DESIGN CHOICE (assumption 9): the pump
is asked for or released before the temperature's heater ask. -/
def tankPeriodOf (fresh grey black temp : Adc) (s : State) : State :=
  let s1 := readBlack black (readGrey grey (readFresh fresh
    (s.setWater { s.water with periodTimer := 0 })))
  let s2 := if tankStateChanged s.water s1.water then evalPump s1 else s1
  readFrost temp s2

/-! ## Facts handed over by the peer table (R91, R95) -/

/-- The moving flag is handed over (R91). -/
def handMoving (moving : Bool) (s : State) : State := s.setWater { s.water with moving := moving }

/-- The peer grey full fact is handed over (R95). -/
def handGreyFull (full : Bool) (s : State) : State :=
  evalPump (s.setWater { s.water with peerGreyFull := full })

/-! ## The TANKS telegram (R108, R109) -/

/-- The code of a tank state (chapter 11); 0 is not hosted. -/
def tankCode (hosted : Bool) (t : Tank) : Byte :=
  if !hosted then 0#8
  else
    match t.state with
    | .normal => 1#8
    | .low => 2#8
    | .empty => 3#8
    | .high => 4#8
    | .full => 5#8
    | .fault => 6#8

/-- A tank's three bytes: its state, and its filtered level or 0xFFFF for no level (R109). -/
def tankBytes (hosted : Bool) (t : Tank) : List Byte :=
  tankCode hosted t :: wordBytes (if hosted then
    (match t.filtered with
     | none => 0xFFFF#16
     | some n => BitVec.ofNat 16 n)
    else 0xFFFF#16)

/-- The code of the pump state (R109, chapter 11). -/
def pumpCode (s : State) : BitVec 3 :=
  if !s.params.water.pump then 0#3
  else if s.water.pump.dryLock then 6#3
  else if otherPumpBlock s then 5#3
  else
    match s.water.pump.load with
    | .off => 1#3
    | .waiting => 2#3
    | .admitted => 3#3
    | .shed _ | .reduced _ => 4#3

/-- The code of the frost heater state (R109, chapter 11). -/
def heaterCode (s : State) : BitVec 3 :=
  if !s.params.water.frost then 0#3
  else
    match s.water.frost.load with
    | .off => 1#3
    | .waiting => 2#3
    | .admitted => 3#3
    | .shed _ | .reduced _ => 4#3

/-- The code of the valve (chapter 11). -/
def valveCode (s : State) : BitVec 2 :=
  if !s.params.water.frost then 0#2 else if s.water.frost.valveOpen then 2#2 else 1#2

/-- The tank temperature field (chapter 11): 0x7FFF faulted, 0x8000 no reading or not hosted. -/
def tankTempWord (s : State) : Word :=
  if !s.params.water.frost then 0x8000#16
  else if s.water.frost.faulted then 0x7FFF#16
  else
    match s.water.frost.temp with
    | none => 0x8000#16
    | some t => BitVec.ofInt 16 t

/-- A TANKS's payload (R109). -/
def tanksPayload (s : State) : List Byte :=
  tankBytes s.params.water.fresh.hosted s.water.fresh
  ++ tankBytes s.params.water.grey.hosted s.water.grey
  ++ tankBytes s.params.water.black.hosted s.water.black
  ++ [pumpCode s ++ heaterCode s ++ valveCode s] ++ wordBytes (tankTempWord s)

/-- The station hosts one of the five water functions (R108). -/
def hostsWater (p : Params) : Bool :=
  p.water.fresh.hosted || p.water.grey.hosted || p.water.black.hosted || p.water.pump
  || p.water.frost

/-- The station forms TANKS telegrams: it hosts a water function and is configured (R108). -/
def formsTanks (s : State) : Bool := hostsWater s.params && s.boot.station != 0#4

/-- A TANKS is queued, and the TANKS timer restarts (R108). DESIGN CHOICE (assumption 18): on a station that
forms none the timer runs on to its end and stands there. -/
def queueTanks (s : State) : State :=
  if formsTanks s then
    sendTelegram .tanks (tanksPayload s)
      (s.setWater { s.water with tanksTimer := 0, tanksDue := false })
  else s

/-- The tracked states: the tank states, and the pump, frost heater and valve states (R108). -/
def trackedWater (s : State) : List Byte :=
  [tankCode s.params.water.fresh.hosted s.water.fresh,
   tankCode s.params.water.grey.hosted s.water.grey,
   tankCode s.params.water.black.hosted s.water.black,
   pumpCode s ++ heaterCode s ++ valveCode s]

/-- The tracked states after a command against those before it: a change queues a TANKS when the spacing
has passed, and otherwise makes one due (R108). -/
def tanksAfter (before : State) (s : State) : State :=
  if trackedWater s = trackedWater before ∨ !formsTanks s then s
  else if Config.tanksSpacingMs ≤ s.water.tanksTimer then queueTanks s
  else s.setWater { s.water with tanksDue := true }

/-! ## Start (R94, R108, R110) -/

/-- The water controller starts from its reset values: the pump's demand from the switch, its first tank
period, and the first TANKS (R89, R94, R108, R110). -/
def startWater (inputs : StartInputs) (s : State) : State :=
  let s1 := putPump { s.water.pump with demand := s.params.water.pump && inputs.pressure } s
  let s2 := tankPeriodOf inputs.fresh inputs.grey inputs.black inputs.tankTemp s1
  queueTanks (evalPump s2)

end Sys2Proof.Machine
end

