-- ==== Sys2Proof/Machine/Peers.lean ====
section
/-! DEFINITION. The peer table (chapter 2): entries and their parts, ageing and removal, the derived
facts, and their handover to the budget unit, the motion, water and light controllers. -/

namespace Sys2Proof.Machine

/-! ## Entries -/

/-- The entry of an origin. -/
def findPeer (n : Station) (l : List PeerEntry) : Option PeerEntry := l.find? fun e => e.station == n

/-- The entries without one of them. -/
def dropPeer (n : Station) (l : List PeerEntry) : List PeerEntry :=
  l.filter fun e => e.station != n

/-- A new entry (R25): FRESH, its silence timer at 0, without parts. -/
def newPeer (n : Station) : PeerEntry :=
  { station := n, stale := false, silence := 0, claim := none, battery := none, supply := none
    vehicle := none, motion := none, tanks := none }

/-- An entry put in its place in the order of station number (R23). -/
def insertPeer (e : PeerEntry) (l : List PeerEntry) : List PeerEntry :=
  (l.takeWhile fun x => decide (x.station.toNat < e.station.toNat)) ++ e ::
  (l.dropWhile fun x => decide (x.station.toNat < e.station.toNat))

/-- The entry of one station changed. -/
def mapPeer (n : Station) (f : PeerEntry → PeerEntry) (l : List PeerEntry) : List PeerEntry :=
  l.map fun e => if e.station = n then f e else e

/-! ## What each kind leaves behind (R27, R192) -/

/-- The claim part of a CLAIM. -/
def claimPart (b : List Byte) : PerClass Nat :=
  ⟨natAt16 b 0, natAt16 b 2, natAt16 b 4, natAt16 b 6⟩

/-- The battery part of a BATTERY; a state of charge above 1000 is taken as 1000. -/
def batteryPart (b : List Byte) : BatteryPart :=
  { letter := if (byteAt b 0).getLsbD 0 then .b else .a, soc := min (natAt16 b 1) 1000
    limit := natAt16 b 9 }

/-- The supply part of a SUPPLY. -/
def supplyPart (b : List Byte) : SupplyPart :=
  { shore := (byteAt b 0).getLsbD 0, allowance := natAt16 b 1, generation := natAt16 b 3 }

/-- The vehicle part of a VEHICLE. -/
def vehiclePart (b : List Byte) : VehiclePart :=
  { ignition := (byteAt b 0).getLsbD 0, moving := (byteAt b 0).getLsbD 1 }

/-- A MOTION reports the sender's step out: any step state code but 0 and 1 (R192). -/
def motionPart (b : List Byte) : Bool := byteAt b 4 != 0#8 && byteAt b 4 != 1#8

/-- A TANKS reports the sender's grey tank full: grey state code 5 (R192). -/
def tanksPart (b : List Byte) : Bool := byteAt b 3 == 5#8

/-- The part that a kind fills is replaced whole by the content of a telegram; other kinds fill none
(R26, R27). -/
def fillPart (k : Option Kind) (b : List Byte) (e : PeerEntry) : PeerEntry :=
  match k with
  | some .claim => { e with claim := some (claimPart b) }
  | some .battery => { e with battery := some (batteryPart b) }
  | some .supply => { e with supply := some (supplyPart b) }
  | some .vehicle => { e with vehicle := some (vehiclePart b) }
  | some .motion => { e with motion := some (motionPart b) }
  | some .tanks => { e with tanks := some (tanksPart b) }
  | _ => e

/-- An entry hears a telegram: its timer restarts, it is FRESH, and its part is filled (R26). -/
def hearPeer (k : Option Kind) (b : List Byte) (e : PeerEntry) : PeerEntry :=
  fillPart k b { e with silence := 0, stale := false }

/-! ## Derived facts (R32 to R36) -/

/-- The item an entry gives the peer banks fact (R32). -/
def peerBankOf (e : PeerEntry) : Option PeerBank :=
  e.battery.map fun b => { station := e.station, letter := b.letter, soc := b.soc, limit := b.limit }

/-- The peer banks fact (R32). -/
def peerBanks (l : List PeerEntry) : List PeerBank := l.filterMap peerBankOf

/-- What a supply part adds to the supply sum (R33). -/
def supplyOf (p : SupplyPart) : Nat := (if p.shore then p.allowance else 0) + p.generation

/-- The supply sum (R33). -/
def supplySum (l : List PeerEntry) : Nat :=
  (l.map fun e => (e.supply.map supplyOf).getD 0).sum

/-- The supply-known flag (R33). -/
def supplyKnown (l : List PeerEntry) : Bool := l.any fun e => e.supply.isSome

/-- The peer claim sum of a class (R34). -/
def claimSum (l : List PeerEntry) (c : LoadClass) : Nat :=
  (l.map fun e => (e.claim.map fun p => perClass p c).getD 0).sum

/-- The peer claim sums fact (R34). -/
def claimSums (l : List PeerEntry) : PerClass Nat :=
  ⟨claimSum l .c0, claimSum l .c1, claimSum l .c2, claimSum l .c3⟩

/-- The vehicle state fact (R35). -/
def vehicleState (l : List PeerEntry) : VehicleState :=
  let parts := l.filterMap PeerEntry.vehicle
  if parts.isEmpty then .unknown
  else .known (parts.any VehiclePart.ignition) (parts.any VehiclePart.moving)

/-- The peer step out fact (R36). -/
def peerStepOut (l : List PeerEntry) : Bool := l.any fun e => e.motion == some true

/-- The peer grey full fact (R36). -/
def peerGreyFull (l : List PeerEntry) : Bool := l.any fun e => e.tanks == some true

/-- The moving flag of a vehicle state; UNKNOWN is not moving (R35, R91). -/
def movingFlag : VehicleState → Bool
  | .unknown => false
  | .known _ moving => moving

/-! ## Handing the view on (R37) -/

/-- The quantity facts go to the budget unit. -/
def handQuantityFacts (s : State) : State :=
  let l := s.peers.entries
  handQuantities (peerBanks l) (supplySum l) (supplyKnown l) (claimSums l) s

/-- A changed vehicle state goes to the motion controller, and a changed moving flag to the water
controller. -/
def handVehicleFact (s : State) : State :=
  let v := vehicleState s.peers.entries
  if v = s.peers.lastVehicle then s
  else
    let s1 := handVehicle v (s.setPeers { s.peers with lastVehicle := v })
    if movingFlag v = movingFlag s.peers.lastVehicle then s1 else handMoving (movingFlag v) s1

/-- A changed peer step out fact goes to the light controller. -/
def handStepFact (s : State) : State :=
  let f := peerStepOut s.peers.entries
  if f = s.peers.lastStepOut then s
  else handPeerStepOut f (s.setPeers { s.peers with lastStepOut := f })

/-- A changed peer grey full fact goes to the water controller. -/
def handGreyFact (s : State) : State :=
  let f := peerGreyFull s.peers.entries
  if f = s.peers.lastGreyFull then s
  else handGreyFull f (s.setPeers { s.peers with lastGreyFull := f })

/-- The condition facts that changed are handed on. -/
def handConditions (s : State) : State := handGreyFact (handStepFact (handVehicleFact s))

/-- The kinds whose part feeds a quantity fact. -/
def feedsQuantities : Option Kind → Bool
  | some .claim | some .battery | some .supply => true
  | _ => false

/-- The kinds that fill a part (R27). -/
def fillsPart : Option Kind → Bool
  | some .claim | some .battery | some .supply | some .vehicle | some .motion | some .tanks => true
  | _ => false

/-- The view after an arrival of a kind (R26, R37). -/
def handAfterArrival (k : Option Kind) (s : State) : State :=
  if fillsPart k then
    handConditions (if feedsQuantities k then handQuantityFacts s else s)
  else s

/-! ## Removal (R29) and arrival (R25, R26, R31) -/

/-- The removal of an entry calls for PEER-LOST (R29). -/
def losesPeer (e : PeerEntry) : Bool :=
  e.claim.isSome || e.battery.isSome || e.supply.isSome || e.vehicle.isSome

/-- One more lost peer is counted (R29). -/
def countLost (s : State) : State :=
  s.setPeers { s.peers with peersLost := countUp s.peers.peersLost }

/-- The removal of an entry: PEER-LOST and its count where its parts call for them, and the view change
handed on (R29). -/
def removePeer (e : PeerEntry) (s : State) : State :=
  let s1 := s.setPeers { s.peers with entries := dropPeer e.station s.peers.entries }
  let s2 := if losesPeer e then countLost (raiseEvent .peerLost s1) else s1
  handConditions (handQuantityFacts s2)

/-- The STALE entry whose silence timer stands highest, the lower number first among equals (R31). -/
def longestStale (l : List PeerEntry) : Option PeerEntry :=
  (l.filter PeerEntry.stale).foldl
    (fun best e =>
      match best with
      | none => some e
      | some b => if b.silence < e.silence then some e else some b) none

/-- Room made for a new origin in a full table, if a STALE entry can be displaced (R31). -/
def makeRoom (s : State) : State :=
  if s.peers.entries.length < 14 then s
  else
    match longestStale s.peers.entries with
    | some e => removePeer e s
    | none => s

/-- The entry of an origin made ready to hear its telegram: it is created where there is room (R25,
R31). -/
def withPeer (n : Station) (s : State) : State :=
  match findPeer n s.peers.entries with
  | some _ => s
  | none =>
    let s1 := makeRoom s
    if s1.peers.entries.length < 14 then
      s1.setPeers { s1.peers with entries := insertPeer (newPeer n) s1.peers.entries }
    else s1

/-- A valid telegram reaches the peer table (R24 to R26). A telegram for which there is no entry leaves
nothing (R31). -/
def peerArrival (n : Station) (k : Option Kind) (b : List Byte) (s : State) : State :=
  let s1 := withPeer n s
  match findPeer n s1.peers.entries with
  | none => s1
  | some _ =>
    handAfterArrival k (s1.setPeers { s1.peers with
      entries := mapPeer n (hearPeer k b) s1.peers.entries })

/-! ## Silence (R28, R29) -/

/-- A FRESH entry whose silence timer has reached 3000 ms becomes STALE (R28). -/
def goStale (n : Station) (s : State) : State :=
  s.setPeers { s.peers with
    entries := mapPeer n (fun e =>
      if Config.staleMs ≤ e.silence then { e with stale := true } else e) s.peers.entries }

/-- An entry whose silence timer has reached 10000 ms is removed (R29). -/
def expirePeer (n : Station) (s : State) : State :=
  match findPeer n s.peers.entries with
  | none => s
  | some e => if Config.removalMs ≤ e.silence then removePeer e s else s

end Sys2Proof.Machine
end

