-- ==== Sys2Proof/Machine/Record.lean ====
section
/-! DEFINITION. The configuration record: its layout (chapter 11, section 11.4), its decoding (R193), its
check (R187), and the parameters the blocks take from it. -/

namespace Sys2Proof.Machine

/-! ## Fields as decoded (R193) -/

/-- `n` points of `size` bytes each from byte `start`. -/
def points (start size n : Nat) (x y : Nat → Int) : List Point :=
  (List.range n).map fun k => ⟨x (start + size * k), y (start + size * k)⟩

/-- The derate table: signed temperature and factor (bytes 18 to 33). DESIGN CHOICE (assumption 20): no rule
gives its temperatures a range, and they are taken as stored. -/
def recDerate (b : List Byte) : List Point :=
  points 18 4 4 (fun k => intAt16 b k) (fun k => natAt16 b (k + 2))

/-- The OCV table: voltage and state of charge ÷ 4 (bytes 34 to 51). -/
def recOcv (b : List Byte) : List Point :=
  points 34 3 6 (fun k => natAt16 b k) (fun k => 4 * natAt8 b (k + 2))

/-- The temperature conversion table: ADC ÷ 16 and signed temperature (bytes 52 to 63). DESIGN CHOICE
(assumption 20): no rule gives its temperatures a range, and they are taken as stored. -/
def recTemp (b : List Byte) : List Point :=
  points 52 3 4 (fun k => 16 * natAt8 b k) (fun k => intAt16 b (k + 1))

/-- The allowance table: state of charge ÷ 4 and factor (bytes 64 to 75). DESIGN CHOICE (assumption 20): no
rule gives the states of charge of its points a range, and they are taken as decoded, up to 1020. -/
def recAllowance (b : List Byte) : List Point :=
  points 64 3 4 (fun k => 4 * natAt8 b k) (fun k => natAt16 b (k + 1))

/-- The calibration table of tank n: ADC ÷ 16 and level ÷ 4, the level brought into its range of 0 to 1000
(bytes 108 to 137; R87). -/
def recTank (b : List Byte) (n : Nat) : List Point :=
  points (108 + 10 * n) 2 5 (fun k => 16 * natAt8 b k) (fun k => clipNat 0 1000 (4 * natAt8 b (k + 1)))

/-- The bank code: 0 none, 1 A, 2 B (byte 1). -/
def recBankCode (b : List Byte) : BitVec 2 := (byteAt b 1).extractLsb' 0 2

/-- The bank letter named, if any. -/
def recBank (b : List Byte) : Option BankLetter :=
  if recBankCode b = 1#2 then some .a else if recBankCode b = 2#2 then some .b else none

/-- The awning is marked hosted. -/
def recAwning (b : List Byte) : Bool := (byteAt b 1).getLsbD 2
/-- The step is marked hosted. -/
def recStep (b : List Byte) : Bool := (byteAt b 1).getLsbD 3
/-- Zone n is marked hosted. -/
def recZone (b : List Byte) (n : Nat) : Bool := (byteAt b 1).getLsbD (4 + n)
/-- The fresh tank is marked hosted. -/
def recFresh (b : List Byte) : Bool := (byteAt b 2).getLsbD 0
/-- The grey tank is marked hosted. -/
def recGrey (b : List Byte) : Bool := (byteAt b 2).getLsbD 1
/-- The black tank is marked hosted. -/
def recBlack (b : List Byte) : Bool := (byteAt b 2).getLsbD 2
/-- The pump is hosted: marked so, on a station that hosts the fresh tank (R86). -/
def recPump (b : List Byte) : Bool := (byteAt b 2).getLsbD 3 && recFresh b
/-- The frost function is hosted: marked so, on a station that hosts the fresh tank (R86). -/
def recFrost (b : List Byte) : Bool := (byteAt b 2).getLsbD 4 && recFresh b
/-- A gateway is present (R111). -/
def recGateway (b : List Byte) : Bool := (byteAt b 2).getLsbD 5
/-- The wind meter is hosted: marked so, on a station that hosts the awning (R111). -/
def recWind (b : List Byte) : Bool := (byteAt b 2).getLsbD 6 && recAwning b

/-- A mode code of CLIMATE and of the record: 0 OFF, 1 FROST-GUARD, 2 ECO, 3 COMFORT. -/
def modeOfCode (c : BitVec 2) : ZoneMode :=
  if c = 0#2 then .off else if c = 1#2 then .frostGuard else if c = 2#2 then .eco else .comfort

/-- A stop-sense code: 0 rising, 1 falling, 2 both. Code 3 fails the record check. -/
def stopSenseOfCode (c : BitVec 2) : StopSense :=
  if c = 0#2 then .rising else if c = 1#2 then .falling else .both

/-- A switch-sense code: 0 none, 1 rising, 2 falling, 3 both. -/
def switchSenseOfCode (c : BitVec 2) : SwitchSense :=
  if c = 0#2 then .none else if c = 1#2 then .rising else if c = 2#2 then .falling else .both

/-- The stop-sense code k of byte 8: awning in, awning out, step in, step out. -/
def recStopCode (b : List Byte) (k : Nat) : BitVec 2 := (byteAt b 8).extractLsb' (2 * k) 2

/-! ## The record check (R187) -/

/-- The arguments of a table's points are strictly ascending. -/
def ascending : List Point → Bool
  | p :: q :: rest => decide (p.x < q.x) && ascending (q :: rest)
  | _ => true

/-- The sum of bytes 0 to 253 modulo 65536 equals the field in bytes 254 and 255. -/
def recSumOk (b : List Byte) : Bool :=
  ((b.take 254).map BitVec.toNat).sum % 65536 == natAt16 b 254

/-- The named codes hold named values; those of an actuator that is not hosted are not read. -/
def recCodesOk (b : List Byte) : Bool :=
  recBankCode b != 3#2
  && (!recAwning b || (recStopCode b 0 != 3#2 && recStopCode b 1 != 3#2))
  && (!recStep b || (recStopCode b 2 != 3#2 && recStopCode b 3 != 3#2))

/-- The pause level of class c, as decoded: four times byte 76, 78 or 80. -/
def recPause (b : List Byte) (c : Nat) : Nat := 4 * natAt8 b (74 + 2 * c)
/-- The resume level of class c, as decoded: four times byte 77, 79 or 81. -/
def recResume (b : List Byte) (c : Nat) : Nat := 4 * natAt8 b (75 + 2 * c)
/-- The share of class c, as decoded: bytes 82 to 87. -/
def recShare (b : List Byte) (c : Nat) : Nat := natAt16 b (80 + 2 * c)

/-- The record names a bank, hosts a zone or hosts the frost function. -/
def recUsesTemp (b : List Byte) : Bool :=
  (recBank b).isSome || recZone b 0 || recZone b 1 || recZone b 2 || recZone b 3 || recFrost b

/-- Every table of a function the record hosts has its points in order. -/
def recTablesOk (b : List Byte) : Bool :=
  ascending (recAllowance b)
  && ((recBank b).isNone || (ascending (recDerate b) && ascending (recOcv b)))
  && (!recUsesTemp b || ascending (recTemp b))
  && (!recFresh b || ascending (recTank b 0))
  && (!recGrey b || ascending (recTank b 1))
  && (!recBlack b || ascending (recTank b 2))

/-- Each resume level is above its pause level. -/
def recLevelsOk (b : List Byte) : Bool :=
  decide (recPause b 1 < recResume b 1) && decide (recPause b 2 < recResume b 2)
  && decide (recPause b 3 < recResume b 3)

/-- The shares do not rise from class to class. -/
def recSharesOk (b : List Byte) : Bool :=
  decide (recShare b 2 ≤ recShare b 1) && decide (recShare b 3 ≤ recShare b 2)

/-- The record passes its check (R187). A record of another length than 256 bytes has not been read. -/
def recordPasses (b : List Byte) : Bool :=
  b.length == 256 && recSumOk b && byteAt b 0 == 3#8 && recCodesOk b && recTablesOk b
  && recLevelsOk b && recSharesOk b

/-! ## The parameters taken from a passed record -/

/-- The bank monitor's parameters, brought into their ranges (R2). -/
def recBankParams (b : List Byte) : Option BankParams :=
  (recBank b).map fun l =>
    { letter := l, cn := clipNat 10 1000 (natAt16 b 9), eta := clipNat 200 256 (200 + natAt8 b 11)
      derate := recDerate b, ocv := recOcv b, restThreshold := clipNat 0 32000 (natAt16 b 12)
      restTime := clipNat 600 65535 (natAt16 b 14), limit := natAt16 b 16 }

/-- The parameters of zone n (R69; bytes 3 and 92 to 107). -/
def recZoneParams (b : List Byte) (n : Nat) : ZoneParams :=
  if recZone b n then
    { hosted := true, defaultMode := modeOfCode ((byteAt b 3).extractLsb' (2 * n) 2)
      kp := natAt8 b (92 + 4 * n), ki := natAt8 b (93 + 4 * n), rated := natAt16 b (94 + 4 * n) }
  else ZoneParams.absent

/-- The parameters of tank n when hosted (R87). -/
def recTankParams (b : List Byte) (hosted : Bool) (n : Nat) : TankParams :=
  if hosted then { hosted := true, table := recTank b n } else TankParams.absent

/-- The water controller's parameters (R86, R87). -/
def recWater (b : List Byte) : WaterParams :=
  { fresh := recTankParams b (recFresh b) 0, grey := recTankParams b (recGrey b) 1
    black := recTankParams b (recBlack b) 2, pump := recPump b, frost := recFrost b
    pumpRated := if recPump b then natAt16 b 138 else 0
    heaterRated := if recFrost b then natAt16 b 140 else 0
    valveRated := if recFrost b then natAt16 b 142 else 0 }

/-- The parameters of the actuator whose fields start at byte `start` (R111). -/
def recActuator (b : List Byte) (hosted : Bool) (start : Nat) (sin sout : BitVec 2) :
    ActuatorParams :=
  if hosted then
    { hosted := true, length := clipNat 1 65535 (natAt16 b start)
      timeout := clipNat 1 255 (natAt8 b (start + 2)), outLimit := natAt16 b (start + 3)
      inLimit := natAt16 b (start + 5), rated := natAt16 b (start + 7)
      inSense := stopSenseOfCode sin, outSense := stopSenseOfCode sout }
  else ActuatorParams.absent

/-- The wind meter's parameters (R111). -/
def recWindParams (b : List Byte) : WindParams :=
  if recWind b then
    { hosted := true, kw := clipNat 1 65535 (natAt16 b 162)
      threshold := clipNat 1 65535 (natAt16 b 164) }
  else WindParams.absent

/-- The switch-sense code of channel n (bytes 6 and 7). -/
def recSwitchCode (b : List Byte) (n : Nat) : BitVec 2 :=
  (byteAt b (6 + n / 4)).extractLsb' (2 * (n % 4)) 2

/-- The parameters of light channel n (R142; bytes 166 to 213). -/
def recChannel (b : List Byte) (n : Nat) : ChannelParams :=
  let k := 166 + 6 * n
  if (byteAt b 4).getLsbD n then
    { hosted := true, courtesy := (byteAt b 5).getLsbD n, rated := natAt16 b k
      defaultLevel := clipNat 1 255 (natAt8 b (k + 2)), truth := byteAt b (k + 3)
      ceiling := natAt8 b (k + 4), fadeStep := clipNat 1 255 (natAt8 b (k + 5))
      sense := switchSenseOfCode (recSwitchCode b n) }
  else ChannelParams.absent

/-- The level of channel n in the scene whose fields start at byte `start`: a stored value v in half a
byte gives v × 17 (R193). -/
def recSceneLevel (b : List Byte) (start n : Nat) : Nat :=
  17 * ((byteAt b (start + 1 + n / 2)).extractLsb' (4 * (n % 2)) 4).toNat

/-- Scene record n (bytes 214 to 253). -/
def recScene (b : List Byte) (n : Nat) : SceneParams :=
  { members := byteAt b (214 + 5 * n)
    levels := Vector.ofFn fun k : Fin 8 => recSceneLevel b (214 + 5 * n) k.val }

/-- The parameters of a record that has passed its check. -/
def paramsOfRecord (b : List Byte) : Params :=
  { bank := recBankParams b, tempTable := recTemp b, allowance := recAllowance b
    pause := ⟨0, clipNat 0 1000 (recPause b 1), clipNat 0 1000 (recPause b 2),
              clipNat 0 1000 (recPause b 3)⟩
    resume := ⟨0, clipNat 0 1000 (recResume b 1), clipNat 0 1000 (recResume b 2),
               clipNat 0 1000 (recResume b 3)⟩
    share := ⟨256, clipNat 0 256 (recShare b 1), clipNat 0 256 (recShare b 2),
              clipNat 0 256 (recShare b 3)⟩
    fallbackBudget := natAt16 b 88, mask := wordAt b 90, levelShedding := true
    zones := Vector.ofFn fun k : Fin 4 => recZoneParams b k.val
    water := recWater b
    awning := recActuator b (recAwning b) 144 (recStopCode b 0) (recStopCode b 1)
    step := recActuator b (recStep b) 153 (recStopCode b 2) (recStopCode b 3)
    wind := recWindParams b, gateway := recGateway b
    channels := Vector.ofFn fun k : Fin 8 => recChannel b k.val
    scenes := Vector.ofFn fun k : Fin 8 => recScene b k.val }

end Sys2Proof.Machine
end

