-- ==== Sys2Proof/Machine/Zones.lean ====
section
/-! DEFINITION. The zone controller (chapter 4): the zone evaluation, the slow-PWM heater outputs,
ZONE-SET, storage mode, the CLIMATE telegram, and the start. -/

namespace Sys2Proof.Machine

/-- The load record of zone n's heater (R69). -/
def zoneLoad (n : Fin 4) : Fin 17 := ⟨8 + n.val, by omega⟩

/-- A zone record written, its heater output brought to R77. -/
def putZone (n : Fin 4) (z : Zone) (s : State) : State :=
  s.setZone { s.zone with zones := s.zone.zones.set n (driveHeater s.zone.window z) }

/-- The zone state that CLIMATE reports (R70). -/
inductive ZoneState where
  | idle | waiting | heating | shed | sensorFault
  deriving DecidableEq, Repr

/-- The zone state derived from the record (R70). -/
def zoneState (z : Zone) : ZoneState :=
  if z.faulted then .sensorFault
  else
    match z.load with
    | .off => .idle
    | .waiting => .waiting
    | .admitted => .heating
    | .shed _ | .reduced _ => .shed

/-! ## The evaluation (R71 to R75) -/

/-- The effective setpoint (R73); mode OFF has none. -/
def effectiveSetpoint (z : Zone) : Option Int :=
  match z.mode with
  | .off => none
  | .frostGuard => some 50
  | .eco => some (z.setpoint - 30)
  | .comfort => some z.setpoint

/-- The duty (R74, item 3): the quotient truncated toward zero, clipped to 0 to 255. -/
def dutyOf (p : ZoneParams) (e integral : Int) : Nat :=
  (clipInt 0 255 ((p.kp * e + p.ki * integral).tdiv 64)).toNat

/-- The integral after an evaluation with error e: it moves only while the heater is ADMITTED (R74,
item 2). -/
def integralAfter (z : Zone) (e : Int) : Int :=
  if z.load = .admitted then clipInt (-4000) 4000 (z.integral + e) else z.integral

/-- The control computation of a zone whose reading is good (R74). -/
def controlZone (p : ZoneParams) (t : Int) (z : Zone) : Zone :=
  match effectiveSetpoint z with
  | none => { z with duty := 0 }
  | some sp =>
    let e := clipInt (-200) 200 (sp - t)
    let i := integralAfter z e
    { z with integral := i, duty := dutyOf p e i }

/-- The heater load is asked for or released according to the duty (R75). -/
def demandHeat (n : Fin 4) (s : State) : State :=
  let z := s.zone.zones[n]
  if z.duty ≠ 0 ∧ z.load = .off then ask (zoneLoad n) s
  else if z.duty = 0 ∧ z.load ≠ .off then release (zoneLoad n) s
  else s

/-- A zone whose reading is outside the conversion table (R72). -/
def faultZone (n : Fin 4) (s : State) : State :=
  let z := s.zone.zones[n]
  let s1 := demandHeat n (putZone n { z with duty := 0, faulted := true } s)
  if z.faulted then s1 else raiseEvent .zoneSensorFault s1

/-- A zone whose reading is good (R72, R74, R75). -/
def heatZone (n : Fin 4) (t : Int) (s : State) : State :=
  let z := { s.zone.zones[n] with temp := some t, faulted := false }
  demandHeat n (putZone n (controlZone s.params.zones[n] t z) s)

/-- A hosted zone is evaluated (R71). -/
def evalZone (readings : Vector Adc 4) (s : State) (n : Fin 4) : State :=
  if s.params.zones[n].hosted then
    match convertTemp s.params.tempTable readings[n] with
    | none => faultZone n s
    | some t => heatZone n t s
  else s

/-! ## The CLIMATE telegram (R84) -/

/-- The code of a zone state (chapter 11). -/
def zoneStateCode : ZoneState → BitVec 3
  | .idle => 1#3
  | .waiting => 2#3
  | .heating => 3#3
  | .shed => 4#3
  | .sensorFault => 5#3

/-- The code of a mode (chapter 11). -/
def modeCode : ZoneMode → BitVec 2
  | .off => 0#2
  | .frostGuard => 1#2
  | .eco => 2#2
  | .comfort => 3#2

/-- The temperature field: tenths plus 400, or 2047 for no reading (chapter 11). -/
def climateTemp : Option Int → BitVec 11
  | none => 2047#11
  | some t => BitVec.ofInt 11 (t + 400)

/-- The three bytes of a zone: a word and the duty; of a zone that is not hosted the state code 0, the
rest being a free value (assumption 6). -/
def climateZone (s : State) (n : Fin 4) : List Byte :=
  let z := s.zone.zones[n]
  if s.params.zones[n].hosted then
    wordBytes (zoneStateCode (zoneState z) ++ modeCode z.mode ++ climateTemp z.temp)
    ++ [BitVec.ofNat 8 z.duty]
  else
    let f := freeField s n.val
    wordBytes (0#3 ++ f.extractLsb' 0 13) ++ [f.extractLsb' 16 8]

/-- A CLIMATE's payload. -/
def climatePayload (s : State) : List Byte := (List.finRange 4).flatMap (climateZone s)

/-- The station hosts a zone. -/
def hostsZone (p : Params) : Bool := (List.finRange 4).any fun n => p.zones[n].hosted

/-- A CLIMATE is formed; a station that hosts no zone, and an unconfigured station, form none (R84). -/
def formClimate (s : State) : State :=
  if hostsZone s.params && s.boot.station != 0#4 then
    drawFree 4 (sendTelegram .climate (climatePayload s) s)
  else s

/-- A zone evaluation (R71). -/
def evalZones (readings : Vector Adc 4) (s : State) : State :=
  formClimate ((List.finRange 4).foldl (evalZone readings)
    (s.setZone { s.zone with periodTimer := 0 }))

/-! ## The window counter (R77) -/

/-- The window counter advances by one, and every heater output follows R77. -/
def stepWindow (s : State) : State :=
  let w := s.zone.window + 1#8
  s.setZone { s.zone with
    window := w, windowTimer := 0, zones := Vector.ofFn fun n => driveHeater w s.zone.zones[n] }

/-! ## ZONE-SET and storage mode (R78 to R82) -/

/-- A setpoint clipped to its range (R78). -/
def clipSetpoint (sp : Int) : Int := clipInt 50 300 sp

/-- The effect of mode OFF at once: integral and duty 0, and the heater released (R79). -/
def zoneOff (n : Fin 4) (s : State) : State :=
  demandHeat n (putZone n { s.zone.zones[n] with mode := .off, integral := 0, duty := 0 } s)

/-- A mode and setpoint taken outside storage mode (R79). -/
def takeMode (n : Fin 4) (mode : ZoneMode) (sp : Int) (s : State) : State :=
  let s1 := putZone n { s.zone.zones[n] with mode := mode, setpoint := sp } s
  if mode = .off then zoneOff n s1 else s1

/-- A mode and setpoint taken while storage mode holds (R81). -/
def takeSavedMode (n : Fin 4) (mode : ZoneMode) (sp : Int) (s : State) : State :=
  putZone n { s.zone.zones[n] with saved := some mode, setpoint := sp } s

/-- A hosted zone enters storage mode (R80). -/
def zoneEntersStorage (s : State) (n : Fin 4) : State :=
  let z := s.zone.zones[n]
  if s.params.zones[n].hosted then putZone n { z with saved := some z.mode, mode := .frostGuard } s
  else s

/-- A hosted zone leaves storage mode (R82). -/
def zoneLeavesStorage (s : State) (n : Fin 4) : State :=
  let z := s.zone.zones[n]
  if s.params.zones[n].hosted then
    let mode := z.saved.getD z.mode
    let s1 := putZone n { z with mode := mode, saved := none } s
    if mode = .off then zoneOff n s1 else s1
  else s

/-- The entry into storage mode (R80). -/
def zonesEnterStorage (s : State) : State := (List.finRange 4).foldl zoneEntersStorage s

/-- The exit from storage mode (R82). DESIGN CHOICE (assumption 9): the zones in the order 0 to 3, each with
its release and admission pass settled before the next. -/
def zonesExitStorage (s : State) : State := (List.finRange 4).foldl zoneLeavesStorage s

/-! ## Start (R83, R85) -/

/-- A zone record at the controller's start: the configured default mode, or, while storage mode holds,
FROST-GUARD with the default mode saved (R83, R85). -/
def startedZone (storage : Bool) (p : ZoneParams) : Zone :=
  if p.hosted then
    if storage then { Zone.reset with mode := .frostGuard, saved := some p.defaultMode }
    else { Zone.reset with mode := p.defaultMode }
  else Zone.reset

/-- The zone controller at its start (R85). -/
def startedZones (p : Params) (storage : Bool) : ZoneCtl :=
  { ZoneCtl.reset with zones := Vector.ofFn fun n => startedZone storage p.zones[n] }

end Sys2Proof.Machine
end

