-- ==== Sys2Proof/Machine/Requests.lean ====
section
/-! DEFINITION. Requests and replies (chapter 9): what each owner decides for its request (R78, R99, R106,
R125 to R129, R154, R181, R182, R190), the REPLY, the dispatch of a whole REQUEST (R175, R176), and
the end of every command, where the status telegrams that a change calls for are handed over. -/

namespace Sys2Proof.Machine

/-! ## The end of a command -/

/-- The end of a command: a changed own step-out reaches the light controller (R138), and a changed
tracked state queues a MOTION (R139) and a TANKS (R108). -/
def publish (before s : State) : State :=
  let s1 := stepOutAfter before s
  tanksAfter before (motionAfter before s1)

/-! ## Outcomes and replies (R177) -/

/-- The eleven outcomes (introduction, "Outcomes and events"). -/
inductive ReplyOutcome where
  | done | clamped | started | pending | notHosted | badRequest | held | fault | interlock | budget
  | storage
  deriving DecidableEq, Repr

/-- The value of an outcome. -/
def outcomeCode : ReplyOutcome → Byte
  | .done => 0#8
  | .clamped => 1#8
  | .started => 2#8
  | .pending => 3#8
  | .notHosted => 4#8
  | .badRequest => 5#8
  | .held => 6#8
  | .fault => 7#8
  | .interlock => 8#8
  | .budget => 9#8
  | .storage => 10#8

/-- What an owner hands back: the outcome and the reply data. -/
structure Answer where
  outcome : ReplyOutcome
  data    : List Byte
  deriving DecidableEq, Repr

/-- An outcome without data. -/
def Answer.bare (o : ReplyOutcome) : Answer := { outcome := o, data := [] }

/-- A REPLY's payload (R177, chapter 11): requester, tag, outcome and data. -/
def replyPayload (rq : Requester) (a : Answer) : List Byte :=
  [rq.origin.setWidth 8, rq.tag, outcomeCode a.outcome] ++ a.data

/-- A request taken is answered by one REPLY, after its owner's decision (R177). -/
def reply (before : State) (rq : Requester) (r : State × Answer) : State :=
  sendTelegram .reply (replyPayload rq r.2) (publish before r.1)

/-- The station takes requests: its blocks run, and its number is not 0 (R175). -/
def takesRequests (s : State) : Bool := s.running && s.boot.station != 0#4

/-- A request addressed here is taken: the owner decides, and the REPLY goes. A station that takes no
request ignores it. -/
def takeRequest (rq : Requester) (decide : State → State × Answer) (s : State) : State :=
  if takesRequests s then reply s rq (decide s) else s

/-- The actuator a byte names (chapter 11). -/
def actuatorOfByte (b : Byte) : Option Actuator :=
  if b = 0#8 then some .awning else if b = 1#8 then some .step else none

/-- A byte that is off, on and the like: 0 or 1 (chapter 11). -/
def flagOfByte (b : Byte) : Option Bool :=
  if b = 0#8 then some false else if b = 1#8 then some true else none

/-! ## ZONE-SET (R78) -/

/-- ZONE-SET decided. -/
def decideZoneSet (zone mode : Byte) (setpoint : Word) (s : State) : State × Answer :=
  if h : zone.toNat < 4 then
    if 4 ≤ mode.toNat then (s, .bare .badRequest)
    else
      let n : Fin 4 := ⟨zone.toNat, h⟩
      let m := modeOfCode (mode.extractLsb' 0 2)
      let sp := clipSetpoint setpoint.toInt
      if !s.params.zones[n].hosted then (s, .bare .notHosted)
      else if s.boot.storage then (takeSavedMode n m sp s, .bare .storage)
      else (takeMode n m sp s, .bare (if sp = setpoint.toInt then .done else .clamped))
  else (s, .bare .badRequest)

/-! ## LIGHT-SET (R154, R155) -/

/-- The code of a load state in a REPLY (chapter 11). -/
def loadCode : LoadState → Byte
  | .off => 0#8
  | .waiting => 1#8
  | .admitted => 2#8
  | .reduced .level => 3#8
  | .reduced .budget => 4#8
  | .shed .level => 5#8
  | .shed .budget => 6#8

/-- The outcome of a LIGHT-SET from the load state it left (R154). -/
def lightOutcome : LoadState → ReplyOutcome
  | .waiting | .shed _ => .pending
  | .off | .admitted | .reduced _ => .done

/-- The reply data of a LIGHT-SET (R155). -/
def lightData (c : Channel) : List Byte :=
  [loadCode c.load, BitVec.ofNat 8 c.setLevel, BitVec.ofNat 8 c.target]

/-- A channel takes a latch and a level (R155). -/
def lightTaken (p : ChannelParams) (on : Bool) (level : Byte) (c : Channel) : Channel :=
  retarget p { c with
    latch := on, setLevel := if level = 0#8 then c.setLevel else level.toNat }

/-- LIGHT-SET decided. -/
def decideLightSet (channel code level : Byte) (s : State) : State × Answer :=
  if h : channel.toNat < 8 then
    match flagOfByte code with
    | none => (s, .bare .badRequest)
    | some on =>
      let n : Fin 8 := ⟨channel.toNat, h⟩
      let p := s.params.channels[n]
      if !p.hosted then (s, .bare .notHosted)
      else if s.light.forcedOff then (s, .bare .storage)
      else
        let s1 := evalChannel (putChannel n (lightTaken p on level s.light.channels[n]) s) n
        let c := s1.light.channels[n]
        (s1, { outcome := lightOutcome c.load, data := lightData c })
  else (s, .bare .badRequest)

/-! ## MOVE, HALT, HOLD-SET and FAULT-CLEAR (R125 to R129) -/

/-- The wind forbids an extension of the awning (R126). -/
def windForbids (s : State) (a : Actuator) : Bool :=
  a == .awning && s.params.wind.hosted && decide (s.params.wind.threshold ≤ s.motion.wind.speed)

/-- MOVE EXTEND of a hosted actuator decided (R126). -/
def moveExtend (a : Actuator) (s : State) : State × Answer :=
  let r := act s.motion a
  if r.state = .fault then (s, .bare .fault)
  else if r.state = .extended ∨ r.state = .extending then (s, .bare .done)
  else if r.hold then (s, .bare .held)
  else if s.motion.storage then (s, .bare .storage)
  else if interlockActive s.params s.motion.vehicle || windForbids s a then (s, .bare .interlock)
  else if r.state = .retracting then
    let s1 := reverseOutward a s
    (s1, .bare (if (act s1.motion a).state = .extending then .started else .budget))
  else
    let s1 := startOutward a s
    (s1, .bare (match (act s1.motion a).state with
      | .extending => .started
      | .extended => .done
      | _ => .budget))

/-- MOVE RETRACT of a hosted actuator decided (R127). -/
def moveRetract (a : Actuator) (s : State) : State × Answer :=
  let r := act s.motion a
  if r.state = .fault then (s, .bare .fault)
  else if r.state = .stowed ∨ r.state = .retracting then (s, .bare .done)
  else if r.hold then (s, .bare .held)
  else if r.state = .extending then (reverseInward a s, .bare .started)
  else
    let s1 := startInward a s
    (s1, .bare (if (act s1.motion a).state = .stowed then .done else .started))

/-- MOVE decided (R126, R127). -/
def decideMove (actuator direction : Byte) (s : State) : State × Answer :=
  match actuatorOfByte actuator, flagOfByte direction with
  | some a, some extend =>
    if !(s.params.actuator a).hosted then (s, .bare .notHosted)
    else if extend then moveExtend a s else moveRetract a s
  | _, _ => (s, .bare .badRequest)

/-- HALT decided (R128). -/
def decideHalt (actuator : Byte) (s : State) : State × Answer :=
  match actuatorOfByte actuator with
  | none => (s, .bare .badRequest)
  | some a =>
    if !(s.params.actuator a).hosted then (s, .bare .notHosted)
    else if isMoving (act s.motion a).state then (endTravel a .stoppedMid s, .bare .done)
    else (s, .bare .done)

/-- A hold set or cleared (R129). -/
def setHold (a : Actuator) (set : Bool) (s : State) : State :=
  let r := act s.motion a
  if set then
    let s1 := putAct a { r with hold := true, releaseMark := false } s
    if r.state = .extending then endTravel a .stoppedMid s1 else s1
  else putAct a { r with hold := false } s

/-- HOLD-SET decided (R129). -/
def decideHoldSet (actuator value : Byte) (s : State) : State × Answer :=
  match actuatorOfByte actuator, flagOfByte value with
  | some a, some set =>
    if !(s.params.actuator a).hosted then (s, .bare .notHosted)
    else (setHold a set s, .bare .done)
  | _, _ => (s, .bare .badRequest)

/-- The fault of an actuator in FAULT is cleared, and its state taken from the stops (R125). -/
def clearFault (a : Actuator) (s : State) : State × Answer :=
  let s1 := putAct a { act s.motion a with faults := FaultSet.empty } s
  let i := stopActive s a .inStop
  let o := stopActive s a .outStop
  if i && o then (enterFault a .conflict s1, .bare .fault)
  else if i then (takeEnd a .inStop s1, .bare .done)
  else if o then (takeEnd a .outStop s1, .bare .done)
  else (putAct a { act s1.motion a with state := .stoppedMid } s1, .bare .done)

/-- FAULT-CLEAR decided (R125). -/
def decideFaultClear (actuator : Byte) (s : State) : State × Answer :=
  match actuatorOfByte actuator with
  | none => (s, .bare .badRequest)
  | some a =>
    if !(s.params.actuator a).hosted then (s, .bare .notHosted)
    else if (act s.motion a).state = .fault then clearFault a s
    else (s, .bare .done)

/-! ## PUMP-SET and VALVE-CLOSE (R99, R106) -/

/-- The pump enabled or disabled, and the blocks evaluated (R99). -/
def setPump (enable : Bool) (s : State) : State :=
  let p := s.water.pump
  evalPump (putPump (if enable then { p with disabled := false, dryLock := false }
    else { p with disabled := true }) s)

/-- PUMP-SET decided (R99). -/
def decidePumpSet (value : Byte) (s : State) : State × Answer :=
  match flagOfByte value with
  | none => (s, .bare .badRequest)
  | some enable =>
    if !s.params.water.pump then (s, .bare .notHosted)
    else if s.boot.storage then (s, .bare .storage)
    else (setPump enable s, .bare .done)

/-- VALVE-CLOSE decided (R106). -/
def decideValveClose (s : State) : State × Answer :=
  if !s.params.water.frost then (s, .bare .notHosted)
  else if !s.water.frost.valveOpen then (s, .bare .done)
  else if frostWarm s.water.frost then (closeValve s, .bare .done)
  else (s, .bare .interlock)

/-! ## EVENTS-CLEAR and DIAG-QUERY (R181, R182) -/

/-- EVENTS-CLEAR decided (R181). -/
def decideEventsClear (set : Word) (s : State) : State × Answer :=
  let flags := s.event.flags &&& ~~~set
  (s.setEvent { s.event with flags := flags }, { outcome := .done, data := wordBytes flags })

/-- The four counters of a page (R182). -/
def pageCounters (page : Nat) (s : State) : List Nat :=
  if page = 0 then
    [s.line.rxCheck, s.line.rxFormat, s.line.rxClash, s.line.contentionLosses]
  else if page = 1 then
    [s.line.txCollisions, s.line.txExhausted, s.line.txDropped, s.peers.peersLost]
  else
    [s.budget.levelSheds, s.budget.budgetSheds, s.water.frostDumps, s.motion.actuatorFaults]

/-- The four counters of a page cleared (R182). -/
def clearPage (page : Nat) (s : State) : State :=
  if page = 0 then
    s.setLine { s.line with rxCheck := 0, rxFormat := 0, rxClash := 0, contentionLosses := 0 }
  else if page = 1 then
    (s.setLine { s.line with txCollisions := 0, txExhausted := 0, txDropped := 0 }).setPeers
      { s.peers with peersLost := 0 }
  else
    ((s.setBudget { s.budget with levelSheds := 0, budgetSheds := 0 }).setWater
      { s.water with frostDumps := 0 }).setMotion { s.motion with actuatorFaults := 0 }

/-- DIAG-QUERY decided (R182). -/
def decideDiagQuery (page : Byte) (s : State) : State × Answer :=
  if 3 ≤ page.toNat then (s, .bare .badRequest)
  else
    (clearPage page.toNat s,
     { outcome := .done, data := page :: (pageCounters page.toNat s).flatMap natBytes })

/-! ## STORAGE-SET (R190) -/

/-- Storage mode is entered: the flag, and the entry handed to the four controllers. DESIGN CHOICE (assumption
9): R190 fixes no order; they take it in the order zones, pump, motion, lights. -/
def enterStorage (s : State) : State :=
  lightsEnterStorage (motionEntersStorage (evalPump (zonesEnterStorage
    (s.setBoot { s.boot with storage := true }))))

/-- Storage mode is left: the flag, and the exit handed to the four controllers. DESIGN CHOICE (assumption 9):
they take it in the order zones, pump, motion, lights, so the pump's ask is tested before a light's. -/
def exitStorage (s : State) : State :=
  lightsExitStorage (motionExitsStorage (evalPump (zonesExitStorage
    (s.setBoot { s.boot with storage := false }))))

/-- STORAGE-SET decided (R190). -/
def decideStorageSet (value : Byte) (s : State) : State × Answer :=
  match flagOfByte value with
  | none => (s, .bare .badRequest)
  | some set =>
    let s1 := if set = s.boot.storage then s else if set then enterStorage s else exitStorage s
    (s1, { outcome := .done, data := [bitOf 0 s1.boot.storage] })

/-! ## Dispatch of a whole REQUEST (R175, R176) -/

/-- The owner's decision for a request code and its arguments; none for a code not in the table, or an
argument count other than the one it takes (R176, chapter 11 section 11.3). -/
def decisionFor (code : Byte) (args : List Byte) : Option (State → State × Answer) :=
  match code.toNat, args with
  | 0x01, [zone, mode, sp1, sp0] => some (decideZoneSet zone mode (sp1 ++ sp0))
  | 0x02, [channel, on, level] => some (decideLightSet channel on level)
  | 0x03, [actuator, direction] => some (decideMove actuator direction)
  | 0x04, [actuator] => some (decideHalt actuator)
  | 0x05, [actuator, value] => some (decideHoldSet actuator value)
  | 0x06, [actuator] => some (decideFaultClear actuator)
  | 0x07, [value] => some (decidePumpSet value)
  | 0x08, [] => some decideValveClose
  | 0x09, [set1, set0] => some (decideEventsClear (set1 ++ set0))
  | 0x0A, [value] => some (decideStorageSet value)
  | 0x0B, [page] => some (decideDiagQuery page)
  | _, _ => none

/-- A REQUEST is addressed here: its target is this station's own number, and the station takes requests
(R175). -/
def addressedHere (payload : List Byte) (s : State) : Bool :=
  takesRequests s && (byteAt payload 0).toNat == s.boot.station.toNat

/-- What is decided for a REQUEST: by its owner, or BAD-REQUEST by the unit itself (R176). -/
def decideRequest (payload : List Byte) (s : State) : State × Answer :=
  match decisionFor (byteAt payload 2) (payload.drop 3) with
  | some d => d s
  | none => (s, .bare .badRequest)

/-- A whole REQUEST reaches the request and event unit (R175, R176): ignored unless it is addressed here,
and otherwise decided and answered. -/
def dispatchRequest (origin : Station) (payload : List Byte) (s : State) : State :=
  if addressedHere payload s then
    reply s { origin := origin, tag := byteAt payload 1 } (decideRequest payload s)
  else s

end Sys2Proof.Machine
end

