-- ==== Sys2Proof/Machine/StartupCommands.lean ====
section
/-! DEFINITION. Start-up (chapter 10): the two resets, the read of the configuration record and its retry,
the start of every block in the passed or the fallback profile, the end of the listen interval, and
STORAGE-SET. -/

namespace Sys2Proof.Machine

/-- A command with an effect only while the blocks run and a condition holds; without them the state
stays as it is. Its effect ends by R108, R138 and R139. -/
def effectWhen (condition : Bool) (effect : State → State) (s : State) :
    Host.Outcome State Fault Refusal :=
  .next (if s.running && condition then publish s (effect s) else s)

/-! ## The resets (R191) -/

/-- The model's own fields outlast a reset: the waiting commands and the count of free values. -/
def keepModelFields (before s : State) : State :=
  { s with freeCount := before.freeCount, pending := before.pending }

/-- POWER_ON_RESET (R185, R191). -/
def execPowerOnReset (straps : Station) (s : State) : Host.Outcome State Fault Refusal :=
  .next (keepModelFields s (State.afterReset straps false Bank.reset))

/-- RESET_PIN_RESET (R17, R18, R185, R191): the storage flag is kept, and of the bank monitor what R17
may keep. -/
def execResetPinReset (straps : Station) (s : State) : Host.Outcome State Fault Refusal :=
  .next (keepModelFields s (State.afterReset straps s.boot.storage
    (retainBank s.running s.bank)))

/-! ## The start of the blocks (R188, R189) -/

/-- The start-up block when the record has been settled: the listen interval begins (R189). -/
def startedBoot (b : Boot) (record : List Byte) (passed : Bool) : Boot :=
  { b with phase := .running, record := record, passed := passed, stage := .listen
           listenTimer := 0, readTimer := 0 }

/-- The start-up block, the parameters, the event mask and every controller at its start values; the
fallback profile raises CONFIG-FALLBACK (R68, R85, R110, R141, R158, R179, R188). -/
def startProfile (record : List Byte) (passed : Bool) (s : State) : State :=
  let p := if passed then paramsOfRecord record else Params.fallback
  let s1 := { s with
    boot := startedBoot s.boot record passed, params := p
    event := { s.event with mask := p.mask }, budget := startedBudget p
    zone := startedZones p s.boot.storage, water := Water.reset
    motion := { Motion.reset with storage := s.boot.storage }
    light := startedLights p s.boot.storage }
  if passed then s1 else raiseEvent .configFallback s1

/-- Every block starts (R189): the budget unit with its first CLAIM, the bank monitor, the zones with
their first evaluation, the water controller, the motion controller, and the lights with the own
step-out handed over. -/
def startBlocks (record : List Byte) (passed : Bool) (inputs : StartInputs) (s : State) : State :=
  let s1 := startBank inputs (queueClaim (startProfile record passed s))
  let s2 := startMotion inputs (startWater inputs (evalZones inputs.zoneTemps s1))
  handOwnStepOut (ownStepOut s2) s2

/-- The record came in completely: all 256 bytes within 50 ms of the read's beginning (R186). -/
def readInTime (limit : Nat) (timer : Nat) (bytes : List Byte) : Bool :=
  bytes.length == 256 && decide (timer ≤ limit)

/-- The blocks start with a record that has come in, in the profile its check gives (R187, R188). -/
def startWithRecord (bytes : List Byte) (inputs : StartInputs) (s : State) : State :=
  startBlocks bytes (recordPasses bytes) inputs s

/-- The start-up block waits 10 ms before the second read (R186). -/
def awaitRetry (s : State) : State :=
  s.setBoot { s.boot with phase := .retryWait, readTimer := 0 }

/-- The first read of the record has ended (R186). -/
def firstReadEnds (r : ReadResult) (inputs : StartInputs) (s : State) : State :=
  match r with
  | .completed bytes =>
    if readInTime Config.recordReadMs s.boot.readTimer bytes then startWithRecord bytes inputs s
    else awaitRetry s
  | .failed => awaitRetry s

/-- The second read of the record has ended; a failure is taken as a record that fails its check
(R186). -/
def secondReadEnds (r : ReadResult) (inputs : StartInputs) (s : State) : State :=
  match r with
  | .completed bytes =>
    if readInTime (Config.recordRetryMs + Config.recordReadMs) s.boot.readTimer bytes then
      startWithRecord bytes inputs s
    else startBlocks [] false inputs s
  | .failed => startBlocks [] false inputs s

/-- RECORD_READ_COMPLETE (R186): taken while the first read runs. -/
def execRecordReadComplete (r : ReadResult) (inputs : StartInputs) (s : State) :
    Host.Outcome State Fault Refusal :=
  .next (if s.boot.phase = .reading then firstReadEnds r inputs s else s)

/-- RECORD_READ_RETRY (R186): taken once the 10 ms wait is over. -/
def execRecordReadRetry (r : ReadResult) (inputs : StartInputs) (s : State) :
    Host.Outcome State Fault Refusal :=
  .next (if s.boot.phase = .retryWait ∧ Config.recordRetryMs ≤ s.boot.readTimer then
    secondReadEnds r inputs s else s)

/-! ## The end of the listen interval (R189) and STORAGE-SET (R190) -/

/-- The stage becomes RUN; on a configured station with a passed record the admission gate opens
(R189). -/
def enterRun (s : State) : State :=
  let s1 := s.setBoot { s.boot with stage := .run }
  if s.boot.passed && s.boot.station != 0#4 then openGate s1 else s1

/-- LISTEN_INTERVAL_END (R189). -/
def execListenIntervalEnd (s : State) : Host.Outcome State Fault Refusal :=
  effectWhen (s.boot.stage == .listen && decide (Config.listenMs ≤ s.boot.listenTimer)) enterRun s

/-- STORAGE_SET (R190). -/
def execStorageSet (rq : Requester) (value : Byte) (s : State) : Host.Outcome State Fault Refusal :=
  .next (takeRequest rq (decideStorageSet value) s)

end Sys2Proof.Machine
end

