-- ==== Sys2Proof/Machine/BankCommands.lean ====
section
/-! DEFINITION. The commands of the bank monitor and the peer table. Each expiry acts when its timer has
reached its end (assumption 2). -/

namespace Sys2Proof.Machine

/-- An event of the monitor, on a station that hosts a bank (R1). -/
def onBankHost (due : Bool) (effect : BankParams → State → State) (s : State) :
    Host.Outcome State Fault Refusal :=
  match s.params.bank with
  | none => .next s
  | some p => effectWhen due (effect p) s

/-- BANK_SAMPLE (R3, R9 to R14, R20). -/
def execBankSample (current : Int) (voltage : Nat) (s : State) : Host.Outcome State Fault Refusal :=
  onBankHost (decide (Config.sampleMs ≤ s.bank.sampleTimer))
    (fun p => sampleBank p current voltage) s

/-- DERATE_EVALUATION (R4 to R7). -/
def execDerateEvaluation (reading : Adc) (s : State) : Host.Outcome State Fault Refusal :=
  onBankHost (decide (Config.derateMs ≤ s.bank.derateTimer)) (fun p => evalDerate p reading) s

/-- BATTERY_PERIOD (R21, R22). -/
def execBatteryPeriod (s : State) : Host.Outcome State Fault Refusal :=
  onBankHost (decide (Config.batteryMs ≤ s.bank.batteryTimer)) formBattery s

/-- PEER_STALE (R28). -/
def execPeerStale (station : Station) (s : State) : Host.Outcome State Fault Refusal :=
  effectWhen true (goStale station) s

/-- PEER_REMOVAL (R29). -/
def execPeerRemoval (station : Station) (s : State) : Host.Outcome State Fault Refusal :=
  effectWhen true (expirePeer station) s

end Sys2Proof.Machine
end

