-- ==== Sys2Proof/Machine/BudgetCommands.lean ====
section
/-! DEFINITION. The commands of the budget unit and the zone controller. Each expiry acts when its timer
has reached its end (assumption 2). -/

namespace Sys2Proof.Machine

/-- OVER_BUDGET_DWELL_EXPIRY (R62). -/
def execOverBudgetDwellExpiry (s : State) : Host.Outcome State Fault Refusal :=
  effectWhen (reached (dwellLength s.boot.station) s.budget.dwell) dwellExpires s

/-- BUDGET_SHED_HOLD_EXPIRY (R63). -/
def execBudgetShedHoldExpiry (load : Fin 17) (s : State) : Host.Outcome State Fault Refusal :=
  effectWhen (s.budget.loads[load].state == .shed .budget
    && reached Config.holdMs s.budget.loads[load].hold) (holdExpires load) s

/-- CLAIM_DUE (R66). -/
def execClaimDue (s : State) : Host.Outcome State Fault Refusal :=
  effectWhen (s.budget.claimDue && decide (Config.claimSpacingMs ≤ s.budget.claimTimer)) queueClaim s

/-- CLAIM_HEARTBEAT (R66). -/
def execClaimHeartbeat (s : State) : Host.Outcome State Fault Refusal :=
  effectWhen (decide (Config.claimHeartbeatMs ≤ s.budget.claimTimer)) queueClaim s

/-- ZONE_EVALUATION (R71 to R75, R84). -/
def execZoneEvaluation (readings : Vector Adc 4) (s : State) : Host.Outcome State Fault Refusal :=
  effectWhen (decide (Config.zonePeriodMs ≤ s.zone.periodTimer)) (evalZones readings) s

/-- HEATER_WINDOW_STEP (R77). -/
def execHeaterWindowStep (s : State) : Host.Outcome State Fault Refusal :=
  effectWhen (decide (Config.windowStepMs ≤ s.zone.windowTimer)) stepWindow s

/-- ZONE_SET (R78 to R81). -/
def execZoneSet (rq : Requester) (zone mode : Byte) (setpoint : Word) (s : State) :
    Host.Outcome State Fault Refusal :=
  .next (takeRequest rq (decideZoneSet zone mode setpoint) s)

end Sys2Proof.Machine
end

