-- ==== Sys2Proof/Machine/LightCommands.lean ====
section
/-! DEFINITION. The commands of the light controller. -/

namespace Sys2Proof.Machine

/-- SWITCH_EDGE (R146). -/
def execSwitchEdge (channel : Fin 8) (rising : Bool) (s : State) :
    Host.Outcome State Fault Refusal :=
  effectWhen true (switchEdgeAt channel rising) s

/-- SCENE (R147). -/
def execScene (number : Byte) (s : State) : Host.Outcome State Fault Refusal :=
  effectWhen true (recallScene number) s

/-- LIGHT_SET (R154, R155). -/
def execLightSet (rq : Requester) (channel code level : Byte) (s : State) :
    Host.Outcome State Fault Refusal :=
  .next (takeRequest rq (decideLightSet channel code level) s)

/-- FADE_TICK (R150): when the fade tick timer has reached 20 ms. -/
def execFadeTick (s : State) : Host.Outcome State Fault Refusal :=
  effectWhen (decide (Config.fadeMs ≤ s.light.fadeTimer)) fadeAll s

/-- PWM_COUNTER_ADVANCE (R153). -/
def execPwmCounterAdvance (s : State) : Host.Outcome State Fault Refusal :=
  effectWhen true advancePwm s

end Sys2Proof.Machine
end

