-- ==== Sys2Proof/Machine/LineCommands.lean ====
section
/-! DEFINITION. The cabin line (chapter 8): the line and receiver states, contention, collisions, the
receive checks, the handing on of valid telegrams, and the two requests of the request and event unit
with the REQUESTs it decides itself. -/

namespace Sys2Proof.Machine

/-! ## Line and receiver (R159, R168) -/

/-- One more frame discarded for its cells or its check byte (R173). -/
def countRxCheck (l : Line) : Line := { l with rxCheck := countUp l.rxCheck }

/-- One more frame discarded for its form (R173). -/
def countRxFormat (l : Line) : Line := { l with rxFormat := countUp l.rxFormat }

/-- The line becomes IDLE: a frame still being received has ended early, the receiver is WAITING, and the
sender begins a frame if it can (R159, R162, R168). -/
def lineGoesIdle (l : Line) : Line :=
  let l1 := if l.receiver = .receiving then countRxCheck l else l
  beginFrame { l1 with idle := true, receiver := .waiting }

/-- LINE_IDLE (R159): not while this station is driving a frame. -/
def execLineIdle (s : State) : Host.Outcome State Fault Refusal :=
  .next (if s.running && s.line.sender == .idle then s.setLine (lineGoesIdle s.line) else s)

/-- LINE_FALLING_EDGE (R159, R168): on an IDLE line. -/
def execLineFallingEdge (s : State) : Host.Outcome State Fault Refusal :=
  .next (if s.running && s.line.idle then
    s.setLine { s.line with idle := false, receiver := .receiving } else s)

/-- RECEIVE_ERROR (R168): of the frame being received. -/
def execReceiveError (f : ReceiveFault) (s : State) : Host.Outcome State Fault Refusal :=
  .next (if s.running && s.line.receiver == .receiving then
    s.setLine { (match f with
      | .malformedCell | .earlyEnd => countRxCheck s.line
      | .lengthAbove12 => countRxFormat s.line) with receiver := .discarding }
    else s)

/-! ## Sending (R163 to R165, R167) -/

/-- The sender stops driving and the send register is empty. -/
def stopSending (l : Line) : Line := { l with register := none, sender := .idle }

/-- Contention is lost: a contention loss is counted, and the telegram returns with its attempt count
unchanged (R163). -/
def loseContention (l : Line) (e : TxEntry) : Line :=
  returnTelegram { stopSending l with contentionLosses := countUp l.contentionLosses } e

/-- A collision or bit error: counted, and the telegram, one attempt on, returns, or is dropped at its
fifth (R164). -/
def collide (l : Line) (e : TxEntry) : Line :=
  let l1 := { stopSending l with txCollisions := countUp l.txCollisions }
  if 5 ≤ e.attempts + 1 then { l1 with txExhausted := countUp l1.txExhausted }
  else returnTelegram l1 { e with attempts := e.attempts + 1 }

/-- CONTENTION_LOSS (R163): from the start cell to the last header bit, while the sender is in the HEADER. -/
def execContentionLoss (s : State) : Host.Outcome State Fault Refusal :=
  .next (match s.line.register with
    | some e =>
      if s.running && s.line.sender == .header then s.setLine (loseContention s.line e) else s
    | none => s)

/-- TX_COLLISION (R164): at any point of a frame being sent. DESIGN CHOICE (assumption 13): in the HEADER as
in the BODY. -/
def execTxCollision (s : State) : Host.Outcome State Fault Refusal :=
  .next (match s.line.register with
    | some e =>
      if s.running && s.line.sender != .idle then s.setLine (collide s.line e) else s
    | none => s)

/-- FRAME_SENT (R165): the telegram is gone, and the receiver ignores the line until it is IDLE. DESIGN
CHOICE (assumption 13): taken in the HEADER too. -/
def execFrameSent (s : State) : Host.Outcome State Fault Refusal :=
  .next (if s.running && s.line.sender != .idle then
    s.setLine { stopSending s.line with receiver := .discarding } else s)

/-! ## Receiving (R169 to R171) -/

/-- The length is one that chapter 11 gives for the kind. -/
def lengthFits (k : Kind) (n : Nat) : Bool :=
  match k with
  | .alert => n == 2
  | .stow | .vehicle | .scene => n == 1
  | .request | .reply => decide (3 ≤ n) && decide (n ≤ 12)
  | .supply => n == 5
  | .battery | .motion => n == 11
  | .claim => n == 10
  | .tanks | .climate => n == 12

/-- The outcome of the receive checks (R169). -/
inductive FrameCheck where
  | badCheck | badFormat | clash | valid
  deriving DecidableEq, Repr

/-- The urgency field differs from the two leading bits of the kind code, or the length is wrong for one
of the twelve kinds, or is not the length of the payload read. -/
def badForm (h : Word) (payload : List Byte) : Bool :=
  headerUrgency h != (headerKind h).extractLsb' 4 2
  || (match kindOfCode (headerKind h) with
      | some k => !lengthFits k (headerLength h)
      | none => false)
  || payload.length != headerLength h

/-- The checks of a complete frame, in their order (R169). The own origin check never fails on an
unconfigured station, whose number no origin can be. -/
def checkFrame (own : Station) (h : Word) (payload : List Byte) (check : Byte) : FrameCheck :=
  if checkByte h payload ≠ check then .badCheck
  else if badForm h payload then .badFormat
  else if headerOrigin h = 0#4 then .badFormat
  else if headerOrigin h = own then .clash
  else .valid

/-- A valid telegram is handed on: to the peer table, and then to the block its kind names (R170). -/
def handTelegram (h : Word) (payload : List Byte) (s : State) : State :=
  let kind := kindOfCode (headerKind h)
  let s1 := publish s (peerArrival (headerOrigin h) kind payload s)
  match kind with
  | some .request => dispatchRequest (headerOrigin h) payload s1
  | some .scene => publish s1 (recallScene (byteAt payload 0) s1)
  | some .stow => publish s1 (takeStow ((byteAt payload 0).getLsbD 0) s1)
  | _ => s1

/-- A complete frame is checked and counted or handed on (R168, R169, R171). Its receiver then ignores
the line until it is IDLE. -/
def receiveFrame (h : Word) (payload : List Byte) (check : Byte) (s : State) : State :=
  let s1 := s.setLine { s.line with receiver := .discarding }
  match checkFrame s.boot.station h payload check with
  | .badCheck => s1.setLine (countRxCheck s1.line)
  | .badFormat => s1.setLine (countRxFormat s1.line)
  | .clash => raiseEvent .clash (s1.setLine { s1.line with rxClash := countUp s1.line.rxClash })
  | .valid => handTelegram h payload s1

/-- FRAME_RECEIVED (R168 to R171): of a frame another station sent. A frame this station is sending is
its own. -/
def execFrameReceived (h : Word) (payload : List Byte) (check : Byte) (s : State) :
    Host.Outcome State Fault Refusal :=
  .next (if s.running && s.line.receiver == .receiving && s.line.sender == .idle then
    receiveFrame h payload check s else s)

/-! ## Requests of the request and event unit (R175, R176, R181, R182) -/

/-- EVENTS_CLEAR (R181). -/
def execEventsClear (rq : Requester) (set : Word) (s : State) : Host.Outcome State Fault Refusal :=
  .next (takeRequest rq (decideEventsClear set) s)

/-- DIAG_QUERY (R182). -/
def execDiagQuery (rq : Requester) (page : Byte) (s : State) : Host.Outcome State Fault Refusal :=
  .next (takeRequest rq (decideDiagQuery page) s)

/-- REQUEST_OTHER (R175, R176): ignored unless addressed here, and answered BAD-REQUEST for an unknown
code or a wrong argument count. -/
def execRequestOther (origin : Station) (payload : List Byte) (s : State) :
    Host.Outcome State Fault Refusal :=
  .next (dispatchRequest origin payload s)

end Sys2Proof.Machine
end

