-- ==== Sys2Proof/Machine/MotionCommands.lean ====
section
/-! DEFINITION. The commands of the motion controller. Each expiry acts when its timer has reached its end
(assumption 2), and only on a hosted actuator (R111). -/

namespace Sys2Proof.Machine

/-- An event of a hosted actuator. -/
def onActuator (a : Actuator) (due : ActRec → Bool) (effect : State → State) (s : State) :
    Host.Outcome State Fault Refusal :=
  effectWhen ((s.params.actuator a).hosted && due (act s.motion a)) effect s

/-- STOP_ARRIVAL (R113, R118, R123). -/
def execStopArrival (a : Actuator) (e : StopEnd) (s : State) : Host.Outcome State Fault Refusal :=
  onActuator a (fun _ => true) (arrivalAt a e) s

/-- STOP_DEPARTURE (R113, R119). -/
def execStopDeparture (a : Actuator) (e : StopEnd) (s : State) : Host.Outcome State Fault Refusal :=
  onActuator a (fun _ => true) (departureAt a e) s

/-- HALL_EDGE (R114, R121). -/
def execHallEdge (a : Actuator) (s : State) : Host.Outcome State Fault Refusal :=
  onActuator a (fun _ => true) (hallEdgeAt a) s

/-- The travel timer has reached the latched timeout (R121). -/
def travelOverdue (r : ActRec) : Bool :=
  match r.latched with
  | none => false
  | some l => reached (l.timeout * 1000) r.travelTimer

/-- TRAVEL_TIMEOUT (R121, R124). -/
def execTravelTimeout (a : Actuator) (s : State) : Host.Outcome State Fault Refusal :=
  onActuator a travelOverdue (enterFault a .travelTimeout) s

/-- STALL (R121, R124). -/
def execStall (a : Actuator) (s : State) : Host.Outcome State Fault Refusal :=
  onActuator a (fun r => reached Config.stallMs r.stallTimer) (enterFault a .stall) s

/-- MOTOR_CURRENT_CROSSING (R122). -/
def execMotorCurrentCrossing (a : Actuator) (current : Nat) (s : State) :
    Host.Outcome State Fault Refusal :=
  onActuator a (fun _ => true) (currentCrossing a current) s

/-- OVERCURRENT_EXPIRY (R122). -/
def execOvercurrentExpiry (a : Actuator) (s : State) : Host.Outcome State Fault Refusal :=
  onActuator a (fun r => reached Config.overcurrentMs r.overTimer) (overcurrentAt a) s

/-- PAUSE_END (R117). -/
def execPauseEnd (a : Actuator) (s : State) : Host.Outcome State Fault Refusal :=
  onActuator a (fun r => reached Config.pauseMs r.pauseTimer) (endPause a) s

/-- ANEMOMETER_EDGE (R134, R135). -/
def execAnemometerEdge (s : State) : Host.Outcome State Fault Refusal :=
  effectWhen s.params.wind.hosted windEdge s

/-- WIND_SILENCE_EXPIRY (R134). -/
def execWindSilenceExpiry (s : State) : Host.Outcome State Fault Refusal :=
  effectWhen (s.params.wind.hosted && reached Config.windSilenceMs s.motion.wind.silence)
    windFallsSilent s

/-- MOVE (R126, R127). -/
def execMove (rq : Requester) (actuator direction : Byte) (s : State) :
    Host.Outcome State Fault Refusal :=
  .next (takeRequest rq (decideMove actuator direction) s)

/-- HALT (R128). -/
def execHalt (rq : Requester) (actuator : Byte) (s : State) : Host.Outcome State Fault Refusal :=
  .next (takeRequest rq (decideHalt actuator) s)

/-- HOLD_SET (R129). -/
def execHoldSet (rq : Requester) (actuator value : Byte) (s : State) :
    Host.Outcome State Fault Refusal :=
  .next (takeRequest rq (decideHoldSet actuator value) s)

/-- FAULT_CLEAR (R125). -/
def execFaultClear (rq : Requester) (actuator : Byte) (s : State) :
    Host.Outcome State Fault Refusal :=
  .next (takeRequest rq (decideFaultClear actuator) s)

/-- STOW (R136). -/
def execStow (override : Bool) (s : State) : Host.Outcome State Fault Refusal :=
  effectWhen true (takeStow override) s

/-- MOTION_HEARTBEAT (R139). -/
def execMotionHeartbeat (s : State) : Host.Outcome State Fault Refusal :=
  effectWhen (decide (Config.motionHeartbeatMs ≤ s.motion.motionTimer)) queueMotion s

end Sys2Proof.Machine
end

