-- ==== Sys2Proof/Machine/WaterCommands.lean ====
section
/-! DEFINITION. The commands of the water controller. Each expiry acts when its timer has reached its end
(assumption 2). -/

namespace Sys2Proof.Machine

/-- TANK_PERIOD (R89 to R93, R100 to R103). -/
def execTankPeriod (fresh grey black temp : Adc) (s : State) : Host.Outcome State Fault Refusal :=
  effectWhen (decide (Config.tankPeriodMs ≤ s.water.periodTimer))
    (tankPeriodOf fresh grey black temp) s

/-- PRESSURE_SWITCH_EDGE (R94, R96). -/
def execPressureSwitchEdge (closing : Bool) (s : State) : Host.Outcome State Fault Refusal :=
  effectWhen true (pressureEdge closing) s

/-- PUMP_RUN_TIMER_EXPIRY (R98). -/
def execPumpRunTimerExpiry (s : State) : Host.Outcome State Fault Refusal :=
  effectWhen (s.water.pump.output && decide (Config.pumpRunMs ≤ s.water.pump.runTimer)) pumpRunsDry s

/-- FROST_DWELL_EXPIRY (R104). -/
def execFrostDwellExpiry (s : State) : Host.Outcome State Fault Refusal :=
  effectWhen (reached Config.frostDwellMs s.water.frost.dwell) openValve s

/-- PUMP_SET (R99). -/
def execPumpSet (rq : Requester) (value : Byte) (s : State) : Host.Outcome State Fault Refusal :=
  .next (takeRequest rq (decidePumpSet value) s)

/-- VALVE_CLOSE (R106). -/
def execValveClose (rq : Requester) (s : State) : Host.Outcome State Fault Refusal :=
  .next (takeRequest rq decideValveClose s)

/-- TANKS_DUE (R108). -/
def execTanksDue (s : State) : Host.Outcome State Fault Refusal :=
  effectWhen (s.water.tanksDue && decide (Config.tanksSpacingMs ≤ s.water.tanksTimer)) queueTanks s

/-- TANKS_HEARTBEAT (R108). -/
def execTanksHeartbeat (s : State) : Host.Outcome State Fault Refusal :=
  effectWhen (decide (Config.tanksHeartbeatMs ≤ s.water.tanksTimer)) queueTanks s

end Sys2Proof.Machine
end

