-- ==== Sys2Proof/Machine/Dispatch.lean ====
section
/-! DEFINITION. The meaning of every command, one arm per row of the opcode table. -/

namespace Sys2Proof.Machine

/-- The effect of a command on everything but the queue of waiting commands. -/
def exec (i : Instr) (s : State) : Host.Outcome State Fault Refusal :=
  match i with
  | .powerOnReset straps => Sys2Proof.Machine.execPowerOnReset straps s
  | .resetPinReset straps => Sys2Proof.Machine.execResetPinReset straps s
  | .recordReadComplete result inputs => Sys2Proof.Machine.execRecordReadComplete result inputs s
  | .recordReadRetry result inputs => Sys2Proof.Machine.execRecordReadRetry result inputs s
  | .listenIntervalEnd => Sys2Proof.Machine.execListenIntervalEnd s
  | .storageSet rq value => Sys2Proof.Machine.execStorageSet rq value s
  | .bankSample current voltage => Sys2Proof.Machine.execBankSample current voltage s
  | .derateEvaluation reading => Sys2Proof.Machine.execDerateEvaluation reading s
  | .batteryPeriod => Sys2Proof.Machine.execBatteryPeriod s
  | .peerStale station => Sys2Proof.Machine.execPeerStale station s
  | .peerRemoval station => Sys2Proof.Machine.execPeerRemoval station s
  | .overBudgetDwellExpiry => Sys2Proof.Machine.execOverBudgetDwellExpiry s
  | .budgetShedHoldExpiry load => Sys2Proof.Machine.execBudgetShedHoldExpiry load s
  | .claimDue => Sys2Proof.Machine.execClaimDue s
  | .claimHeartbeat => Sys2Proof.Machine.execClaimHeartbeat s
  | .zoneEvaluation readings => Sys2Proof.Machine.execZoneEvaluation readings s
  | .heaterWindowStep => Sys2Proof.Machine.execHeaterWindowStep s
  | .zoneSet rq zone mode setpoint => Sys2Proof.Machine.execZoneSet rq zone mode setpoint s
  | .tankPeriod fresh grey black temp => Sys2Proof.Machine.execTankPeriod fresh grey black temp s
  | .pressureSwitchEdge closing => Sys2Proof.Machine.execPressureSwitchEdge closing s
  | .pumpRunTimerExpiry => Sys2Proof.Machine.execPumpRunTimerExpiry s
  | .frostDwellExpiry => Sys2Proof.Machine.execFrostDwellExpiry s
  | .pumpSet rq value => Sys2Proof.Machine.execPumpSet rq value s
  | .valveClose rq => Sys2Proof.Machine.execValveClose rq s
  | .tanksDue => Sys2Proof.Machine.execTanksDue s
  | .tanksHeartbeat => Sys2Proof.Machine.execTanksHeartbeat s
  | .stopArrival actuator stop => Sys2Proof.Machine.execStopArrival actuator stop s
  | .stopDeparture actuator stop => Sys2Proof.Machine.execStopDeparture actuator stop s
  | .hallEdge actuator => Sys2Proof.Machine.execHallEdge actuator s
  | .travelTimeout actuator => Sys2Proof.Machine.execTravelTimeout actuator s
  | .stall actuator => Sys2Proof.Machine.execStall actuator s
  | .motorCurrentCrossing actuator current => Sys2Proof.Machine.execMotorCurrentCrossing actuator current s
  | .overcurrentExpiry actuator => Sys2Proof.Machine.execOvercurrentExpiry actuator s
  | .pauseEnd actuator => Sys2Proof.Machine.execPauseEnd actuator s
  | .anemometerEdge => Sys2Proof.Machine.execAnemometerEdge s
  | .windSilenceExpiry => Sys2Proof.Machine.execWindSilenceExpiry s
  | .move rq actuator direction => Sys2Proof.Machine.execMove rq actuator direction s
  | .halt rq actuator => Sys2Proof.Machine.execHalt rq actuator s
  | .holdSet rq actuator value => Sys2Proof.Machine.execHoldSet rq actuator value s
  | .faultClear rq actuator => Sys2Proof.Machine.execFaultClear rq actuator s
  | .stow override => Sys2Proof.Machine.execStow override s
  | .motionHeartbeat => Sys2Proof.Machine.execMotionHeartbeat s
  | .switchEdge channel rising => Sys2Proof.Machine.execSwitchEdge channel rising s
  | .scene number => Sys2Proof.Machine.execScene number s
  | .lightSet rq channel code level => Sys2Proof.Machine.execLightSet rq channel code level s
  | .fadeTick => Sys2Proof.Machine.execFadeTick s
  | .eventsClear rq set => Sys2Proof.Machine.execEventsClear rq set s
  | .diagQuery rq page => Sys2Proof.Machine.execDiagQuery rq page s
  | .requestOther origin payload => Sys2Proof.Machine.execRequestOther origin payload s
  | .lineIdle => Sys2Proof.Machine.execLineIdle s
  | .lineFallingEdge => Sys2Proof.Machine.execLineFallingEdge s
  | .contentionLoss => Sys2Proof.Machine.execContentionLoss s
  | .txCollision => Sys2Proof.Machine.execTxCollision s
  | .frameSent => Sys2Proof.Machine.execFrameSent s
  | .receiveError fault => Sys2Proof.Machine.execReceiveError fault s
  | .frameReceived header payload check => Sys2Proof.Machine.execFrameReceived header payload check s
  | .pwmCounterAdvance => Sys2Proof.Machine.execPwmCounterAdvance s

end Sys2Proof.Machine
end

