-- ==== Sys2Proof/Machine/Time.lean ====
section
/-! DEFINITION. The passing of time, which a step takes when no command is waiting (assumption 2): one cell
of the line, 20 µs, and at the end of every fiftieth a millisecond, in which every running timer goes on
by one, held at its end. Nothing else happens: the effects of a timer's end are commands of their own. -/

namespace Sys2Proof.Machine

/-- The read timer before the blocks run, held just past the longest time it is compared with (R186),
and the listen timer while the stage is LISTEN (R189). -/
def tickBoot (b : Boot) : Boot :=
  match b.phase with
  | .reading | .retryWait =>
    { b with readTimer := runTo (Config.recordRetryMs + Config.recordReadMs + 1) b.readTimer }
  | .running =>
    match b.stage with
    | .listen => { b with listenTimer := runTo Config.listenMs b.listenTimer }
    | .run => b

/-- The three periods of the bank monitor (R3, R4, R21); the rest timer counts only samples (R12). DESIGN
CHOICE (assumption 18): those of an absent monitor (R1) run on to their ends too, and stand there. -/
def tickBank (b : Bank) : Bank :=
  { b with
    sampleTimer := runTo Config.sampleMs b.sampleTimer
    derateTimer := runTo Config.derateMs b.derateTimer
    batteryTimer := runTo Config.batteryMs b.batteryTimer }

/-- The silence timer of an entry (R28). -/
def tickPeer (e : PeerEntry) : PeerEntry := { e with silence := runTo Config.removalMs e.silence }

/-- The hold timer of a load record (R63). -/
def tickLoad (r : LoadRecord) : LoadRecord :=
  { r with hold := runToIfRunning Config.holdMs r.hold }

/-- The over-budget dwell, the hold timers and the CLAIM timer (R62, R63, R66). -/
def tickBudget (station : Station) (b : Budget) : Budget :=
  { b with
    dwell := runToIfRunning (dwellLength station) b.dwell
    loads := Vector.ofFn fun i => tickLoad b.loads[i]
    claimTimer := runTo Config.claimHeartbeatMs b.claimTimer }

/-- The zone period and the heater window (R71, R77). -/
def tickZone (z : ZoneCtl) : ZoneCtl :=
  { z with
    periodTimer := runTo Config.zonePeriodMs z.periodTimer
    windowTimer := runTo Config.windowStepMs z.windowTimer }

/-- The tank period, the pump's run timer while its output is on, the frost dwell and the TANKS timer
(R89, R98, R103, R108). -/
def tickWater (w : Water) : Water :=
  { w with
    periodTimer := runTo Config.tankPeriodMs w.periodTimer
    pump := { w.pump with
      runTimer := if w.pump.output then runTo Config.pumpRunMs w.pump.runTimer else 0 }
    frost := { w.frost with dwell := runToIfRunning Config.frostDwellMs w.frost.dwell }
    tanksTimer := runTo Config.tanksHeartbeatMs w.tanksTimer }

/-- The timers of an actuator (R117, R121, R122). -/
def tickAct (r : ActRec) : ActRec :=
  { r with
    travelTimer := match r.latched with
      | none => r.travelTimer
      | some l => runToIfRunning (l.timeout * 1000) r.travelTimer
    stallTimer := runToIfRunning Config.stallMs r.stallTimer
    overTimer := runToIfRunning Config.overcurrentMs r.overTimer
    pauseTimer := runToIfRunning Config.pauseMs r.pauseTimer }

/-- The actuators, the wind meter's silence timer and the MOTION timer (R134, R139). -/
def tickMotion (m : Motion) : Motion :=
  { m with
    awning := tickAct m.awning, step := tickAct m.step
    wind := { m.wind with silence := runToIfRunning Config.windSilenceMs m.wind.silence }
    motionTimer := runTo Config.motionHeartbeatMs m.motionTimer }

/-- The fade tick timer (R150). -/
def tickLight (l : LightCtl) : LightCtl := { l with fadeTimer := runTo Config.fadeMs l.fadeTimer }

/-- A cell of the line goes by: a header being sent lasts 17 of them, and with the last one its last header
bit has been read back as driven, so the sender is in the BODY (R159, R160, R163). -/
def tickLine (l : Line) : Line :=
  match l.sender with
  | .header =>
    { l with sentCells := runTo Config.headerCells l.sentCells
             sender := if Config.headerCells ≤ l.sentCells + 1 then .body else .header }
  | .idle | .body => l

/-- One millisecond has passed, for every timer the part counts in milliseconds. Before the blocks have
started only the start-up block's timer and the free-running counter run. -/
def tickMs (s : State) : State :=
  if s.running then
    { s with
      boot := tickBoot s.boot, bank := tickBank s.bank
      peers := { s.peers with entries := s.peers.entries.map tickPeer }
      budget := tickBudget s.boot.station s.budget, zone := tickZone s.zone
      water := tickWater s.water, motion := tickMotion s.motion, light := tickLight s.light
      clock := s.clock + 1 }
  else { s with boot := tickBoot s.boot, clock := s.clock + 1 }

/-- One cell of the line passes, and with the last of a millisecond's cells the millisecond. -/
def tick (s : State) : State :=
  let s1 := if s.running then s.setLine (tickLine s.line) else s
  if Config.cellsPerMs ≤ s.cells + 1 then { tickMs s1 with cells := 0 }
  else { s1 with cells := s.cells + 1 }

end Sys2Proof.Machine
end

