-- ==== Sys2Proof/Safety.lean ====
section
/-! DEFINITION. What a sound state of the part is, block by block, in the terms the statements use: the
promises the rules make of every state, each with the rule that makes it. A safe run is one whose every
state keeps them. -/

namespace Sys2Proof.Machine

/-! ## Line interface -/

/-- The kinds of which the transmit queue holds at most one telegram (R166). -/
def singleKinds : List Kind := [.claim, .battery, .motion, .tanks, .climate, .alert]

/-- How many telegrams of a kind wait in the queue. -/
def countKind (q : List TxEntry) (k : Kind) : Nat := (q.filter fun e => e.telegram.kind == k).length

/-- The transmit queue is within its bounds (R166), the send register holds a telegram exactly while the
sender is at work (R162 to R165), and an unconfigured station holds no telegram (R172). -/
def LineOk (s : State) : Prop :=
  s.line.queue.length ≤ 8
  ∧ (∀ k ∈ singleKinds, countKind s.line.queue k ≤ 1)
  ∧ (s.line.register.isSome = true ↔ s.line.sender ≠ .idle)
  ∧ (s.boot.station = 0#4 → s.line.queue = [] ∧ s.line.register = none)

/-! ## Budget unit -/

/-- The record waits in the retry list: WAITING or REDUCED(BUDGET) (R48). -/
def waitsInList (st : LoadState) : Bool := st == .waiting || st == .reduced .budget

/-- The record stands in the admitted list: ADMITTED or REDUCED (R48). -/
def drawsCurrent (st : LoadState) : Bool :=
  match st with
  | .admitted | .reduced _ => true
  | .off | .waiting | .shed _ => false

/-- The claim current of a record in a state (R47). -/
def claimOf (s : State) (i : Fin 17) (st : LoadState) : Nat :=
  match st with
  | .admitted => s.budget.loads[i].rated
  | .reduced _ => reducedClaim s i
  | .off | .waiting | .shed _ => 0

/-- The hold timer is there in SHED(BUDGET) only, the claim follows the state (R47), and the lists hold
the record exactly in the states that R48 gives. -/
def RecordOk (s : State) (i : Fin 17) : Prop :=
  (s.budget.loads[i].hold.isSome = true ↔ s.budget.loads[i].state = .shed .budget)
  ∧ s.budget.loads[i].claim = claimOf s i s.budget.loads[i].state
  ∧ (i ∈ s.budget.retry ↔ waitsInList s.budget.loads[i].state = true)
  ∧ (i ∈ s.budget.admitted ↔ drawsCurrent s.budget.loads[i].state = true)

/-- The classes a record can have (R47): a light 0 or 3, a heater 1, the pump 2, the dump valve 0, and a
motor 0 or 2. -/
def classAllowed (i : Fin 17) (c : LoadClass) : Bool :=
  if i.val < 8 then c == .c0 || c == .c3
  else if i.val < 13 then c == .c1
  else if i.val = 13 then c == .c2
  else if i.val = 14 then c == .c0
  else c == .c0 || c == .c2

/-- Which states the class and the kind of a record allow: class 0 records and records that are not
sheddable are OFF or ADMITTED (R51, R52), and only a light is REDUCED (R65). -/
def KindOk (s : State) (i : Fin 17) : Prop :=
  classAllowed i s.budget.loads[i].cls = true
  ∧ (s.budget.loads[i].cls = .c0 ∨ sheddable i = false →
    s.budget.loads[i].state = .off ∨ s.budget.loads[i].state = .admitted)
  ∧ (∀ r, s.budget.loads[i].state = .reduced r → isLight i = true)

/-- While the gate is closed no record of class 1 to 3 draws current (R50). -/
def GateOk (s : State) (i : Fin 17) : Prop :=
  s.budget.gateOpen = false → s.budget.loads[i].cls ≠ .c0 →
    drawsCurrent s.budget.loads[i].state = false

/-- While the shed flag of its class is set, no sheddable record is ADMITTED or WAITING, and none is
REDUCED(BUDGET) (R59, R65). -/
def ShedOk (s : State) (i : Fin 17) : Prop :=
  perClass s.budget.shed s.budget.loads[i].cls = true → sheddable i = true →
    s.budget.loads[i].state ≠ .admitted ∧ waitsInList s.budget.loads[i].state = false

/-- The load table, its two lists and the own claim totals are sound (R42, R47 to R50, R55, R59). -/
def BudgetOk (s : State) : Prop :=
  (∀ i : Fin 17, RecordOk s i ∧ KindOk s i ∧ GateOk s i ∧ ShedOk s i)
  ∧ s.budget.retry.Nodup ∧ s.budget.admitted.Nodup
  ∧ s.budget.retry.Pairwise (fun i j =>
      classNum s.budget.loads[i].cls ≤ classNum s.budget.loads[j].cls)
  ∧ s.budget.own = ownTotals s.budget.loads
  ∧ s.budget.shed.c0 = false

/-- What the controllers hold of their load records is what the budget unit holds (R48, R54), and the dump
valve is open exactly while its load is ADMITTED (R102). -/
def MirrorOk (s : State) : Prop :=
  (∀ n : Fin 8, s.light.channels[n].load = s.budget.loads[n.val].state)
  ∧ (∀ n : Fin 4, s.zone.zones[n].load = s.budget.loads[8 + n.val].state)
  ∧ s.water.frost.load = s.budget.loads[12].state
  ∧ s.water.pump.load = s.budget.loads[13].state
  ∧ (s.water.frost.valveOpen = true ↔ s.budget.loads[14].state = .admitted)

/-! ## Outputs -/

/-- A zone heater's output follows its admitted duty (R77), and the frost heater's its load (R101). -/
def HeatersOk (s : State) : Prop :=
  (∀ n : Fin 4, s.zone.zones[n].output
    = dutyOutput (admittedDuty s.zone.zones[n]) s.zone.window)
  ∧ s.water.frost.output = (s.water.frost.load == .admitted)

/-- While a pump block holds the pump's load is OFF (R95), and its output follows its load (R97). -/
def PumpOk (s : State) : Prop :=
  (pumpBlocked s = true ∨ s.params.water.pump = false → s.water.pump.load = .off)
  ∧ s.water.pump.output = (s.water.pump.load == .admitted)

/-- A light channel's target follows its load (R148), its duty is the gamma of its level (R152), and in
REDUCED its level is no higher than its ceiling (R149). -/
def ChannelOk (s : State) (n : Fin 8) : Prop :=
  s.light.channels[n].target
    = targetLevel s.params.channels[n] s.light.channels[n].load s.light.channels[n].setLevel
  ∧ s.light.channels[n].duty = gammaDuty s.light.channels[n].current
  ∧ (∀ r, s.light.channels[n].load = .reduced r →
      s.light.channels[n].current ≤ s.params.channels[n].ceiling)

/-- Every light channel is sound. -/
def LightsOk (s : State) : Prop := ∀ n : Fin 8, ChannelOk s n

/-- The lights in storage mode: the running light controller's forced-off flag is the storage flag, and
under it, as on a channel that is not hosted, no light's load is other than OFF (R142, R145, R156, R190). -/
def StorageOk (s : State) : Prop :=
  (s.running = true → s.light.forcedOff = s.boot.storage)
  ∧ (∀ n : Fin 8, s.light.forcedOff = true ∨ s.params.channels[n].hosted = false →
      s.budget.loads[n.val].state = .off)

/-- On a running station the on condition of every hosted channel is what its truth table gives for step-out,
scene bit and latch (R145), and its load is OFF exactly while the on condition is false. -/
def LampsOk (s : State) : Prop :=
  s.running = true → ∀ n : Fin 8, s.params.channels[n].hosted = true →
    s.light.channels[n].on = onCondition s.params.channels[n] s.light s.light.channels[n]
    ∧ (s.budget.loads[n.val].state = .off ↔ s.light.channels[n].on = false)

/-! ## Motion controller -/

/-- The class of the travel an actuator is on (R52). -/
def travelClass (st : ActState) : LoadClass := if st = .extending then .c2 else .c0

/-- A hosted actuator is sound: its motor's load is ADMITTED, at the class of the travel, exactly while it
moves (R112); it extends only without hold, outside storage mode and with the interlock not active
(R115); its motor is driven only in the direction of its state, and is off during a pause, and while it moves
the one or the other holds (R112, R115 to R117); the parameters are latched for the motor's drive, and the
travel and stall timers run, exactly while it is driven, and the overcurrent timer at most then (R115, R120 to
R122); its faults are recorded in FAULT only, its cause and its release mark in RETRACTING only (R112); and
its position is at most the travel length (R114). -/
def ActuatorOk (s : State) (a : Actuator) : Prop :=
  (isMoving (act s.motion a).state = true →
    s.budget.loads[motorLoad a].state = .admitted
    ∧ s.budget.loads[motorLoad a].cls = travelClass (act s.motion a).state)
  ∧ (isMoving (act s.motion a).state = false → s.budget.loads[motorLoad a].state = .off)
  ∧ ((act s.motion a).state = .extending →
      (act s.motion a).hold = false ∧ s.motion.storage = false
      ∧ interlockActive s.params s.motion.vehicle = false)
  ∧ ((act s.motion a).motor = .outward → (act s.motion a).state = .extending)
  ∧ ((act s.motion a).motor = .inward → (act s.motion a).state = .retracting)
  ∧ ((act s.motion a).faults ≠ FaultSet.empty ↔ (act s.motion a).state = .fault)
  ∧ ((act s.motion a).cause ≠ none ∨ (act s.motion a).releaseMark = true →
      (act s.motion a).state = .retracting)
  ∧ ((act s.motion a).pauseTimer ≠ none →
      isMoving (act s.motion a).state = true ∧ (act s.motion a).motor = .off)
  ∧ (isMoving (act s.motion a).state = true → (act s.motion a).motor = .off →
      (act s.motion a).pauseTimer ≠ none)
  ∧ ((act s.motion a).motor = .off ↔ (act s.motion a).latched = none)
  ∧ (∀ l, (act s.motion a).latched = some l → l.drive = (act s.motion a).motor)
  ∧ ((act s.motion a).motor = .off ↔ (act s.motion a).travelTimer = none)
  ∧ ((act s.motion a).motor = .off ↔ (act s.motion a).stallTimer = none)
  ∧ ((act s.motion a).overTimer ≠ none → (act s.motion a).motor ≠ .off)
  ∧ (act s.motion a).position ≤ (s.params.actuator a).length

/-- Every hosted actuator is sound, and the running motion controller's storage flag is the part's
(R137). -/
def MotionOk (s : State) : Prop :=
  (∀ a ∈ hostedActs s.params, ActuatorOk s a)
  ∧ (s.running = true → s.motion.storage = s.boot.storage)

/-! ## Bank monitor and peer table -/

/-- On a running bank host the account lies in 0 to Ceff and SoC in 0 to 1000 (R8), and SoC is that of the
account (R10). -/
def BankOk (s : State) : Prop :=
  s.running = true → s.params.bank.isSome = true →
    s.bank.acc ≤ s.bank.ceff ∧ s.bank.soc ≤ 1000 ∧ s.bank.soc = socOf s.bank.acc s.bank.ceff

/-- The peer table holds at most 14 entries, in order of station number, one for each, and none for
station number 0 or the station's own (R23). -/
def PeersOk (s : State) : Prop :=
  s.peers.entries.length ≤ 14
  ∧ s.peers.entries.Pairwise (fun a b => a.station.toNat < b.station.toNat)
  ∧ (∀ e ∈ s.peers.entries, e.station ≠ 0#4 ∧ e.station ≠ s.boot.station)

/-! ## The view and its consumers -/

/-- Every consumer of the view holds the facts of the entries as they stand: the budget unit the quantity facts
(R32 to R34, R40), and the motion, water and light controllers the condition facts last handed on (R35 to
R37, R91, R95, R130, R144); and the light controller holds the own step-out (R138). -/
def ViewOk (s : State) : Prop :=
  s.budget.peerBanks = peerBanks s.peers.entries
  ∧ s.budget.supplySum = supplySum s.peers.entries
  ∧ s.budget.supplyKnown = supplyKnown s.peers.entries
  ∧ s.budget.claimSums = claimSums s.peers.entries
  ∧ s.peers.lastVehicle = vehicleState s.peers.entries
  ∧ s.peers.lastStepOut = peerStepOut s.peers.entries
  ∧ s.peers.lastGreyFull = peerGreyFull s.peers.entries
  ∧ s.motion.vehicle = s.peers.lastVehicle
  ∧ s.water.moving = movingFlag s.peers.lastVehicle
  ∧ s.light.peerStepOut = s.peers.lastStepOut
  ∧ s.water.peerGreyFull = s.peers.lastGreyFull
  ∧ s.light.ownStepOut = ownStepOut s

/-! ## Before the start -/

/-- Until the blocks start every output is off and the line is not driven (R186): every block stands at
its reset value. -/
def QuietBeforeStart (s : State) : Prop :=
  s.running = false →
    s.params = Params.fallback ∧ s.peers = Peers.reset ∧ s.budget = Budget.reset
    ∧ s.zone = ZoneCtl.reset ∧ s.water = Water.reset ∧ s.motion = Motion.reset
    ∧ s.light = LightCtl.reset ∧ s.line = Line.reset ∧ s.event = EventUnit.reset

/-! ## Safe runs -/

/-- Every block of the part is sound. -/
structure Sound (s : State) : Prop where
  line     : LineOk s
  budget   : BudgetOk s
  mirror   : MirrorOk s
  heaters  : HeatersOk s
  pump     : PumpOk s
  lights   : LightsOk s
  storage  : StorageOk s
  lamps    : LampsOk s
  motion   : MotionOk s
  bank     : BankOk s
  peers    : PeersOk s
  view     : ViewOk s
  quiet    : QuietBeforeStart s

/-- A property of states that every step keeps. -/
def KeptByEveryStep (P : State → Prop) : Prop := ∀ s t : State, P s → step s = .next t → P t

/-- The record comes in whole and in time, at the first read or at the second, and this command is the read's end
(R186; the times of the second read are log entry 14). -/
def RecordComesIn (c : Instr) (bytes : List Byte) (inputs : StartInputs) (s : State) : Prop :=
  c = .recordReadComplete (.completed bytes) inputs ∧ s.boot.phase = .reading
    ∧ s.boot.readTimer ≤ 50
  ∨ c = .recordReadRetry (.completed bytes) inputs ∧ s.boot.phase = .retryWait
    ∧ 10 ≤ s.boot.readTimer ∧ s.boot.readTimer ≤ 60

/-! ## Frames: what a command leaves as it was -/

/-- The blocks of the part, with the parameters, the count of time and the count of free values. -/
inductive Block where
  | boot | params | bank | peers | budget | zone | water | motion | light | line | event
  | clock | freeCount
  deriving DecidableEq, Repr

/-- A block stands after as it stood before. -/
def blockSame (s t : State) : Block → Prop
  | .boot => t.boot = s.boot
  | .params => t.params = s.params
  | .bank => t.bank = s.bank
  | .peers => t.peers = s.peers
  | .budget => t.budget = s.budget
  | .zone => t.zone = s.zone
  | .water => t.water = s.water
  | .motion => t.motion = s.motion
  | .light => t.light = s.light
  | .line => t.line = s.line
  | .event => t.event = s.event
  | .clock => t.clock = s.clock ∧ t.cells = s.cells
  | .freeCount => t.freeCount = s.freeCount

/-- What an event of the budget unit can move: the load table, and with it the controllers that own the
loads and the line (R54, R66, R108). -/
def loadBlocks : List Block := [.budget, .zone, .water, .light, .line]

/-- What a change of an actuator can move (R120, R124, R138, R139). -/
def motionBlocks : List Block := loadBlocks ++ [.motion, .event, .freeCount]

/-- The blocks a command may change; it leaves every other block as it was. -/
def mayTouch : Instr → List Block
  | .powerOnReset _ | .resetPinReset _ =>
    [.boot, .params, .bank, .peers, .budget, .zone, .water, .motion, .light, .line, .event, .clock]
  | .recordReadComplete _ _ | .recordReadRetry _ _ => motionBlocks ++ [.boot, .params, .bank]
  | .listenIntervalEnd => loadBlocks ++ [.boot]
  | .storageSet _ _ => motionBlocks ++ [.boot]
  | .bankSample _ _ | .derateEvaluation _ => loadBlocks ++ [.bank, .event]
  | .batteryPeriod => [.bank, .line]
  | .peerStale _ => [.peers]
  | .peerRemoval _ => motionBlocks ++ [.peers]
  | .overBudgetDwellExpiry => loadBlocks ++ [.event]
  | .budgetShedHoldExpiry _ => loadBlocks
  | .claimDue | .claimHeartbeat => [.budget, .line]
  | .zoneEvaluation _ => loadBlocks ++ [.event, .freeCount]
  | .heaterWindowStep => [.zone]
  | .zoneSet _ _ _ _ => loadBlocks
  | .tankPeriod _ _ _ _ => loadBlocks ++ [.event]
  | .pressureSwitchEdge _ => loadBlocks
  | .pumpRunTimerExpiry | .frostDwellExpiry => loadBlocks ++ [.event]
  | .pumpSet _ _ | .valveClose _ => loadBlocks
  | .tanksDue | .tanksHeartbeat => [.water, .line]
  | .stopArrival _ _ | .stopDeparture _ _ => motionBlocks
  | .hallEdge _ => [.motion]
  | .travelTimeout _ | .stall _ => motionBlocks
  | .motorCurrentCrossing _ _ => [.motion]
  | .overcurrentExpiry _ => motionBlocks
  | .pauseEnd _ => loadBlocks ++ [.motion, .freeCount]
  | .anemometerEdge => motionBlocks
  | .windSilenceExpiry => [.motion]
  | .move _ _ _ | .halt _ _ | .holdSet _ _ _ => loadBlocks ++ [.motion, .freeCount]
  | .faultClear _ _ | .stow _ => motionBlocks
  | .motionHeartbeat => [.motion, .line, .freeCount]
  | .switchEdge _ _ | .scene _ | .lightSet _ _ _ _ => loadBlocks
  | .fadeTick | .pwmCounterAdvance => [.light]
  | .eventsClear _ _ => [.event, .line]
  | .diagQuery _ _ => [.line, .peers, .budget, .water, .motion]
  | .requestOther _ _ | .frameReceived _ _ _ => motionBlocks ++ [.boot, .peers]
  | .lineIdle | .lineFallingEdge | .contentionLoss | .txCollision | .frameSent
  | .receiveError _ => [.line]

/-- The events a command may raise; it leaves every other flag as it was. Of the commands without a list,
the resets and EVENTS-CLEAR clear flags, and the others carry whole requests or start every block. -/
def mayRaise : Instr → Option (List Event)
  | .powerOnReset _ | .resetPinReset _ | .recordReadComplete _ _ | .recordReadRetry _ _
  | .eventsClear _ _ | .requestOther _ _ | .frameReceived _ _ _ => none
  | .bankSample _ _ => some [.bankResync, .levelShed, .socLow]
  | .derateEvaluation _ => some [.levelShed, .socLow]
  | .peerRemoval _ => some [.peerLost, .levelShed, .socLow, .interlockRetract, .stowFailed]
  | .overBudgetDwellExpiry => some [.budgetShed]
  | .zoneEvaluation _ => some [.zoneSensorFault]
  | .tankPeriod _ _ _ _ => some [.tankFull, .tankEmpty]
  | .pumpRunTimerExpiry => some [.pumpDry]
  | .frostDwellExpiry => some [.frostDump]
  | .stopArrival _ _ | .travelTimeout _ | .stall _ | .overcurrentExpiry _ =>
    some [.actuatorFault, .stowFailed]
  | .stopDeparture _ _ => some [.interlockRetract]
  | .anemometerEdge => some [.windRetract]
  | .faultClear _ _ => some [.actuatorFault]
  | .stow _ | .storageSet _ _ => some [.stowFailed]
  | .listenIntervalEnd | .batteryPeriod | .peerStale _ | .budgetShedHoldExpiry _ | .claimDue
  | .claimHeartbeat | .heaterWindowStep | .zoneSet _ _ _ _ | .pressureSwitchEdge _ | .pumpSet _ _
  | .valveClose _ | .tanksDue | .tanksHeartbeat | .hallEdge _ | .motorCurrentCrossing _ _
  | .pauseEnd _ | .windSilenceExpiry | .move _ _ _ | .halt _ _ | .holdSet _ _ _
  | .motionHeartbeat | .switchEdge _ _ | .scene _ | .lightSet _ _ _ _ | .fadeTick
  | .pwmCounterAdvance | .diagQuery _ _ | .lineIdle | .lineFallingEdge | .contentionLoss
  | .txCollision | .frameSent | .receiveError _ => some []

/-- The line after telegrams of this station have been handed to it one after another (R166, R162). -/
inductive Handed (own : Station) (l : Line) : Line → Prop where
  | refl : Handed own l l
  | send (m : Line) (k : Kind) (payload : List Byte) : Handed own l m →
      Handed own l (beginFrame (takeTelegram m (telegramOf k own payload)))

/-- Among the telegrams handed to the line one after another between two moments there is this one (R166). -/
def HandedAmong (own : Station) (l l' : Line) (k : Kind) (payload : List Byte) : Prop :=
  ∃ m : Line, Handed own l m
    ∧ Handed own (beginFrame (takeTelegram m (telegramOf k own payload))) l'

/-- The line to which the first telegram of a command is handed: after a complete frame the receiver has left
it (R168). -/
def lineAtHandover (c : Instr) (s : State) : Line :=
  match c with
  | .frameReceived _ _ _ => { s.line with receiver := .discarding }
  | _ => s.line

/-- The commands that reach the line interface only by handing it telegrams: all but the line's own, the two
resets, and the three that can report its counters. -/
def handsTelegrams : Instr → Bool
  | .powerOnReset _ | .resetPinReset _ | .lineIdle | .lineFallingEdge | .contentionLoss
  | .txCollision | .frameSent | .receiveError _ | .frameReceived _ _ _ | .requestOther _ _
  | .diagQuery _ _ => false
  | .recordReadComplete _ _ | .recordReadRetry _ _ | .listenIntervalEnd | .storageSet _ _
  | .bankSample _ _ | .derateEvaluation _ | .batteryPeriod | .peerStale _ | .peerRemoval _
  | .overBudgetDwellExpiry | .budgetShedHoldExpiry _ | .claimDue | .claimHeartbeat
  | .zoneEvaluation _ | .heaterWindowStep | .zoneSet _ _ _ _ | .tankPeriod _ _ _ _
  | .pressureSwitchEdge _ | .pumpRunTimerExpiry | .frostDwellExpiry | .pumpSet _ _
  | .valveClose _ | .tanksDue | .tanksHeartbeat | .stopArrival _ _ | .stopDeparture _ _
  | .hallEdge _ | .travelTimeout _ | .stall _ | .motorCurrentCrossing _ _
  | .overcurrentExpiry _ | .pauseEnd _ | .anemometerEdge | .windSilenceExpiry | .move _ _ _
  | .halt _ _ | .holdSet _ _ _ | .faultClear _ _ | .stow _ | .motionHeartbeat
  | .switchEdge _ _ | .scene _ | .lightSet _ _ _ _ | .fadeTick | .eventsClear _ _
  | .pwmCounterAdvance => true

/-- The last telegram handed to the line is this REPLY, after others that the same event formed (R177). -/
def Replied (s t : State) (rq : Requester) (o : ReplyOutcome) (data : List Byte) : Prop :=
  ∃ l : Line, Handed s.boot.station s.line l
    ∧ t.line = beginFrame (takeTelegram l (telegramOf .reply s.boot.station
        ([rq.origin.setWidth 8, rq.tag, outcomeCode o] ++ data)))

/-- The state with nothing changed but this REPLY, handed to the line (R177). -/
def answered (s : State) (rq : Requester) (o : ReplyOutcome) (data : List Byte) : State :=
  { s with line := beginFrame (takeTelegram s.line (telegramOf .reply s.boot.station
      ([rq.origin.setWidth 8, rq.tag, outcomeCode o] ++ data))) }

/-- The fields of a zone that no load decides. -/
def zoneFixed (z : Zone) : ZoneMode × Int × Option ZoneMode × Option Int × Bool × Int × Nat :=
  (z.mode, z.setpoint, z.saved, z.temp, z.faulted, z.integral, z.duty)

/-- The fields of a channel that no load decides. -/
def channelFixed (c : Channel) : Nat × Bool × Bool × Bool × Bool :=
  (c.setLevel, c.latch, c.scene, c.on, c.output)

/-- The fields of the water controller that no load decides, but for the times of TANKS. -/
def waterFixed (w : Water) : (Tank × Tank × Tank × Nat × Bool × Bool) × (Bool × Bool × Bool)
    × (Option Int × Bool × Bool × Bool) × Nat :=
  ((w.fresh, w.grey, w.black, w.periodTimer, w.moving, w.peerGreyFull),
   (w.pump.demand, w.pump.disabled, w.pump.dryLock),
   (w.frost.temp, w.frost.faulted, w.frost.demand, w.frost.valveOpen), w.frostDumps)

/-- The inputs of the budget unit with what is computed from them, and its gate (R40 to R44, R50). -/
def budgetFixed (b : Budget) : (Option BatteryPart × List PeerBank × Nat × Bool × PerClass Nat)
    × (Option Nat × Nat × PerClass Nat × Bool) :=
  ((b.ownBank, b.peerBanks, b.supplySum, b.supplyKnown, b.claimSums),
   (b.governing, b.budget, b.caps, b.gateOpen))

/-- The zones, but for their load states and outputs. -/
def zonesSame (s t : State) : Prop :=
  (∀ n : Fin 4, zoneFixed t.zone.zones[n] = zoneFixed s.zone.zones[n])
  ∧ t.zone.periodTimer = s.zone.periodTimer ∧ t.zone.windowTimer = s.zone.windowTimer
  ∧ t.zone.window = s.zone.window

/-- The lights, but for what their loads decide. -/
def lightsSame (s t : State) : Prop :=
  (∀ n : Fin 8, channelFixed t.light.channels[n] = channelFixed s.light.channels[n])
  ∧ t.light.ownStepOut = s.light.ownStepOut ∧ t.light.peerStepOut = s.light.peerStepOut
  ∧ t.light.forcedOff = s.light.forcedOff ∧ t.light.fadeTimer = s.light.fadeTimer
  ∧ t.light.pwm = s.light.pwm

/-- The budget unit, but for its load states, lists, totals and timers. -/
def budgetSame (s t : State) : Prop :=
  budgetFixed t.budget = budgetFixed s.budget
  ∧ ∀ i : Fin 17, t.budget.loads[i].rated = s.budget.loads[i].rated

/-- The water controller, but for what its loads decide. -/
def waterSame (s t : State) : Prop := waterFixed t.water = waterFixed s.water

/-- Between two states only the loads have moved: their states in the budget unit and in the controllers,
with the outputs and the timers that follow from them. -/
def OnlyLoadsMoved (s t : State) : Prop :=
  budgetSame s t ∧ zonesSame s t ∧ waterSame s t ∧ lightsSame s t

/-! ## What the statements say of an actuator, a victim and a queue -/

/-- An actuator record at the end of a travel, as R120 lists it: motor off, timers idle, nothing latched, no
mark and no cause, and the hold cleared only at STOWED under the mark. -/
def travelEnded (r : ActRec) (st : ActState) (position : Nat) : ActRec :=
  { state := st, position := position, motor := .off, latched := none, travelTimer := none
    stallTimer := none, overTimer := none, pauseTimer := none
    hold := if st = .stowed ∧ r.releaseMark = true then false else r.hold
    releaseMark := false, faults := r.faults, cause := none }

/-- An actuator record at a reversal, as R116 lists it: the pause from 0, motor off, timers idle, nothing
latched. -/
def reversing (r : ActRec) (st : ActState) (mark : Bool) (cause : Option Cause) : ActRec :=
  { state := st, position := r.position, motor := .off, latched := none, travelTimer := none
    stallTimer := none, overTimer := none, pauseTimer := some 0, hold := r.hold
    releaseMark := mark, faults := r.faults, cause := cause }

/-- An actuator record at the start of a driven travel inward, as R115 lists it. -/
def drivenInward (p : ActuatorParams) (r : ActRec) (mark : Bool) (cause : Option Cause) : ActRec :=
  { state := .retracting, position := r.position, motor := .inward
    latched := some { drive := .inward, limit := p.inLimit, timeout := p.timeout }
    travelTimer := some 0, stallTimer := some 0, overTimer := none, pauseTimer := none
    hold := r.hold, releaseMark := mark, faults := r.faults, cause := cause }

/-- An actuator record at the start of a driven travel outward, as R115 lists it. -/
def drivenOutward (p : ActuatorParams) (r : ActRec) (mark : Bool) (cause : Option Cause) : ActRec :=
  { state := .extending, position := r.position, motor := .outward
    latched := some { drive := .outward, limit := p.outLimit, timeout := p.timeout }
    travelTimer := some 0, stallTimer := some 0, overTimer := none, pauseTimer := none
    hold := r.hold, releaseMark := mark, faults := r.faults, cause := cause }

/-- The other actuator. -/
def otherActuator : Actuator → Actuator
  | .awning => .step
  | .step => .awning

/-- The other end stop. -/
def otherStop : StopEnd → StopEnd
  | .inStop => .outStop
  | .outStop => .inStop

/-- Of the motion controller everything but one actuator, the pins, the MOTION timer and the count of
faults stands as it was. -/
def restOfMotionSame (s t : State) (a : Actuator) : Prop :=
  act t.motion (otherActuator a) = act s.motion (otherActuator a)
  ∧ t.motion.wind = s.motion.wind ∧ t.motion.vehicle = s.motion.vehicle
  ∧ t.motion.storage = s.motion.storage

/-- A record the over-budget watch can take: sheddable, of class 1 to 3, and drawing current (R62). -/
def qualifies (b : Budget) (i : Fin 17) : Prop :=
  sheddable i = true ∧ b.loads[i].cls ≠ .c0 ∧ drawsCurrent b.loads[i].state = true

/-- The record the over-budget watch must take (R62): of the records of the admitted list that qualify, of
the highest class, and among those the one nearest the tail. -/
def IsVictim (b : Budget) (i : Fin 17) : Prop :=
  ∃ front back : List (Fin 17), b.admitted = front ++ i :: back ∧ qualifies b i
    ∧ (∀ j ∈ front, qualifies b j → classNum b.loads[j].cls ≤ classNum b.loads[i].cls)
    ∧ (∀ j ∈ back, qualifies b j → classNum b.loads[j].cls < classNum b.loads[i].cls)

/-- The budget unit's totals as they stand when these records have been admitted at their rated currents, one
after another in an admission pass (R45, R56). -/
def totalsWith (b : Budget) (admitted : List (Fin 17)) : PerClass Nat :=
  let loads := Vector.ofFn fun i : Fin 17 =>
    if i ∈ admitted then { b.loads[i] with state := .admitted, claim := b.loads[i].rated, hold := none }
    else b.loads[i]
  totals { b with own := ownTotals loads }

/-- The entry a displacement must remove from a full table (R31): STALE, with no STALE entry's silence timer
higher, and none of a lower number whose timer stands as high. -/
def IsLongestStale (entries : List PeerEntry) (e : PeerEntry) : Prop :=
  e ∈ entries ∧ e.stale = true
    ∧ ∀ x ∈ entries, x.stale = true → x.silence ≤ e.silence
      ∧ (x.silence = e.silence → e.station.toNat ≤ x.station.toNat)

/-- The entry a frame must begin with (R162): of the queue, with no entry of a lower header, and none of
an equal header and an older age. -/
def GoesFirst (q : List TxEntry) (e : TxEntry) : Prop :=
  e ∈ q ∧ ∀ x ∈ q, e.telegram.header.toNat ≤ x.telegram.header.toNat
    ∧ (x.telegram.header = e.telegram.header → e.age ≤ x.age)

/-- The status entry that a displacement must take (R166): of the queue, and none older. -/
def IsOldestStatus (q : List TxEntry) (e : TxEntry) : Prop :=
  e ∈ q ∧ isStatus e.telegram.kind = true
    ∧ ∀ x ∈ q, isStatus x.telegram.kind = true → e.age ≤ x.age

/-- The light channels stand as before, but for the fields that loads decide, on every channel the
predicate leaves out. -/
def otherChannelsSame (s t : State) (touched : Fin 8 → Prop) : Prop :=
  ∀ n : Fin 8, ¬ touched n →
    channelFixed t.light.channels[n] = channelFixed s.light.channels[n]

end Sys2Proof.Machine
end

