-- ==== Sys2Proof/Certificates/Slice0/Obligations.lean ====
section
/-! DEFINITION. The statements for the provers, family by family: the queue and the frames, the invariants,
and what each command does. Each docstring names the rule or the log entry it formalises. -/

open Sys2Proof Sys2Proof.Machine

/-! ## The queue, the passing of time and the frames -/

/-- The command at the front of the queue runs, on the state with the queue's rest (log entry 5). -/
def Obligations.StepRunsFrontCommand : Prop :=
  ∀ (c : Instr) (s : State) (rest : List Instr),
    step { s with pending := c :: rest } = exec c { s with pending := rest }

/-- The model's choice (log entry 2): with no command waiting 20 µs pass, one cell of the line, and with the
fiftieth a millisecond. A header being sent is over with its 17th cell, and the sender is then in the BODY
(R163, log entry 13). At a millisecond every running timer goes on by one up to its end, those of functions that
the station does not serve among them (log entry 18); before the blocks start only the record's timer and the
free-running counter run. No load state, claim, queued telegram or event changes. -/
def Obligations.IdleStepLetsOneCellPass : Prop :=
  ∀ (s : State) (line : Line), s.pending = [] →
    line = (if s.running = true ∧ s.line.sender = .header then
        { s.line with
          sentCells := min 17 (s.line.sentCells + 1)
          sender := if 17 ≤ s.line.sentCells + 1 then .body else .header }
      else s.line) →
    (s.cells + 1 < 50 → step s = .next { s with cells := s.cells + 1, line := line })
    ∧ (50 ≤ s.cells + 1 → ∃ t : State, step s = .next t ∧ t.cells = 0
      ∧ t.clock = s.clock + 1 ∧ t.pending = [] ∧ t.params = s.params ∧ t.event = s.event
      ∧ t.freeCount = s.freeCount ∧ t.line = line
      ∧ t.budget.own = s.budget.own ∧ t.budget.retry = s.budget.retry
      ∧ t.budget.admitted = s.budget.admitted ∧ t.motion.pins = s.motion.pins
      ∧ (∀ i : Fin 17, t.budget.loads[i].state = s.budget.loads[i].state
          ∧ t.budget.loads[i].claim = s.budget.loads[i].claim)
      ∧ (∀ a : Actuator, (act t.motion a).state = (act s.motion a).state
          ∧ (act t.motion a).position = (act s.motion a).position
          ∧ (act t.motion a).motor = (act s.motion a).motor)
      ∧ (s.running = true →
          t.bank.sampleTimer = min 250 (s.bank.sampleTimer + 1)
          ∧ t.bank.derateTimer = min 10000 (s.bank.derateTimer + 1)
          ∧ t.bank.batteryTimer = min 1000 (s.bank.batteryTimer + 1)
          ∧ t.budget.claimTimer = min 2000 (s.budget.claimTimer + 1)
          ∧ t.zone.periodTimer = min 10000 (s.zone.periodTimer + 1)
          ∧ t.zone.windowTimer = min 250 (s.zone.windowTimer + 1)
          ∧ t.water.periodTimer = min 1000 (s.water.periodTimer + 1)
          ∧ t.water.tanksTimer = min 5000 (s.water.tanksTimer + 1)
          ∧ t.motion.motionTimer = min 2000 (s.motion.motionTimer + 1)
          ∧ t.light.fadeTimer = min 20 (s.light.fadeTimer + 1)
          ∧ t.peers.entries.map PeerEntry.silence
              = s.peers.entries.map (fun e => min 10000 (e.silence + 1))
          ∧ t.boot.listenTimer = (if s.boot.stage = .listen then min 3000 (s.boot.listenTimer + 1)
              else s.boot.listenTimer)
          ∧ t.budget.dwell
              = s.budget.dwell.map (fun n => min (1000 + 250 * s.boot.station.toNat) (n + 1))
          ∧ (∀ i : Fin 17, t.budget.loads[i].hold
              = s.budget.loads[i].hold.map (fun n => min 30000 (n + 1)))
          ∧ t.water.pump.runTimer
              = (if s.water.pump.output then min 120000 (s.water.pump.runTimer + 1) else 0)
          ∧ t.water.frost.dwell = s.water.frost.dwell.map (fun n => min 600000 (n + 1))
          ∧ t.motion.wind.silence = s.motion.wind.silence.map (fun n => min 2000 (n + 1))
          ∧ (∀ a : Actuator,
              (act t.motion a).stallTimer
                = (act s.motion a).stallTimer.map (fun n => min 500 (n + 1))
              ∧ (act t.motion a).overTimer
                = (act s.motion a).overTimer.map (fun n => min 200 (n + 1))
              ∧ (act t.motion a).pauseTimer
                = (act s.motion a).pauseTimer.map (fun n => min 300 (n + 1))
              ∧ (∀ l, (act s.motion a).latched = some l →
                  (act t.motion a).travelTimer
                    = (act s.motion a).travelTimer.map (fun n => min (l.timeout * 1000) (n + 1)))))
      ∧ (s.running = false → t.bank = s.bank ∧ t.peers = s.peers ∧ t.budget = s.budget
          ∧ t.zone = s.zone ∧ t.water = s.water ∧ t.motion = s.motion ∧ t.light = s.light
          ∧ t.boot.readTimer = min 61 (s.boot.readTimer + 1)))

/-- Every command answers a next state in every state; it leaves the queue to `step`, and changes only the
blocks and raises only the events that its rules name (`mayTouch`, `mayRaise`). That a command without effect
(its block not started, its timer not at its end) answers the state as it was is the model's choice (log entries
2 and 3). -/
def Obligations.EachCommandKeepsToItsBlocks : Prop :=
  ∀ (c : Instr) (s : State), ∃ t : State, exec c s = .next t
    ∧ t.pending = s.pending
    ∧ (∀ b : Block, b ∉ mayTouch c → blockSame s t b)
    ∧ (∀ l : List Event, mayRaise c = some l → ∀ e : Event, e ∉ l →
        inSet t.event.flags e = inSet s.event.flags e)

/-- Every command but the line's own events, the resets and the reports of counters changes the line
interface only by handing it telegrams one after another (R166), and on an unconfigured station not at
all (R172). -/
def Obligations.BlocksReachLineByTelegramsOnly : Prop :=
  ∀ (c : Instr) (s t : State), handsTelegrams c = true → exec c s = .next t →
    Handed s.boot.station s.line t.line ∧ (s.boot.station = 0#4 → t.line = s.line)

/-! ## What holds in every state -/

/-- After a power-on reset every block is sound: what each invariant below asks holds at reset. -/
def Obligations.ResetMeetsEveryInvariant : Prop :=
  Sound State.reset

/-- The transmit queue holds at most 8 telegrams and at most one each of the six kinds (R166); the send
register is full exactly while the sender works; an unconfigured station holds no telegram (R172). -/
def Obligations.TransmitQueueStaysInBounds : Prop :=
  KeptByEveryStep LineOk

/-- Every step keeps the load table, its two lists and the own totals in agreement (R47 to R50, R55, R59). -/
def Obligations.LoadTableStaysConsistent : Prop :=
  KeptByEveryStep BudgetOk

/-- Every step keeps what the controllers hold of their loads equal to what the budget unit holds, with the dump
valve open exactly while its load is ADMITTED (R48, R54, R102); the pump OFF while a block holds, its output
with its load (R95, R97); the lights OFF in storage mode and where none is hosted (R142, R145, R156, R190);
and every hosted channel's on condition at its truth table's value, its load OFF exactly without it (R145). The
consistent load table stands among the premises. -/
def Obligations.LoadsAndControllersStayInStep : Prop :=
  KeptByEveryStep fun s => BudgetOk s ∧ MirrorOk s ∧ PumpOk s ∧ StorageOk s ∧ LampsOk s

/-- Every step keeps the heater outputs with their admitted duty or load (R77, R101); every light channel at the
target, level and duty of its load (R148, R149, R152); the account of a running bank host in 0 to Ceff and SoC
in 0 to 1000 (R8, R10); the peer table in its order and bounds (R23); the consumers of the view at the facts
of the entries, and the lights at the own step-out (R32 to R40, R138); and, until the blocks start, every block
at its reset value (R186). -/
def Obligations.OutputsAccountsAndTablesStaySound : Prop :=
  KeptByEveryStep fun s => HeatersOk s ∧ LightsOk s ∧ BankOk s ∧ PeersOk s ∧ ViewOk s
    ∧ QuietBeforeStart s

/-- Every step keeps every hosted actuator sound: its motor's load, its drive, its faults, its cause and its
position go with its state, its timers and latched parameters with its drive, and it extends only where R115
lets it (R112, R114 to R117, R120 to R122). -/
def Obligations.ActuatorsStaySound : Prop :=
  KeptByEveryStep MotionOk

/-! ## Resets and start-up -/

/-- After either reset every block stands, until it starts, at the values its chapter lists (R38, R68, R85, R110,
R141, R158, R174, R184). The storage flag and, of a bank monitor whose blocks have started, the account with
its mark are kept by a reset-pin reset only (R17, R18, R191); a reset-pin reset before the start discards them
(R18). Of the rest, the model chooses (log entries 1 and 5). -/
def Obligations.EitherResetLeavesListedValues : Prop :=
  ∀ (c : Instr) (straps : Station) (s : State),
    c = .powerOnReset straps ∨ c = .resetPinReset straps →
    ∃ t : State, exec c s = .next t
      ∧ t.pending = s.pending
      ∧ t.boot.station = straps ∧ t.boot.phase = .reading
      ∧ (c = .powerOnReset straps → t.boot.storage = false ∧ t.bank.mark = none)
      ∧ (c = .resetPinReset straps → t.boot.storage = s.boot.storage
          ∧ (s.running = true → t.bank.acc = s.bank.acc
              ∧ t.bank.estimated = s.bank.estimated ∧ t.bank.restTimer = s.bank.restTimer
              ∧ t.bank.mark = s.bank.mark)
          ∧ (s.running = false → t.bank.mark = none))
      ∧ t.peers.entries = [] ∧ t.peers.lastVehicle = .unknown ∧ t.peers.lastStepOut = false
      ∧ t.peers.lastGreyFull = false ∧ t.peers.peersLost = 0
      ∧ t.budget.ownBank = none ∧ t.budget.peerBanks = [] ∧ t.budget.supplySum = 0
      ∧ t.budget.supplyKnown = false ∧ t.budget.claimSums = ⟨0, 0, 0, 0⟩
      ∧ t.budget.governing = none ∧ t.budget.shed = ⟨false, false, false, false⟩
      ∧ t.budget.own = ⟨0, 0, 0, 0⟩ ∧ t.budget.retry = [] ∧ t.budget.admitted = []
      ∧ t.budget.gateOpen = false ∧ t.budget.dwell = none ∧ t.budget.claimTimer = 0
      ∧ t.budget.levelSheds = 0 ∧ t.budget.budgetSheds = 0
      ∧ (∀ i : Fin 17, t.budget.loads[i].state = .off ∧ t.budget.loads[i].claim = 0
          ∧ t.budget.loads[i].hold = none)
      ∧ t.budget.loads[15].cls = .c0 ∧ t.budget.loads[16].cls = .c0
      ∧ (∀ n : Fin 4, t.zone.zones[n].setpoint = 200 ∧ t.zone.zones[n].temp = none
          ∧ t.zone.zones[n].faulted = false ∧ t.zone.zones[n].integral = 0
          ∧ t.zone.zones[n].duty = 0 ∧ t.zone.zones[n].load = .off
          ∧ t.zone.zones[n].output = false)
      ∧ t.zone.window = 0#8
      ∧ (∀ x ∈ [t.water.fresh, t.water.grey, t.water.black],
          x.raw = none ∧ x.filtered = none ∧ x.state = .normal)
      ∧ t.water.pump.disabled = false ∧ t.water.pump.dryLock = false
      ∧ t.water.pump.runTimer = 0 ∧ t.water.pump.load = .off ∧ t.water.pump.output = false
      ∧ t.water.frost.temp = none ∧ t.water.frost.faulted = false ∧ t.water.frost.demand = false
      ∧ t.water.frost.load = .off ∧ t.water.frost.output = false ∧ t.water.frost.dwell = none
      ∧ t.water.frost.valveOpen = false ∧ t.water.moving = false
      ∧ t.water.peerGreyFull = false ∧ t.water.tanksTimer = 0 ∧ t.water.frostDumps = 0
      ∧ (∀ a : Actuator, (act t.motion a).motor = .off ∧ (act t.motion a).latched = none
          ∧ (act t.motion a).travelTimer = none ∧ (act t.motion a).stallTimer = none
          ∧ (act t.motion a).overTimer = none ∧ (act t.motion a).pauseTimer = none
          ∧ (act t.motion a).hold = false ∧ (act t.motion a).releaseMark = false
          ∧ (act t.motion a).cause = none)
      ∧ t.motion.vehicle = .unknown ∧ t.motion.wind.lastCapture = none
      ∧ t.motion.wind.speed = 0 ∧ t.motion.wind.gusts = 0 ∧ t.motion.motionTimer = 0
      ∧ t.motion.actuatorFaults = 0
      ∧ (∀ n : Fin 8, t.light.channels[n].latch = false ∧ t.light.channels[n].scene = false
          ∧ t.light.channels[n].load = .off ∧ t.light.channels[n].target = 0
          ∧ t.light.channels[n].current = 0 ∧ t.light.channels[n].duty = 0
          ∧ t.light.channels[n].output = false)
      ∧ t.light.ownStepOut = false ∧ t.light.peerStepOut = false
      ∧ t.line.idle = false ∧ t.line.sender = .idle ∧ t.line.register = none
      ∧ t.line.queue = [] ∧ t.line.receiver ≠ .receiving ∧ t.line.rxCheck = 0
      ∧ t.line.rxFormat = 0 ∧ t.line.rxClash = 0 ∧ t.line.contentionLosses = 0
      ∧ t.line.txCollisions = 0 ∧ t.line.txExhausted = 0 ∧ t.line.txDropped = 0
      ∧ t.event.flags = 0#16 ∧ t.event.mask = 0#16

/-- A first read of the record that fails, or that is not complete within 50 ms, changes only the start-up
block, which waits for the second read (R186).

A record that fails its check, and a second read that fails, start the fallback profile (R186, R188):
nothing is hosted, every load is OFF, the gate is closed, the mask is empty, and CONFIG-FALLBACK is set
with its ALERT queued beside the first CLAIM. (The bank monitor that no record starts stands at the values of
log entry 1; that the second read starts after 10 ms, has 50 ms, and is timed by the one read timer is log
entry 14.) -/
def Obligations.FailedReadsEndInTheFallbackProfile : Prop :=
  (∀ (r : ReadResult) (inputs : StartInputs) (s : State), s.boot.phase = .reading →
    (r = .failed ∨ (∃ bytes : List Byte, r = .completed bytes
      ∧ (bytes.length ≠ 256 ∨ 50 < s.boot.readTimer))) →
    exec (.recordReadComplete r inputs) s
      = .next { s with boot := { s.boot with phase := .retryWait, readTimer := 0 } })
  ∧ (∀ (c : Instr) (bytes : List Byte) (inputs : StartInputs) (s : State), QuietBeforeStart s →
    (c = .recordReadComplete (.completed bytes) inputs ∧ s.boot.phase = .reading
        ∧ s.boot.readTimer ≤ 50 ∧ bytes.length = 256 ∧ recordPasses bytes = false
      ∨ c = .recordReadRetry (.completed bytes) inputs ∧ s.boot.phase = .retryWait
        ∧ 10 ≤ s.boot.readTimer ∧ (recordPasses bytes = false ∨ 60 < s.boot.readTimer)
      ∨ c = .recordReadRetry .failed inputs ∧ s.boot.phase = .retryWait
        ∧ 10 ≤ s.boot.readTimer) →
    ∃ t : State, exec c s = .next t
      ∧ t.boot.phase = .running ∧ t.boot.passed = false ∧ t.boot.stage = .listen
      ∧ t.boot.listenTimer = 0 ∧ t.boot.station = s.boot.station
      ∧ t.boot.storage = s.boot.storage
      ∧ t.params = Params.fallback ∧ t.bank = Bank.reset ∧ t.event.mask = 0#16
      ∧ (∀ e : Event, inSet t.event.flags e = true ↔ e = .configFallback)
      ∧ t.budget.gateOpen = false ∧ t.budget.budget = 0
      ∧ (∀ i : Fin 17, t.budget.loads[i].state = .off ∧ t.budget.loads[i].claim = 0)
      ∧ (s.boot.station ≠ 0#4 → countKind t.line.queue .claim = 1
          ∧ countKind t.line.queue .alert = 1 ∧ t.line.queue.length = 2))

/-- A record that comes in and passes its check, at the first read or at the second, starts every block
(R179, R187, R189): the parameters are those of the record, the gate is closed, no class 1 to 3 load draws
current, the first CLAIM is queued, and a hosted bank is known with its mark set (R15, R20, R66). The states
the controllers start in are the next two statements'. (The times of the second read are log entry 14.) -/
def Obligations.PassingRecordStartsEveryBlock : Prop :=
  ∀ (c : Instr) (bytes : List Byte) (inputs : StartInputs) (s : State),
    QuietBeforeStart s → recordPasses bytes = true → RecordComesIn c bytes inputs s →
    ∃ t : State, exec c s = .next t
      ∧ t.boot = { s.boot with phase := .running, record := bytes, passed := true, stage := .listen
                               listenTimer := 0, readTimer := 0 }
      ∧ t.params = paramsOfRecord bytes ∧ t.event.mask = wordAt bytes 90
      ∧ t.peers = s.peers ∧ t.clock = s.clock
      ∧ t.budget.gateOpen = false
      ∧ (∀ i : Fin 17, t.budget.loads[i].cls ≠ .c0 →
          drawsCurrent t.budget.loads[i].state = false)
      ∧ (∀ p : BankParams, t.params.bank = some p →
          t.bank.mark = some { cn := p.cn, letter := p.letter }
          ∧ t.budget.ownBank = some { letter := p.letter, soc := t.bank.soc, limit := p.limit })
      ∧ (s.boot.station ≠ 0#4 → countKind t.line.queue .claim = 1)
      ∧ (s.boot.station = 0#4 → t.line = s.line)

/-- A record that comes in and passes its check starts the bank monitor, the zones and the water controller.

The monitor (R4 to R6, R15 to R19): from the retained state where the mark names the record's Cn and letter,
with the sample's charge step, and otherwise from the OCV table with the estimated flag set; then the rest is
evaluated, with a resync where the rest time is reached. A station whose record names no bank discards the
retained state (R18; its other values are log entry 1).

The zones (R71 to R75, R83, R85): in their default mode, or in FROST-GUARD with it saved while storage mode
holds, with the first evaluation made and no heater on.

The water controller (R89 to R94, R100 to R103, R110): with its first tank period taken, the pump's demand read
from the switch, and no output on. (The times of the second read are log entry 14; that the BATTERY timer of an
unconfigured station starts too is the model's choice, log entry 18.) -/
def Obligations.BankZonesAndWaterStart : Prop :=
  ∀ (c : Instr) (bytes : List Byte) (inputs : StartInputs) (s : State) (p : Params),
    QuietBeforeStart s → recordPasses bytes = true → RecordComesIn c bytes inputs s →
    p = paramsOfRecord bytes → ∃ t : State, exec c s = .next t
    ∧ (p.bank = none → t.bank.mark = none)
    ∧ (∀ (b : BankParams) (keep quiet : Bool) (temp cur : Int) (d ceff ocv acc rest : Nat),
        p.bank = some b →
        keep = decide (s.bank.mark = some { cn := b.cn, letter := b.letter }) →
        temp = (convertTemp p.tempTable inputs.bankTemp).getD 250 →
        (d : Int) = max 1 (min 1024 (lookup b.derate temp)) →
        ceff = b.cn * 360000 * d →
        cur = max (-32000) (min 32000 inputs.current) →
        (ocv : Int) = max 0 (min 1000 (lookup b.ocv (min inputs.voltage 65535 : Nat))) →
        (acc : Int) = (if keep then max 0 (min (ceff : Int) ((min s.bank.acc ceff : Nat)
            + (if 0 ≤ cur then cur * b.eta else cur * 256)))
          else ((ceff * ocv / 1000 : Nat) : Int)) →
        quiet = decide (cur.natAbs ≤ b.restThreshold) →
        rest = (if quiet then (if keep then s.bank.restTimer else 0) + 250 else 0) →
        (¬ (quiet = true ∧ b.restTime * 1000 ≤ rest) → t.bank =
          { acc := acc, derate := d, ceff := ceff, soc := acc * 1000 / ceff, current := cur
            voltage := min inputs.voltage 65535, temp := temp, restTimer := rest, quiet := quiet
            estimated := if keep then s.bank.estimated else true
            mark := some { cn := b.cn, letter := b.letter }
            sampleTimer := 0, derateTimer := 0, batteryTimer := 0 })
        ∧ (quiet = true → b.restTime * 1000 ≤ rest → t.bank =
          { acc := ceff * ocv / 1000, derate := d, ceff := ceff
            soc := ceff * ocv / 1000 * 1000 / ceff, current := cur
            voltage := min inputs.voltage 65535, temp := temp, restTimer := 0, quiet := true
            estimated := false, mark := some { cn := b.cn, letter := b.letter }
            sampleTimer := 0, derateTimer := 0, batteryTimer := 0 }
          ∧ inSet t.event.flags .bankResync = true))
    ∧ t.zone.periodTimer = 0 ∧ t.zone.windowTimer = 0 ∧ t.zone.window = 0#8
    ∧ (∀ n : Fin 4, p.zones[n].hosted = true → ∀ mode : ZoneMode,
        mode = (if s.boot.storage then .frostGuard else p.zones[n].defaultMode) →
        t.zone.zones[n].mode = mode
        ∧ t.zone.zones[n].saved = (if s.boot.storage then some p.zones[n].defaultMode else none)
        ∧ t.zone.zones[n].setpoint = 200 ∧ t.zone.zones[n].integral = 0
        ∧ t.zone.zones[n].output = false
        ∧ (t.zone.zones[n].duty = 0 ↔ t.budget.loads[8 + n.val].state = .off)
        ∧ (convertTemp p.tempTable inputs.zoneTemps[n] = none →
            t.zone.zones[n].temp = none ∧ t.zone.zones[n].faulted = true
            ∧ t.zone.zones[n].duty = 0 ∧ inSet t.event.flags .zoneSensorFault = true)
        ∧ (∀ x : Int, convertTemp p.tempTable inputs.zoneTemps[n] = some x →
            t.zone.zones[n].temp = some x ∧ t.zone.zones[n].faulted = false
            ∧ (mode = .off → t.zone.zones[n].duty = 0)
            ∧ (mode ≠ .off → (t.zone.zones[n].duty : Int) = max 0 (min 255
                ((p.zones[n].kp * max (-200) (min 200 ((match mode with
                  | .frostGuard => 50
                  | .eco => 170
                  | .off | .comfort => 200) - x))).tdiv 64)))))
    ∧ t.water.periodTimer = 0 ∧ t.water.tanksTimer = 0 ∧ t.water.frostDumps = 0
    ∧ t.water.moving = false ∧ t.water.peerGreyFull = false
    ∧ (∀ (q : TankParams) (reading : Adc) (new : Tank)
        (derive : Nat → TankState → TankState) (alarm : TankState) (raised : Event),
        (q = p.water.fresh ∧ reading = inputs.fresh ∧ new = t.water.fresh
            ∧ derive = deriveFresh ∧ alarm = .empty ∧ raised = .tankEmpty
          ∨ q = p.water.grey ∧ reading = inputs.grey ∧ new = t.water.grey
            ∧ derive = deriveWaste ∧ alarm = .full ∧ raised = .tankFull
          ∨ q = p.water.black ∧ reading = inputs.black ∧ new = t.water.black
            ∧ derive = deriveWaste ∧ alarm = .full ∧ raised = .tankFull) →
        (q.hosted = true → rawLevel q.table reading = none →
          new = { raw := none, filtered := none, state := .fault })
        ∧ (q.hosted = true → ∀ raw : Nat, rawLevel q.table reading = some raw →
          new = { raw := some raw, filtered := some raw, state := derive raw .normal }
          ∧ (new.state = alarm → inSet t.event.flags raised = true)))
    ∧ t.water.pump.demand = (p.water.pump && inputs.pressure)
    ∧ t.water.pump.disabled = false ∧ t.water.pump.dryLock = false
    ∧ t.water.pump.runTimer = 0 ∧ t.water.pump.output = false
    ∧ (t.budget.loads[13].state = .off ↔
        t.water.pump.demand = false ∨ pumpBlocked t = true)
    ∧ t.water.frost.output = false ∧ t.water.frost.valveOpen = false
    ∧ (p.water.frost = true → (t.water.frost.demand = false ↔ t.budget.loads[12].state = .off)
        ∧ (convertTemp p.tempTable inputs.tankTemp = none →
            t.water.frost.temp = none ∧ t.water.frost.faulted = true
            ∧ t.water.frost.demand = true ∧ t.water.frost.dwell = none)
        ∧ (∀ x : Int, convertTemp p.tempTable inputs.tankTemp = some x →
            t.water.frost.temp = some x ∧ t.water.frost.faulted = false
            ∧ t.water.frost.demand = decide (x ≤ 30)
            ∧ t.water.frost.dwell = if x ≤ 10 then some 0 else none))

/-- A record that comes in and passes its check starts the motion and the light controller.

The actuators (R141): each hosted one in the state and at the position its stops give, still, without hold, mark
or cause; with both stops active in FAULT, with ACTUATOR-FAULT raised and counted. The silence timer of a
hosted wind meter starts. (That it stays idle without one is the model's choice, log entry 19.)

The lights (R145, R158): each hosted channel at its default level, dark, its latch and scene bit 0, its on
condition evaluated with the own step-out; a courtesy channel that is on is ADMITTED at once, and another waits
or is shed. (The times of the second read are log entry 14.) -/
def Obligations.MotionAndLightsStart : Prop :=
  ∀ (c : Instr) (bytes : List Byte) (inputs : StartInputs) (s : State) (p : Params),
    QuietBeforeStart s → recordPasses bytes = true → RecordComesIn c bytes inputs s →
    p = paramsOfRecord bytes → ∃ t : State, exec c s = .next t
    ∧ t.motion.pins = { awningIn := inputs.awningIn, awningOut := inputs.awningOut
                        stepIn := inputs.stepIn, stepOut := inputs.stepOut }
    ∧ t.motion.vehicle = .unknown ∧ t.motion.storage = s.boot.storage ∧ t.motion.motionTimer = 0
    ∧ t.motion.wind = { lastCapture := none, speed := 0, gusts := 0
                        silence := if p.wind.hosted then some 0 else none }
    ∧ (∀ (a : Actuator) (i o : Bool), (p.actuator a).hosted = true →
        i = stopActive t a .inStop → o = stopActive t a .outStop →
        act t.motion a =
          { state := if i ∧ o then .fault else if i then .stowed else if o then .extended
              else .stoppedMid
            position := if i ∧ ¬ o then 0 else if o ∧ ¬ i then (p.actuator a).length
              else (p.actuator a).length / 2
            motor := .off, latched := none, travelTimer := none, stallTimer := none
            overTimer := none, pauseTimer := none, hold := false, releaseMark := false
            faults := { travelTimeout := false, stall := false, obstructed := false
                        conflict := i && o }
            cause := none }
        ∧ t.budget.loads[motorLoad a].state = .off
        ∧ (i = true → o = true → inSet t.event.flags .actuatorFault = true))
    ∧ t.motion.actuatorFaults
        = (if p.awning.hosted ∧ t.motion.awning.state = .fault then 1 else 0)
          + (if p.step.hosted ∧ t.motion.step.state = .fault then 1 else 0)
    ∧ t.light.ownStepOut = decide (p.step.hosted = true ∧ t.motion.step.state ≠ .stowed)
    ∧ t.light.peerStepOut = false ∧ t.light.forcedOff = s.boot.storage
    ∧ t.light.fadeTimer = 0 ∧ t.light.pwm = 0#8
    ∧ (∀ (n : Fin 8) (on : Bool), p.channels[n].hosted = true →
        on = decide (s.boot.storage = false
          ∧ p.channels[n].truth.getLsbD (if t.light.ownStepOut then 4 else 0) = true) →
        channelFixed t.light.channels[n] = (p.channels[n].defaultLevel, false, false, on, false)
        ∧ t.light.channels[n].current = 0 ∧ t.light.channels[n].duty = 0
        ∧ (t.budget.loads[n.val].state = .off ↔ on = false)
        ∧ (on = true → p.channels[n].courtesy = true →
            t.budget.loads[n.val].state = .admitted
            ∧ t.light.channels[n].target = p.channels[n].defaultLevel)
        ∧ (on = true → p.channels[n].courtesy = false →
            t.budget.loads[n.val].state ∈ [LoadState.waiting, .shed .level]
            ∧ t.light.channels[n].target = 0))

/-- What the blocks take from a record that has been read lies in the ranges of R2, R42 to R44, R69, R87, R111
and R142, whatever its bytes: levels, shares, currents and limits, gains, travel lengths and timeouts, Kw and
the wind threshold, tank tables and the channels' levels and steps. -/
def Obligations.ParametersLieInTheirRanges : Prop :=
  ∀ bytes : List Byte,
    (∀ p : BankParams, (paramsOfRecord bytes).bank = some p →
      10 ≤ p.cn ∧ p.cn ≤ 1000 ∧ 200 ≤ p.eta ∧ p.eta ≤ 256 ∧ p.restThreshold ≤ 32000
      ∧ 600 ≤ p.restTime ∧ p.restTime ≤ 65535 ∧ p.limit ≤ 65535)
    ∧ (∀ c : LoadClass, perClass (paramsOfRecord bytes).pause c ≤ 1000
      ∧ perClass (paramsOfRecord bytes).resume c ≤ 1000
      ∧ perClass (paramsOfRecord bytes).share c ≤ 256)
    ∧ (paramsOfRecord bytes).fallbackBudget ≤ 65535
    ∧ (∀ n : Fin 4, (paramsOfRecord bytes).zones[n].kp ≤ 255
      ∧ (paramsOfRecord bytes).zones[n].ki ≤ 255
      ∧ (paramsOfRecord bytes).zones[n].rated ≤ 65535)
    ∧ (∀ a : Actuator, 1 ≤ ((paramsOfRecord bytes).actuator a).length
      ∧ ((paramsOfRecord bytes).actuator a).length ≤ 65535
      ∧ 1 ≤ ((paramsOfRecord bytes).actuator a).timeout
      ∧ ((paramsOfRecord bytes).actuator a).timeout ≤ 255
      ∧ ((paramsOfRecord bytes).actuator a).outLimit ≤ 65535
      ∧ ((paramsOfRecord bytes).actuator a).inLimit ≤ 65535
      ∧ ((paramsOfRecord bytes).actuator a).rated ≤ 65535)
    ∧ ((paramsOfRecord bytes).wind.hosted = true → (paramsOfRecord bytes).awning.hosted = true
      ∧ 1 ≤ (paramsOfRecord bytes).wind.kw ∧ (paramsOfRecord bytes).wind.kw ≤ 65535
      ∧ 1 ≤ (paramsOfRecord bytes).wind.threshold
      ∧ (paramsOfRecord bytes).wind.threshold ≤ 65535)
    ∧ (paramsOfRecord bytes).water.pumpRated ≤ 65535
    ∧ (paramsOfRecord bytes).water.heaterRated ≤ 65535
    ∧ (paramsOfRecord bytes).water.valveRated ≤ 65535
    ∧ ((paramsOfRecord bytes).water.pump = true ∨ (paramsOfRecord bytes).water.frost = true →
      (paramsOfRecord bytes).water.fresh.hosted = true)
    ∧ (∀ q ∈ [(paramsOfRecord bytes).water.fresh, (paramsOfRecord bytes).water.grey,
          (paramsOfRecord bytes).water.black], q.hosted = true → q.table.length = 5
      ∧ ∀ x ∈ q.table, 0 ≤ x.x ∧ x.x ≤ 4095 ∧ 0 ≤ x.y ∧ x.y ≤ 1000)
    ∧ (∀ n : Fin 8, (paramsOfRecord bytes).channels[n].rated ≤ 65535
      ∧ 1 ≤ (paramsOfRecord bytes).channels[n].defaultLevel
      ∧ (paramsOfRecord bytes).channels[n].defaultLevel ≤ 255
      ∧ (paramsOfRecord bytes).channels[n].ceiling ≤ 255
      ∧ 1 ≤ (paramsOfRecord bytes).channels[n].fadeStep
      ∧ (paramsOfRecord bytes).channels[n].fadeStep ≤ 255)

/-- When the listen timer reaches 3000 ms the stage becomes RUN, and the gate opens on a configured station
with a passed record; on every other station nothing else changes (R50, R189). -/
def Obligations.ListenIntervalEndOpensGate : Prop :=
  ∀ s : State, s.running = true → s.boot.stage = .listen → 3000 ≤ s.boot.listenTimer →
    ∃ t : State, exec .listenIntervalEnd s = .next t
      ∧ t.boot = { s.boot with stage := .run }
      ∧ (s.boot.passed = true ∧ s.boot.station ≠ 0#4 →
          t.budget.gateOpen = true
          ∧ OnlyLoadsMoved { s with budget := { s.budget with gateOpen := true } } t)
      ∧ (s.boot.passed = false ∨ s.boot.station = 0#4 →
          t = { s with boot := { s.boot with stage := .run } })

/-- STORAGE_SET (R190): a bad argument, and one that repeats the flag, change nothing but the REPLY.

The entry into storage mode (R80, R107, R137, R156, R190): hosted zones save their mode and take
FROST-GUARD, the motion and light controllers take the flag, every hosted channel loses its latch and
scene bit, and the loads of the pump and of every light are OFF. The motion controller takes a STOW without
override: a held actuator stays as it is, of the others one that is out becomes STOWED at an active in-stop or
is driven in, an extending one reverses, a retracting one keeps its cause or takes STOW, and one in FAULT
raises STOW-FAILED, which nothing else raises. After it no load of class 2 or 3 is other than OFF.

The exit from storage mode (R82, R107, R137, R157, R190): hosted zones take their saved mode back, one that
returns to OFF is released with integral and duty 0, the pump is asked for again exactly when its demand is
set and no other block holds, and no actuator moves. -/
def Obligations.StorageSetHandsTheModeOn : Prop :=
  (∀ (rq : Requester) (value : Byte) (s : State), takesRequests s = true →
    (2 ≤ value.toNat → exec (.storageSet rq value) s
      = .next (answered s rq .badRequest []))
    ∧ (value = bitOf 0 s.boot.storage → exec (.storageSet rq value) s
      = .next (answered s rq .done [bitOf 0 s.boot.storage]))
    ∧ (value.toNat < 2 → ∃ t : State, exec (.storageSet rq value) s = .next t
      ∧ t.boot = { s.boot with storage := value == 1#8 }
      ∧ Replied s t rq .done [value]))
  ∧ (∀ (rq : Requester) (s : State), takesRequests s = true → s.boot.storage = false →
    BudgetOk s → MirrorOk s → PumpOk s → StorageOk s → MotionOk s →
    ∃ t : State, exec (.storageSet rq 1#8) s = .next t
      ∧ (∀ n : Fin 4, s.params.zones[n].hosted = true →
          zoneFixed t.zone.zones[n]
            = zoneFixed { s.zone.zones[n] with
                mode := .frostGuard, saved := some s.zone.zones[n].mode })
      ∧ t.motion.storage = true ∧ t.light.forcedOff = true
      ∧ (∀ n : Fin 8, s.params.channels[n].hosted = true →
          t.light.channels[n].latch = false ∧ t.light.channels[n].scene = false
          ∧ t.light.channels[n].on = false
          ∧ t.light.channels[n].setLevel = s.light.channels[n].setLevel)
      ∧ (∀ n : Fin 8, t.budget.loads[n.val].state = .off)
      ∧ t.budget.loads[13].state = .off ∧ t.water.pump.output = false
      ∧ t.budget.loads[14] = s.budget.loads[14]
      ∧ (∀ a : Actuator, (s.params.actuator a).hosted = false ∨ (act s.motion a).hold = true →
          act t.motion a = act s.motion a)
      ∧ (inSet t.event.flags .stowFailed = true ↔ inSet s.event.flags .stowFailed = true
          ∨ ∃ a : Actuator, (s.params.actuator a).hosted = true ∧ (act s.motion a).state = .fault
            ∧ (act s.motion a).hold = false)
      ∧ (∀ a : Actuator, (s.params.actuator a).hosted = true → (act s.motion a).hold = false →
          ((act s.motion a).state = .stowed → act t.motion a = act s.motion a)
          ∧ ((act s.motion a).state = .fault → act t.motion a = act s.motion a)
          ∧ ((act s.motion a).state = .retracting → act t.motion a = { act s.motion a with
              cause := some ((act s.motion a).cause.getD .stow) })
          ∧ ((act s.motion a).state = .extending →
              act t.motion a = reversing (act s.motion a) .retracting false (some .stow)
              ∧ t.budget.loads[motorLoad a].state = .admitted)
          ∧ ((act s.motion a).state = .extended ∨ (act s.motion a).state = .stoppedMid →
              (stopActive s a .inStop = true → act t.motion a = { act s.motion a with
                  state := .stowed, position := 0 })
              ∧ (stopActive s a .inStop = false →
                act t.motion a = drivenInward (s.params.actuator a) (act s.motion a) false
                  (some .stow)
                ∧ t.budget.loads[motorLoad a].state = .admitted)))
      ∧ ((∀ a : Actuator, (s.params.actuator a).hosted = false →
            s.budget.loads[motorLoad a].state = .off) →
          ∀ i : Fin 17, t.budget.loads[i].state = .off
            ∨ t.budget.loads[i].cls = .c0 ∨ t.budget.loads[i].cls = .c1))
  ∧ (∀ (rq : Requester) (s : State), takesRequests s = true → s.boot.storage = true →
    BudgetOk s → MirrorOk s → PumpOk s →
    ∃ t : State, exec (.storageSet rq 0#8) s = .next t
      ∧ (∀ n : Fin 4, s.params.zones[n].hosted = true → ∀ m : ZoneMode,
          s.zone.zones[n].saved = some m →
          t.zone.zones[n].mode = m ∧ t.zone.zones[n].saved = none
          ∧ t.zone.zones[n].setpoint = s.zone.zones[n].setpoint
          ∧ (m = .off → t.zone.zones[n].integral = 0 ∧ t.zone.zones[n].duty = 0
              ∧ t.zone.zones[n].output = false ∧ t.budget.loads[8 + n.val].state = .off)
          ∧ (m ≠ .off → t.zone.zones[n].integral = s.zone.zones[n].integral
              ∧ t.zone.zones[n].duty = s.zone.zones[n].duty))
      ∧ (s.params.water.pump = true →
          (t.budget.loads[13].state ≠ .off ↔ s.water.pump.demand = true
            ∧ s.water.pump.disabled = false ∧ s.water.pump.dryLock = false
            ∧ s.water.fresh.state ≠ .empty ∧ s.water.grey.state ≠ .full
            ∧ s.water.peerGreyFull = false ∧ s.water.frost.valveOpen = false))
      ∧ t.motion.storage = false ∧ t.light.forcedOff = false
      ∧ (∀ a : Actuator, act t.motion a = act s.motion a))

/-! ## Bank monitor -/

/-- BANK_SAMPLE without a resync (R3, R9, R10, R12, R20): the clamped reading is counted into the account, the
rest timer and the quiet flag follow it, and the own bank record goes to the budget unit.

BANK_SAMPLE with a resync (R12 to R14, R20): the account is set from the OCV table at the sample's
voltage, the estimated flag is cleared, the rest timer restarts and BANK-RESYNC is raised. -/
def Obligations.BankSampleCountsChargeAndResyncs : Prop :=
  (∀ (s : State) (p : BankParams) (i : Int) (v : Nat), s.running = true → s.params.bank = some p →
    250 ≤ s.bank.sampleTimer →
    ∀ (cur : Int) (acc rest : Nat) (quiet : Bool),
    cur = max (-32000) (min 32000 i) →
    (acc : Int) = max 0 (min (s.bank.ceff : Int)
      (s.bank.acc + (if 0 ≤ cur then cur * p.eta else cur * 256))) →
    quiet = decide (cur.natAbs ≤ p.restThreshold) →
    rest = (if quiet then s.bank.restTimer + 250 else 0) →
    ¬ (quiet = true ∧ p.restTime * 1000 ≤ rest) →
    ∃ t : State, exec (.bankSample i v) s = .next t
      ∧ t.bank = { s.bank with
          acc := acc, soc := acc * 1000 / s.bank.ceff, current := cur, voltage := min v 65535
          quiet := quiet, restTimer := rest, sampleTimer := 0 }
      ∧ t.budget.ownBank
          = some { letter := p.letter, soc := acc * 1000 / s.bank.ceff, limit := p.limit }
      ∧ OnlyLoadsMoved { s with budget := { s.budget with
          ownBank := t.budget.ownBank, governing := t.budget.governing
          budget := t.budget.budget, caps := t.budget.caps } } t)
  ∧ (∀ (s : State) (p : BankParams) (i : Int) (v : Nat), s.running = true → s.params.bank = some p →
    250 ≤ s.bank.sampleTimer →
    ∀ (cur : Int) (ocv : Nat),
    cur = max (-32000) (min 32000 i) → cur.natAbs ≤ p.restThreshold →
    p.restTime * 1000 ≤ s.bank.restTimer + 250 →
    (ocv : Int) = max 0 (min 1000 (lookup p.ocv (min v 65535 : Nat))) →
    ∃ t : State, exec (.bankSample i v) s = .next t
      ∧ t.bank = { s.bank with
          acc := s.bank.ceff * ocv / 1000
          soc := s.bank.ceff * ocv / 1000 * 1000 / s.bank.ceff
          current := cur, voltage := min v 65535, quiet := true, restTimer := 0
          estimated := false, sampleTimer := 0 }
      ∧ inSet t.event.flags .bankResync = true
      ∧ t.budget.ownBank = some { letter := p.letter, soc := t.bank.soc, limit := p.limit })

/-- DERATE_EVALUATION (R4 to R7): a good reading gives T and a faulted one keeps it; a factor that is the one
in use changes nothing else; another one gives the new Ceff, cuts the account to it and is handed on. -/
def Obligations.DerateEvaluationFollowsTemperature : Prop :=
  ∀ (s : State) (p : BankParams) (reading : Adc), s.running = true → s.params.bank = some p →
    10000 ≤ s.bank.derateTimer →
    ∀ (temp : Int) (d : Nat),
    temp = (convertTemp s.params.tempTable reading).getD s.bank.temp →
    (d : Int) = max 1 (min 1024 (lookup p.derate temp)) →
    (d = s.bank.derate → exec (.derateEvaluation reading) s
      = .next { s with bank := { s.bank with temp := temp, derateTimer := 0 } })
    ∧ (d ≠ s.bank.derate → ∃ t : State, exec (.derateEvaluation reading) s = .next t
      ∧ t.bank = { s.bank with
          temp := temp, derateTimer := 0, derate := d, ceff := p.cn * 360000 * d
          acc := min s.bank.acc (p.cn * 360000 * d)
          soc := min s.bank.acc (p.cn * 360000 * d) * 1000 / (p.cn * 360000 * d) }
      ∧ t.budget.ownBank = some { letter := p.letter, soc := t.bank.soc, limit := p.limit })

/-! ## Peer table -/

/-- PEER_STALE (R28): the entry whose silence timer has reached 3000 ms becomes STALE with all its parts, and
nothing else changes.

PEER_REMOVAL (R29, R32 to R37): the entry is gone with all its parts, PEER-LOST is raised and counted
where its parts call for it, and the facts of the entries that remain are handed on to the controllers that hold
them. -/
def Obligations.SilentPeersAgeAndLeave : Prop :=
  (∀ (s : State) (n : Station), s.running = true →
    exec (.peerStale n) s = .next { s with peers := { s.peers with
      entries := s.peers.entries.map fun e =>
        if e.station = n ∧ 3000 ≤ e.silence then { e with stale := true } else e } })
  ∧ (∀ (s : State) (e : PeerEntry), s.running = true → findPeer e.station s.peers.entries = some e →
    10000 ≤ e.silence →
    ∃ t : State, exec (.peerRemoval e.station) s = .next t
      ∧ t.peers.entries = s.peers.entries.filter (fun x => x.station != e.station)
      ∧ (e.claim.isSome ∨ e.battery.isSome ∨ e.supply.isSome ∨ e.vehicle.isSome →
          inSet t.event.flags .peerLost = true
          ∧ t.peers.peersLost = min 65535 (s.peers.peersLost + 1))
      ∧ (e.claim = none ∧ e.battery = none ∧ e.supply = none ∧ e.vehicle = none →
          t.peers.peersLost = s.peers.peersLost)
      ∧ t.budget.peerBanks = t.peers.entries.filterMap (fun x => x.battery.map fun b =>
          { station := x.station, letter := b.letter, soc := b.soc, limit := b.limit })
      ∧ t.budget.supplySum = (t.peers.entries.map fun x => match x.supply with
          | none => 0
          | some p => (if p.shore then p.allowance else 0) + p.generation).sum
      ∧ t.budget.supplyKnown = t.peers.entries.any (fun x => x.supply.isSome)
      ∧ (∀ c : LoadClass, perClass t.budget.claimSums c
          = (t.peers.entries.map fun x => match x.claim with
              | none => 0
              | some p => perClass p c).sum)
      ∧ t.peers.lastVehicle = vehicleState t.peers.entries
      ∧ t.peers.lastStepOut = t.peers.entries.any (fun x => x.motion == some true)
      ∧ t.peers.lastGreyFull = t.peers.entries.any (fun x => x.tanks == some true)
      ∧ (ViewOk s → t.motion.vehicle = vehicleState t.peers.entries
          ∧ t.water.moving = movingFlag (vehicleState t.peers.entries)
          ∧ t.light.peerStepOut = t.peers.entries.any (fun x => x.motion == some true)
          ∧ t.water.peerGreyFull = t.peers.entries.any (fun x => x.tanks == some true)))

/-- FRAME_RECEIVED of a valid telegram (R25 to R27, R169): its origin's entry, created if the table has room,
is FRESH with its silence timer at 0 and the part of the telegram's kind filled, its other parts kept;
every other entry stands as it was.

The handing on of a valid REQUEST, SCENE or STOW (R170): after its entry has heard it, the frame does what
REQUEST_OTHER, SCENE or STOW does (log entry 4). (That the receiver is then DISCARDING until the line is IDLE is
the model's reading, log entry 12.)

A fifteenth origin on an unconfigured station (R31): the longest silent STALE entry makes room, with PEER-LOST
and its count where its parts call for them; with all 14 entries FRESH the table takes nothing. -/
def Obligations.ValidFrameIsHeardByThePeerTable : Prop :=
  (∀ (s : State) (h : Word) (payload : List Byte), s.running = true → s.line.idle = false →
    s.line.receiver = .receiving → s.line.sender = .idle →
    badForm h payload = false → headerOrigin h ≠ 0#4 → headerOrigin h ≠ s.boot.station →
    (s.peers.entries.length < 14 ∨ (findPeer (headerOrigin h) s.peers.entries).isSome = true) →
    ∀ before : PeerEntry,
    before = (findPeer (headerOrigin h) s.peers.entries).getD (newPeer (headerOrigin h)) →
    ∃ t : State, exec (.frameReceived h payload (checkByte h payload)) s = .next t
      ∧ t.line.receiver ≠ .receiving
      ∧ (∀ n : Station, n ≠ headerOrigin h →
          findPeer n t.peers.entries = findPeer n s.peers.entries)
      ∧ findPeer (headerOrigin h) t.peers.entries = some
          { station := headerOrigin h, stale := false, silence := 0
            claim := if kindOfCode (headerKind h) = some .claim then
                some ⟨natAt16 payload 0, natAt16 payload 2, natAt16 payload 4, natAt16 payload 6⟩
              else before.claim
            battery := if kindOfCode (headerKind h) = some .battery then
                some { letter := if (byteAt payload 0).getLsbD 0 then .b else .a
                       soc := min (natAt16 payload 1) 1000, limit := natAt16 payload 9 }
              else before.battery
            supply := if kindOfCode (headerKind h) = some .supply then
                some { shore := (byteAt payload 0).getLsbD 0, allowance := natAt16 payload 1
                       generation := natAt16 payload 3 }
              else before.supply
            vehicle := if kindOfCode (headerKind h) = some .vehicle then
                some { ignition := (byteAt payload 0).getLsbD 0
                       moving := (byteAt payload 0).getLsbD 1 }
              else before.vehicle
            motion := if kindOfCode (headerKind h) = some .motion then
                some (decide (2 ≤ (byteAt payload 4).toNat))
              else before.motion
            tanks := if kindOfCode (headerKind h) = some .tanks then
                some (decide ((byteAt payload 3).toNat = 5))
              else before.tanks })
  ∧ (∀ (s : State) (h : Word) (payload : List Byte) (k : Kind), s.running = true →
    s.line.receiver = .receiving → s.line.sender = .idle →
    badForm h payload = false → headerOrigin h ≠ 0#4 → headerOrigin h ≠ s.boot.station →
    (s.peers.entries.length < 14 ∨ (findPeer (headerOrigin h) s.peers.entries).isSome = true) →
    kindOfCode (headerKind h) = some k → ∃ entries : List PeerEntry,
      (∀ n : Station, n ≠ headerOrigin h → findPeer n entries = findPeer n s.peers.entries)
      ∧ (findPeer (headerOrigin h) entries).isSome = true
      ∧ ∀ c : Instr, (k, c) ∈ [(Kind.request, Instr.requestOther (headerOrigin h) payload),
            (.scene, .scene (byteAt payload 0)), (.stow, .stow ((byteAt payload 0).getLsbD 0))] →
          exec (.frameReceived h payload (checkByte h payload)) s = exec c { s with
            line := { s.line with receiver := .discarding }
            peers := { s.peers with entries := entries } })
  ∧ (∀ (s : State) (h : Word) (payload : List Byte), s.running = true →
    s.line.receiver = .receiving → s.line.sender = .idle →
    badForm h payload = false → headerOrigin h ≠ 0#4 → s.boot.station = 0#4 → PeersOk s →
    s.peers.entries.length = 14 → findPeer (headerOrigin h) s.peers.entries = none →
    ∃ t : State, exec (.frameReceived h payload (checkByte h payload)) s = .next t
      ∧ ((∀ e ∈ s.peers.entries, e.stale = false) → t.peers = s.peers)
      ∧ (∀ e : PeerEntry, IsLongestStale s.peers.entries e →
          findPeer e.station t.peers.entries = none
          ∧ (∃ x : PeerEntry, findPeer (headerOrigin h) t.peers.entries = some x
              ∧ x.stale = false ∧ x.silence = 0)
          ∧ (∀ n : Station, n ≠ e.station → n ≠ headerOrigin h →
              findPeer n t.peers.entries = findPeer n s.peers.entries)
          ∧ (e.claim.isSome ∨ e.battery.isSome ∨ e.supply.isSome ∨ e.vehicle.isSome →
              inSet t.event.flags .peerLost = true
              ∧ t.peers.peersLost = min 65535 (s.peers.peersLost + 1))
          ∧ (e.claim = none ∧ e.battery = none ∧ e.supply = none ∧ e.vehicle = none →
              t.peers.peersLost = s.peers.peersLost)))

/-! ## Budget unit -/

/-- A handover of the own bank or of the quantity facts (R40, R41, R43): the governing SoC is the lowest of
the known banks, and B is the supply sum and each bank's allowance, clipped to 65535, or the fallback
budget while nothing is known.

The shed flags after an evaluation, and after a handover (R40, R42): set at or below the pause level, cleared at or above the resume
level, kept between, and all clear without a governing SoC; class 0 is never set by it. Where the level shedding
is off, as in the fallback profile, an evaluation changes nothing, and a handover leaves the flags as they are
(R188). -/
def Obligations.HandoversSetBudgetAndShedFlags : Prop :=
  ((∀ (s : State) (o : BatteryPart),
    let banks : List (Nat × Nat) :=
      (o.soc, o.limit) :: s.budget.peerBanks.map fun b => (b.soc, b.limit)
    let t := handOwnBank o s
    t.budget.governing = (banks.map Prod.fst).min?
    ∧ t.budget.budget = min 65535 (s.budget.supplySum + (banks.map fun b =>
        b.2 * (max 0 (min 256 (lookup s.params.allowance b.1))).toNat / 256).sum))
  ∧ (∀ (s : State) (peers : List PeerBank) (supply : Nat) (known : Bool) (sums : PerClass Nat),
    let own : List (Nat × Nat) := match s.budget.ownBank with
      | none => []
      | some o => [(o.soc, o.limit)]
    let banks : List (Nat × Nat) := own ++ peers.map fun b => (b.soc, b.limit)
    let t := handQuantities peers supply known sums s
    t.budget.governing = (banks.map Prod.fst).min?
    ∧ t.budget.claimSums = sums
    ∧ t.budget.budget = if banks = [] ∧ known = false then s.params.fallbackBudget
        else min 65535 (supply + (banks.map fun b =>
          b.2 * (max 0 (min 256 (lookup s.params.allowance b.1))).toNat / 256).sum)))
  ∧ (∀ (s : State) (c : LoadClass), s.params.levelShedding = true →
    (c = .c0 → perClass (evalShedFlags s).budget.shed c = perClass s.budget.shed c)
    ∧ (c ≠ .c0 → perClass (evalShedFlags s).budget.shed c = match s.budget.governing with
        | none => false
        | some g => if perClass s.budget.shed c then decide (g < perClass s.params.resume c)
                    else decide (g ≤ perClass s.params.pause c)))
  ∧ (∀ (s t : State) (c : LoadClass), s.params.levelShedding = true →
    ((∃ o : BatteryPart, t = handOwnBank o s)
      ∨ ∃ (peers : List PeerBank) (supply : Nat) (known : Bool) (sums : PerClass Nat),
          t = handQuantities peers supply known sums s) →
    (c = .c0 → perClass t.budget.shed c = perClass s.budget.shed c)
    ∧ (c ≠ .c0 → perClass t.budget.shed c = match t.budget.governing with
        | none => false
        | some g => if perClass s.budget.shed c then decide (g < perClass s.params.resume c)
                    else decide (g ≤ perClass s.params.pause c)))
  ∧ Params.fallback.levelShedding = false
  ∧ (∀ s : State, s.params.levelShedding = false →
    evalShedFlags s = s
    ∧ (∀ o : BatteryPart, (handOwnBank o s).budget.shed = s.budget.shed)
    ∧ (∀ (peers : List PeerBank) (supply : Nat) (known : Bool) (sums : PerClass Nat),
      (handQuantities peers supply known sums s).budget.shed = s.budget.shed))

/-- The class caps follow B at every handover, by the shares of the record (R44): share_0 is 256, the others
are at most 256, and those of a record that passes never rise, so neither do the caps. -/
def Obligations.ClassCapsFollowBudget : Prop :=
  (∀ (s : State) (o : BatteryPart) (c : LoadClass),
    perClass (handOwnBank o s).budget.caps c
      = (handOwnBank o s).budget.budget * perClass s.params.share c / 256)
  ∧ (∀ (s : State) (peers : List PeerBank) (supply : Nat) (known : Bool) (sums : PerClass Nat)
      (c : LoadClass),
    perClass (handQuantities peers supply known sums s).budget.caps c
      = (handQuantities peers supply known sums s).budget.budget * perClass s.params.share c / 256)
  ∧ (∀ bytes : List Byte, (paramsOfRecord bytes).share.c0 = 256
      ∧ (∀ c : LoadClass, perClass (paramsOfRecord bytes).share c ≤ 256)
      ∧ (recordPasses bytes = true →
          (paramsOfRecord bytes).share.c2 ≤ (paramsOfRecord bytes).share.c1
          ∧ (paramsOfRecord bytes).share.c3 ≤ (paramsOfRecord bytes).share.c2))
  ∧ (∀ (p : Params) (b : Nat), p.share.c0 = 256 → p.share.c1 ≤ 256 → p.share.c2 ≤ p.share.c1 →
      p.share.c3 ≤ p.share.c2 →
      (capsOf p b).c0 = b ∧ (capsOf p b).c1 ≤ (capsOf p b).c0
      ∧ (capsOf p b).c2 ≤ (capsOf p b).c1 ∧ (capsOf p b).c3 ≤ (capsOf p b).c2)

/-- The setting of a shed flag (R59, R65, R42): every sheddable record of the class goes as the table of R59
says, every other record stays, LEVEL-SHED and for class 1 SOC-LOW are raised, and the shed is counted.

The clearing of a shed flag (R60): a light held at REDUCED(LEVEL) is ADMITTED again or becomes
REDUCED(BUDGET), a SHED(LEVEL) record becomes WAITING, those that wait are in the retry list, and every
other record stays; nothing is raised or counted. -/
def Obligations.ShedFlagChangesTreatTheirClass : Prop :=
  (∀ (s : State) (c : LoadClass), BudgetOk s → c ≠ .c0 →
    (∀ i : Fin 17, (setShedFlag c s).budget.loads[i]
      = if s.budget.loads[i].cls = c ∧ sheddable i = true then
          (match s.budget.loads[i].state with
            | .off | .reduced .level | .shed .level => s.budget.loads[i]
            | .reduced .budget =>
              { s.budget.loads[i] with state := .reduced .level, claim := reducedClaim s i, hold := none }
            | .waiting | .admitted =>
              if isLight i = true ∧ s.budget.gateOpen = true then
                { s.budget.loads[i] with
                  state := .reduced .level, claim := reducedClaim s i, hold := none }
              else { s.budget.loads[i] with state := .shed .level, claim := 0, hold := none }
            | .shed .budget =>
              { s.budget.loads[i] with state := .shed .level, claim := 0, hold := none })
        else s.budget.loads[i])
    ∧ (∀ i : Fin 17, i ∈ (setShedFlag c s).budget.retry →
        s.budget.loads[i].cls ≠ c ∨ sheddable i = false)
    ∧ inSet (setShedFlag c s).event.flags .levelShed = true
    ∧ (c = .c1 → inSet (setShedFlag c s).event.flags .socLow = true)
    ∧ (setShedFlag c s).budget.levelSheds = min 65535 (s.budget.levelSheds + 1))
  ∧ (∀ (s : State) (c : LoadClass), BudgetOk s →
    (∀ i : Fin 17,
      (s.budget.loads[i].cls = c ∧ s.budget.loads[i].state = .reduced .level →
        (clearShedFlag c s).budget.loads[i].state = .admitted
          ∧ (clearShedFlag c s).budget.loads[i].claim = s.budget.loads[i].rated
        ∨ (clearShedFlag c s).budget.loads[i].state = .reduced .budget
          ∧ (clearShedFlag c s).budget.loads[i].claim = reducedClaim s i
          ∧ i ∈ (clearShedFlag c s).budget.retry)
      ∧ (s.budget.loads[i].cls = c ∧ s.budget.loads[i].state = .shed .level →
        (clearShedFlag c s).budget.loads[i].state = .waiting
        ∧ i ∈ (clearShedFlag c s).budget.retry)
      ∧ (s.budget.loads[i].cls ≠ c ∨ s.budget.loads[i].state ≠ .reduced .level
          ∧ s.budget.loads[i].state ≠ .shed .level →
        (clearShedFlag c s).budget.loads[i] = s.budget.loads[i]))
    ∧ (clearShedFlag c s).event = s.event
    ∧ (clearShedFlag c s).budget.levelSheds = s.budget.levelSheds)

/-- An ask for a record that is OFF (R51): class 0 is ADMITTED; under its shed flag a light behind an open
gate is REDUCED(LEVEL) and any other record is SHED(LEVEL); otherwise it is WAITING, or ADMITTED by the
pass, and never ADMITTED behind a closed gate. An ask for any other record changes nothing. -/
def Obligations.AskIsAnsweredByClassAndFlag : Prop :=
  ∀ (s : State) (i : Fin 17), BudgetOk s →
    (s.budget.loads[i].state ≠ .off → ask i s = s)
    ∧ (s.budget.loads[i].state = .off → s.budget.loads[i].cls = .c0 →
        (ask i s).budget.loads[i]
          = { s.budget.loads[i] with state := .admitted, claim := s.budget.loads[i].rated, hold := none })
    ∧ (s.budget.loads[i].state = .off → s.budget.loads[i].cls ≠ .c0 →
        perClass s.budget.shed s.budget.loads[i].cls = true →
        (ask i s).budget.loads[i].state
          = if isLight i = true ∧ s.budget.gateOpen = true then .reduced .level else .shed .level)
    ∧ (s.budget.loads[i].state = .off → s.budget.loads[i].cls ≠ .c0 →
        perClass s.budget.shed s.budget.loads[i].cls = false →
        (ask i s).budget.loads[i].state = .admitted ∧ s.budget.gateOpen = true
          ∧ i ∉ (ask i s).budget.retry
        ∨ (ask i s).budget.loads[i].state = .waiting ∧ i ∈ (ask i s).budget.retry)

/-- An admission pass behind an open gate (R56, R46): what it admits is the front of the retry list, at the
rated current, each record passing its test with the totals as the records before it leave them; the first
record left fails its test as the totals then stand; no other record changes. A pass behind a closed gate
changes nothing (R50). -/
def Obligations.PassAdmitsUntilFirstFailure : Prop :=
  ∀ s : State, BudgetOk s →
    (s.budget.gateOpen = false → admissionPass s = s)
    ∧ (s.budget.gateOpen = true → ∃ front : List (Fin 17),
      s.budget.retry = front ++ (admissionPass s).budget.retry
      ∧ (∀ i : Fin 17, (admissionPass s).budget.loads[i]
          = if i ∈ front then
              { s.budget.loads[i] with
                state := .admitted, claim := s.budget.loads[i].rated, hold := none }
            else s.budget.loads[i])
      ∧ (∀ (earlier later : List (Fin 17)) (i : Fin 17), front = earlier ++ i :: later →
          sumUpTo (totalsWith s.budget earlier) s.budget.loads[i].cls
              + (s.budget.loads[i].rated - s.budget.loads[i].claim)
            ≤ perClass s.budget.caps s.budget.loads[i].cls)
      ∧ (∀ (i : Fin 17) (rest : List (Fin 17)), (admissionPass s).budget.retry = i :: rest →
          perClass (admissionPass s).budget.caps s.budget.loads[i].cls
            < sumUpTo (totals (admissionPass s).budget) s.budget.loads[i].cls
              + (s.budget.loads[i].rated - s.budget.loads[i].claim)))

/-- OVER_BUDGET_DWELL_EXPIRY (R62, R65): the victim is SHED(BUDGET) with its hold at 0, or, if it is an
ADMITTED light, REDUCED(BUDGET) at its reduced claim; BUDGET-SHED is raised and counted. Without a victim
only the dwell is restarted or made idle.

BUDGET_SHED_HOLD_EXPIRY (R63): under its class's shed flag the record becomes SHED(LEVEL) and joins no
list; otherwise it is WAITING in the retry list, or ADMITTED by the pass. -/
def Obligations.OverBudgetWatchShedsAndReturns : Prop :=
  (∀ (s : State) (d : Nat), s.running = true → BudgetOk s →
    (∀ n : Fin 8, s.params.channels[n].ceiling ≤ 255) → s.budget.dwell = some d →
    1000 + 250 * s.boot.station.toNat ≤ d →
    ((∀ i : Fin 17, i ∈ s.budget.admitted → ¬ qualifies s.budget i) →
      exec .overBudgetDwellExpiry s = .next { s with budget := { s.budget with
        dwell := if s.budget.budget < totalAll s.budget then some 0 else none } })
    ∧ (∀ i : Fin 17, IsVictim s.budget i → ∃ t : State, exec .overBudgetDwellExpiry s = .next t
      ∧ OnlyLoadsMoved s t
      ∧ inSet t.event.flags .budgetShed = true
      ∧ t.budget.budgetSheds = min 65535 (s.budget.budgetSheds + 1)
      ∧ (isLight i = false ∨ s.budget.loads[i].state ≠ .admitted →
          t.budget.loads[i] = { s.budget.loads[i] with
            state := .shed .budget, claim := 0, hold := some 0 }
          ∧ i ∉ t.budget.retry)
      ∧ (isLight i = true → s.budget.loads[i].state = .admitted →
          s.budget.caps.c3 ≤ s.budget.budget → s.budget.budget < totalAll s.budget →
          t.budget.loads[i] = { s.budget.loads[i] with
            state := .reduced .budget, claim := reducedClaim s i, hold := none }
          ∧ i ∈ t.budget.retry)))
  ∧ (∀ (s : State) (i : Fin 17) (h : Nat), s.running = true → BudgetOk s →
    s.budget.loads[i].state = .shed .budget → s.budget.loads[i].hold = some h → 30000 ≤ h →
    ∃ t : State, exec (.budgetShedHoldExpiry i) s = .next t
      ∧ OnlyLoadsMoved s t
      ∧ t.budget.loads[i].hold = none
      ∧ (perClass s.budget.shed s.budget.loads[i].cls = true →
          t.budget.loads[i].state = .shed .level ∧ t.budget.loads[i].claim = 0
          ∧ i ∉ t.budget.retry ∧ i ∉ t.budget.admitted)
      ∧ (perClass s.budget.shed s.budget.loads[i].cls = false →
          t.budget.loads[i].state = .waiting ∧ i ∈ t.budget.retry
          ∨ t.budget.loads[i].state = .admitted ∧ i ∈ t.budget.admitted))

/-! ## Zone controller -/

/-- ZONE_EVALUATION (R71 to R75): of each hosted zone a faulted reading gives duty 0 and, at the first, raises
ZONE-SENSOR-FAULT; a good one gives the error, the integral and the duty of its mode; and the heater's load
is OFF exactly at duty 0. Zones that are not hosted keep their fields. A configured station that hosts a zone
then hands the line a CLIMATE of 12 bytes with what the evaluation left of every hosted zone, and the code 0
for every other (R84); another station forms none, and its line stays as it was.

HEATER_WINDOW_STEP (R77): the counter goes on by one, from 255 back to 0, and each heater is on while its
load is ADMITTED and its duty is 255 or greater than the counter. Nothing else changes. -/
def Obligations.ZonesComputeAndDriveTheirDuty : Prop :=
  (∀ (s : State) (readings : Vector Adc 4), s.running = true → 10000 ≤ s.zone.periodTimer →
    BudgetOk s → MirrorOk s →
    ∃ t : State, exec (.zoneEvaluation readings) s = .next t
      ∧ t.zone.periodTimer = 0 ∧ t.zone.window = s.zone.window
      ∧ (∀ n : Fin 4, s.params.zones[n].hosted = false →
          zoneFixed t.zone.zones[n] = zoneFixed s.zone.zones[n])
      ∧ (∀ n : Fin 4, s.params.zones[n].hosted = true →
          t.zone.zones[n].mode = s.zone.zones[n].mode
          ∧ t.zone.zones[n].setpoint = s.zone.zones[n].setpoint
          ∧ t.zone.zones[n].saved = s.zone.zones[n].saved
          ∧ (t.zone.zones[n].duty = 0 ↔ t.budget.loads[8 + n.val].state = .off)
          ∧ (convertTemp s.params.tempTable readings[n] = none →
              t.zone.zones[n].faulted = true ∧ t.zone.zones[n].duty = 0
              ∧ t.zone.zones[n].temp = s.zone.zones[n].temp
              ∧ t.zone.zones[n].integral = s.zone.zones[n].integral
              ∧ (s.zone.zones[n].faulted = false →
                  inSet t.event.flags .zoneSensorFault = true))
          ∧ (∀ temp : Int, convertTemp s.params.tempTable readings[n] = some temp →
              t.zone.zones[n].faulted = false ∧ t.zone.zones[n].temp = some temp
              ∧ (s.zone.zones[n].mode = .off → t.zone.zones[n].duty = 0
                  ∧ t.zone.zones[n].integral = s.zone.zones[n].integral)
              ∧ (s.zone.zones[n].mode ≠ .off → ∃ admitted : Bool,
                  (s.zone.zones[n].load = .admitted → admitted = true)
                  ∧ (admitted = true →
                      s.zone.zones[n].load = .admitted ∨ s.zone.zones[n].load = .waiting)
                  ∧ ∀ e : Int, e = max (-200) (min 200 ((match s.zone.zones[n].mode with
                        | .frostGuard => 50
                        | .eco => s.zone.zones[n].setpoint - 30
                        | .off | .comfort => s.zone.zones[n].setpoint) - temp)) →
                    t.zone.zones[n].integral
                      = (if admitted then max (-4000) (min 4000 (s.zone.zones[n].integral + e))
                         else s.zone.zones[n].integral)
                    ∧ (t.zone.zones[n].duty : Int) = max 0 (min 255
                        ((s.params.zones[n].kp * e
                          + s.params.zones[n].ki * t.zone.zones[n].integral).tdiv 64)))))
      ∧ (s.boot.station = 0#4 ∨ (∀ n : Fin 4, s.params.zones[n].hosted = false) →
          t.line = s.line ∧ t.freeCount = s.freeCount)
      ∧ (s.boot.station ≠ 0#4 → (∃ n : Fin 4, s.params.zones[n].hosted = true) →
          ∃ payload : List Byte, HandedAmong s.boot.station s.line t.line .climate payload
          ∧ payload.length = 12
          ∧ ∀ n : Fin 4,
            (s.params.zones[n].hosted = false →
              (wordAt payload (3 * n.val)).extractLsb' 13 3 = 0#3)
            ∧ (s.params.zones[n].hosted = true →
              (wordAt payload (3 * n.val)).extractLsb' 13 3
                = (if t.zone.zones[n].faulted then 5#3 else match t.zone.zones[n].load with
                    | .off => 1#3
                    | .waiting => 2#3
                    | .admitted => 3#3
                    | .shed _ | .reduced _ => 4#3)
              ∧ (wordAt payload (3 * n.val)).extractLsb' 11 2
                = (match t.zone.zones[n].mode with
                    | .off => 0#2
                    | .frostGuard => 1#2
                    | .eco => 2#2
                    | .comfort => 3#2)
              ∧ (wordAt payload (3 * n.val)).extractLsb' 0 11
                = (match t.zone.zones[n].temp with
                    | none => 2047#11
                    | some x => BitVec.ofInt 11 (x + 400))
              ∧ byteAt payload (3 * n.val + 2) = BitVec.ofNat 8 t.zone.zones[n].duty)))
  ∧ (∀ s : State, s.running = true → 250 ≤ s.zone.windowTimer →
    exec .heaterWindowStep s = .next { s with zone := { s.zone with
      window := s.zone.window + 1#8, windowTimer := 0
      zones := Vector.ofFn fun n => { s.zone.zones[n] with
        output := decide (s.zone.zones[n].load = .admitted ∧ (s.zone.zones[n].duty = 255
          ∨ (s.zone.window + 1#8).toNat < s.zone.zones[n].duty)) } } })

/-- ZONE_SET (R78 to R81): a bad zone or mode and a zone that is not hosted change nothing; in storage mode
the mode is saved; otherwise mode and clipped setpoint are stored, and OFF clears integral and duty and
releases the heater. -/
def Obligations.ZoneSetIsDecidedInOrder : Prop :=
  ∀ (s : State) (rq : Requester) (zone mode : Byte) (setpoint : Word), takesRequests s = true →
    (4 ≤ zone.toNat ∨ 4 ≤ mode.toNat →
      exec (.zoneSet rq zone mode setpoint) s = .next (answered s rq .badRequest []))
    ∧ (∀ n : Fin 4, zone.toNat = n.val → mode.toNat < 4 → s.params.zones[n].hosted = false →
      exec (.zoneSet rq zone mode setpoint) s = .next (answered s rq .notHosted []))
    ∧ (∀ (n : Fin 4) (m : ZoneMode) (sp : Int), zone.toNat = n.val → mode.toNat < 4 →
      s.params.zones[n].hosted = true → mode = (modeCode m).setWidth 8 →
      sp = max 50 (min 300 setpoint.toInt) → BudgetOk s → MirrorOk s →
      ∃ t : State, exec (.zoneSet rq zone mode setpoint) s = .next t
        ∧ (∀ k : Fin 4, k ≠ n → zoneFixed t.zone.zones[k] = zoneFixed s.zone.zones[k])
        ∧ (s.boot.storage = true →
            zoneFixed t.zone.zones[n]
              = zoneFixed { s.zone.zones[n] with saved := some m, setpoint := sp }
            ∧ t.budget = s.budget ∧ Replied s t rq .storage [])
        ∧ (s.boot.storage = false →
            (m ≠ .off → zoneFixed t.zone.zones[n]
                = zoneFixed { s.zone.zones[n] with mode := m, setpoint := sp }
              ∧ t.budget = s.budget)
            ∧ (m = .off → zoneFixed t.zone.zones[n]
                = zoneFixed { s.zone.zones[n] with
                    mode := .off, setpoint := sp, integral := 0, duty := 0 }
              ∧ t.budget.loads[8 + n.val].state = .off ∧ t.zone.zones[n].output = false)
            ∧ Replied s t rq (if sp = setpoint.toInt then .done else .clamped) []))

/-! ## Water controller -/

/-- The tank filter (R90): the first reading seeds it, each later one moves it an eighth of the difference
toward the raw level, rounded toward minus infinity; it stays between the two, rests exactly at 0 to 7
below the raw level, and follows a falling level all the way.

The tank states (R92): EMPTY and FULL, LOW and HIGH are entered when the level passes its threshold and
left only when it is 20 back across it. -/
def Obligations.TankFilterAndStatesFollowTheLevel : Prop :=
  (∀ (f raw : Nat), f ≤ 1000 → raw ≤ 1000 →
    filterAfter false raw none = raw ∧ filterAfter true raw none = raw
    ∧ filterAfter true raw (some f) = f
    ∧ (filterAfter false raw (some f) : Int) = f + Int.fdiv ((raw : Int) - f) 8
    ∧ min f raw ≤ filterAfter false raw (some f) ∧ filterAfter false raw (some f) ≤ max f raw
    ∧ (filterAfter false raw (some f) = f ↔ f ≤ raw ∧ raw ≤ f + 7)
    ∧ (raw < f → filterAfter false raw (some f) < f))
  ∧ (∀ (level : Nat) (before : TankState), level ≤ 1000 →
    (deriveFresh level before = .empty ↔ level < 30 ∨ level < 50 ∧ before = .empty)
    ∧ (deriveFresh level before = .low ↔ ¬ (level < 30 ∨ level < 50 ∧ before = .empty)
        ∧ (level < 150 ∨ level < 170 ∧ (before = .low ∨ before = .empty)))
    ∧ (deriveFresh level before = .normal ↔ 170 ≤ level
        ∨ 150 ≤ level ∧ before ≠ .low ∧ before ≠ .empty)
    ∧ (deriveWaste level before = .full ↔ 950 < level ∨ 930 < level ∧ before = .full)
    ∧ (deriveWaste level before = .high ↔ ¬ (950 < level ∨ 930 < level ∧ before = .full)
        ∧ (800 < level ∨ 780 < level ∧ (before = .high ∨ before = .full)))
    ∧ (deriveWaste level before = .normal ↔ level ≤ 780
        ∨ level ≤ 800 ∧ before ≠ .high ∧ before ≠ .full))

/-- TANK_PERIOD (R89 to R93, R100, R101, R103): every hosted tank takes its reading, every other tank keeps
its record; the frost record takes the temperature, the demand follows its thresholds, and the dwell runs
only while the tank is cold, the valve closed and the heater not admitted. The heater's load is OFF exactly
without demand; and where the fresh or grey state changed the pump's load is OFF exactly under a block or
without demand, and elsewhere OFF exactly if it was (R95, R96). -/
def Obligations.TankPeriodReadsTanksAndFrost : Prop :=
  ∀ (s : State) (fresh grey black temp : Adc), s.running = true → 1000 ≤ s.water.periodTimer →
    ∃ t : State, exec (.tankPeriod fresh grey black temp) s = .next t
      ∧ t.water.periodTimer = 0
      ∧ (∀ (p : TankParams) (reading : Adc) (old new : Tank)
          (derive : Nat → TankState → TankState) (alarm : TankState) (raised : Event),
          (p = s.params.water.fresh ∧ reading = fresh ∧ old = s.water.fresh ∧ new = t.water.fresh
              ∧ derive = deriveFresh ∧ alarm = .empty ∧ raised = .tankEmpty
            ∨ p = s.params.water.grey ∧ reading = grey ∧ old = s.water.grey ∧ new = t.water.grey
              ∧ derive = deriveWaste ∧ alarm = .full ∧ raised = .tankFull
            ∨ p = s.params.water.black ∧ reading = black ∧ old = s.water.black
              ∧ new = t.water.black ∧ derive = deriveWaste ∧ alarm = .full ∧ raised = .tankFull) →
          (p.hosted = false → new = old)
          ∧ (p.hosted = true → rawLevel p.table reading = none →
              new = { old with state := .fault })
          ∧ (p.hosted = true → ∀ raw : Nat, rawLevel p.table reading = some raw →
              new.raw = some raw
              ∧ new.filtered = some (filterAfter s.water.moving raw old.filtered)
              ∧ new.state = (if s.water.moving then (if old.state = .fault then .normal else old.state)
                  else derive (filterAfter s.water.moving raw old.filtered)
                    (if old.state = .fault then .normal else old.state))
              ∧ (new.state = alarm → old.state ≠ alarm → inSet t.event.flags raised = true)))
      ∧ (s.params.water.frost = false → t.water.frost.temp = s.water.frost.temp
          ∧ t.water.frost.demand = s.water.frost.demand)
      ∧ (s.params.water.frost = true →
          (convertTemp s.params.tempTable temp = none →
            t.water.frost.temp = s.water.frost.temp ∧ t.water.frost.faulted = true
            ∧ t.water.frost.demand = true ∧ t.water.frost.dwell = none)
          ∧ (∀ x : Int, convertTemp s.params.tempTable temp = some x →
            t.water.frost.temp = some x ∧ t.water.frost.faulted = false
            ∧ t.water.frost.demand
                = (if x ≤ 30 then true else if 60 ≤ x then false else s.water.frost.demand)
            ∧ (t.water.frost.dwell.isSome = true ↔ x ≤ 10 ∧ t.water.frost.valveOpen = false
                ∧ t.water.frost.load ≠ .admitted)))
      ∧ (BudgetOk s → MirrorOk s → PumpOk s →
          (s.params.water.frost = true →
            (t.budget.loads[12].state = .off ↔ t.water.frost.demand = false))
          ∧ (s.params.water.pump = true →
              t.water.fresh.state ≠ s.water.fresh.state ∨ t.water.grey.state ≠ s.water.grey.state →
            (t.budget.loads[13].state = .off ↔
              pumpBlocked t = true ∨ s.water.pump.demand = false))
          ∧ (s.params.water.pump = false ∨ t.water.fresh.state = s.water.fresh.state
              ∧ t.water.grey.state = s.water.grey.state →
            (t.budget.loads[13].state = .off ↔ s.budget.loads[13].state = .off)))

/-- PRESSURE_SWITCH_EDGE (R94 to R97): the edge sets or clears the demand; with no block the pump's load is
then asked for or released, and while a block holds it stays OFF. An edge that leaves the demand as it was,
and one on a station without the pump (R86), change nothing: the model's choice (log entry 3).

PUMP_RUN_TIMER_EXPIRY (R98): after 120 s of running dry-lock is set, PUMP-DRY is raised, and the pump's
load is OFF with its output off.

PUMP_SET (R99): decided in the order of the rule; an enable clears the disabled flag and dry-lock, a
disable sets the flag and stops the pump, and the pump is then on or off its load by its demand and its
blocks. -/
def Obligations.PumpFollowsDemandBlocksAndDryLock : Prop :=
  (∀ (s : State) (closing : Bool), s.running = true →
    (s.params.water.pump = false ∨ s.water.pump.demand = closing →
      exec (.pressureSwitchEdge closing) s = .next s)
    ∧ (s.params.water.pump = true → s.water.pump.demand ≠ closing →
      BudgetOk s → MirrorOk s → PumpOk s →
      ∃ t : State, exec (.pressureSwitchEdge closing) s = .next t
        ∧ waterFixed t.water
            = waterFixed { s.water with pump := { s.water.pump with demand := closing } }
        ∧ zonesSame s t ∧ lightsSame s t ∧ budgetSame s t
        ∧ t.water.pump.output = decide (t.budget.loads[13].state = .admitted)
        ∧ (closing = false ∨ pumpBlocked s = true → t.budget.loads[13].state = .off)
        ∧ (closing = true → pumpBlocked s = false → t.budget.loads[13].state ≠ .off)))
  ∧ (∀ s : State, s.running = true → s.params.water.pump = true → s.water.pump.output = true →
    120000 ≤ s.water.pump.runTimer → BudgetOk s → MirrorOk s → PumpOk s →
    ∃ t : State, exec .pumpRunTimerExpiry s = .next t
      ∧ waterFixed t.water = waterFixed { s.water with pump := { s.water.pump with dryLock := true } }
      ∧ inSet t.event.flags .pumpDry = true
      ∧ t.budget.loads[13].state = .off ∧ t.water.pump.output = false
      ∧ t.water.pump.runTimer = 0
      ∧ zonesSame s t ∧ lightsSame s t ∧ budgetSame s t)
  ∧ (∀ (s : State) (rq : Requester) (value : Byte), takesRequests s = true →
    (2 ≤ value.toNat → exec (.pumpSet rq value) s = .next (answered s rq .badRequest []))
    ∧ (value.toNat < 2 → s.params.water.pump = false →
      exec (.pumpSet rq value) s = .next (answered s rq .notHosted []))
    ∧ (value.toNat < 2 → s.params.water.pump = true → s.boot.storage = true →
      exec (.pumpSet rq value) s = .next (answered s rq .storage []))
    ∧ (value.toNat < 2 → s.params.water.pump = true → s.boot.storage = false →
      BudgetOk s → MirrorOk s → PumpOk s →
      ∃ t : State, exec (.pumpSet rq value) s = .next t
        ∧ Replied s t rq .done []
        ∧ t.water.pump.demand = s.water.pump.demand
        ∧ (value = 1#8 → t.water.pump.disabled = false ∧ t.water.pump.dryLock = false
          ∧ (s.water.pump.demand = true → s.water.fresh.state ≠ .empty →
              anyGreyFull s = false → s.water.frost.valveOpen = false →
              t.budget.loads[13].state ≠ .off))
        ∧ (value = 0#8 → t.water.pump.disabled = true
          ∧ t.water.pump.dryLock = s.water.pump.dryLock
          ∧ t.budget.loads[13].state = .off ∧ t.water.pump.output = false)
        ∧ zonesSame s t ∧ lightsSame s t ∧ budgetSame s t))

/-- FROST_DWELL_EXPIRY (R104, R102): the dump valve's load is ADMITTED at its rated current, the valve is open,
FROST-DUMP is raised and counted, the dwell is idle, and the pump is off.

VALVE_CLOSE (R106): NOT-HOSTED without the frost function, DONE on a closed valve, INTERLOCK on an open one
unless the last reading is good and above 5.0 degrees; otherwise the valve closes and its load is OFF. -/
def Obligations.DumpValveOpensOnFrostAndClosesWarm : Prop :=
  (∀ (s : State) (d : Nat), s.running = true → s.water.frost.dwell = some d → 600000 ≤ d →
    BudgetOk s → MirrorOk s → PumpOk s →
    ∃ t : State, exec .frostDwellExpiry s = .next t
      ∧ t.budget.loads[14].state = .admitted
      ∧ t.budget.loads[14].claim = s.budget.loads[14].rated
      ∧ waterFixed t.water = waterFixed { s.water with
          frost := { s.water.frost with valveOpen := true }
          frostDumps := min 65535 (s.water.frostDumps + 1) }
      ∧ t.water.frost.dwell = none
      ∧ inSet t.event.flags .frostDump = true
      ∧ t.budget.loads[13].state = .off ∧ t.water.pump.output = false
      ∧ zonesSame s t ∧ lightsSame s t ∧ budgetSame s t)
  ∧ (∀ (s : State) (rq : Requester), takesRequests s = true →
    (s.params.water.frost = false →
      exec (.valveClose rq) s = .next (answered s rq .notHosted []))
    ∧ (s.params.water.frost = true → s.water.frost.valveOpen = false →
      exec (.valveClose rq) s = .next (answered s rq .done []))
    ∧ (s.params.water.frost = true → s.water.frost.valveOpen = true →
      (s.water.frost.faulted = true ∨ s.water.frost.temp = none
        ∨ ∃ x : Int, s.water.frost.temp = some x ∧ x ≤ 50) →
      exec (.valveClose rq) s = .next (answered s rq .interlock []))
    ∧ (∀ x : Int, s.params.water.frost = true → s.water.frost.valveOpen = true →
      s.water.frost.faulted = false → s.water.frost.temp = some x → 50 < x →
      BudgetOk s → MirrorOk s → PumpOk s →
      ∃ t : State, exec (.valveClose rq) s = .next t
        ∧ Replied s t rq .done []
        ∧ waterFixed t.water
            = waterFixed { s.water with frost := { s.water.frost with valveOpen := false } }
        ∧ t.water.frost.dwell = none
        ∧ t.budget.loads[14].state = .off ∧ t.budget.loads[14].claim = 0
        ∧ (s.params.water.pump = true → s.water.pump.demand = true → s.water.pump.dryLock = false →
            otherPumpBlock t = false → t.budget.loads[13].state ≠ .off)
        ∧ zonesSame s t ∧ lightsSame s t ∧ budgetSame s t))

/-! ## Motion controller -/

/-- An auto-retraction of an actuator (R131, R115, R116), by its state. A still actuator's motor load must be
OFF, as every sound state has it. -/
def Obligations.AutoRetractionActsByState : Prop :=
  ∀ (s : State) (a : Actuator) (c : Cause), s.budget.loads[motorLoad a].state = .off
      ∨ isMoving (act s.motion a).state = true →
    ((act s.motion a).state = .stowed → autoRetract a c s = s)
    ∧ ((act s.motion a).state = .extended ∨ (act s.motion a).state = .stoppedMid →
        (stopActive s a .inStop = true → autoRetract a c s
          = putAct a { act s.motion a with state := .stowed, position := 0 } s)
        ∧ (stopActive s a .inStop = false →
          act (autoRetract a c s).motion a
            = drivenInward (s.params.actuator a) (act s.motion a) (act s.motion a).releaseMark (some c)
          ∧ (autoRetract a c s).budget.loads[motorLoad a].state = .admitted
          ∧ (autoRetract a c s).budget.loads[motorLoad a].cls = .c0))
    ∧ ((act s.motion a).state = .extending →
        act (autoRetract a c s).motion a = reversing (act s.motion a) .retracting false (some c)
        ∧ (autoRetract a c s).budget.loads[motorLoad a].state = .admitted
        ∧ (autoRetract a c s).budget.loads[motorLoad a].cls = .c0)
    ∧ ((act s.motion a).state = .retracting → autoRetract a c s
        = putAct a { act s.motion a with cause := some ((act s.motion a).cause.getD c) } s)
    ∧ ((act s.motion a).state = .fault → act (autoRetract a c s).motion a = act s.motion a
        ∧ inSet (autoRetract a c s).event.flags .stowFailed = true)
    ∧ restOfMotionSame s (autoRetract a c s) a

/-- A vehicle state handed over (R130 to R133): a rise brings every hosted actuator that was out to STOWED at an
active in-stop or to RETRACTING with cause VEHICLE, or keeps the cause of a retraction, leaves every hold and
every actuator STOWED or in FAULT as it was, and raises INTERLOCK-RETRACT if one was out and STOW-FAILED if
one was in FAULT; an active interlock without a rise ends every extension at STOPPED-MID with its load OFF,
touches no other actuator and raises nothing; otherwise no actuator changes. -/
def Obligations.InterlockBringsActuatorsIn : Prop :=
  ∀ (s : State) (v : VehicleState),
    (handVehicle v s).motion.vehicle = v
    ∧ (∀ a : Actuator, (act (handVehicle v s).motion a).hold = (act s.motion a).hold)
    ∧ (inUse s.params v = true → inUse s.params s.motion.vehicle = false →
        (∀ a : Actuator, (s.params.actuator a).hosted = true →
          ((act s.motion a).state ∈ [ActState.extending, .extended, .stoppedMid] →
            (act (handVehicle v s).motion a).state = .retracting
              ∧ (act (handVehicle v s).motion a).cause = some .vehicle
            ∨ (act (handVehicle v s).motion a).state = .stowed
              ∧ (act s.motion a).state ≠ .extending ∧ stopActive s a .inStop = true)
          ∧ ((act s.motion a).state = .retracting → act (handVehicle v s).motion a
              = { act s.motion a with cause := some ((act s.motion a).cause.getD .vehicle) })
          ∧ ((act s.motion a).state ∈ [ActState.stowed, .fault] →
              act (handVehicle v s).motion a = act s.motion a)
          ∧ ((act s.motion a).state = .fault →
              inSet (handVehicle v s).event.flags .stowFailed = true))
        ∧ ((∃ a : Actuator, (s.params.actuator a).hosted = true
              ∧ (act s.motion a).state ≠ .stowed ∧ (act s.motion a).state ≠ .fault) →
            inSet (handVehicle v s).event.flags .interlockRetract = true))
    ∧ (interlockActive s.params v = true →
        inUse s.params v = false ∨ inUse s.params s.motion.vehicle = true →
        (handVehicle v s).event = s.event
        ∧ ∀ a : Actuator, (s.params.actuator a).hosted = true →
          ((act s.motion a).state = .extending → act (handVehicle v s).motion a
              = travelEnded (act s.motion a) .stoppedMid (act s.motion a).position
            ∧ (handVehicle v s).budget.loads[motorLoad a].state = .off)
          ∧ ((act s.motion a).state ≠ .extending →
              act (handVehicle v s).motion a = act s.motion a))
    ∧ (∀ a : Actuator, (s.params.actuator a).hosted = false →
        act (handVehicle v s).motion a = act s.motion a)
    ∧ (interlockActive s.params v = false → ∀ a : Actuator,
        act (handVehicle v s).motion a = act s.motion a)

/-- STOP_ARRIVAL (R113, R114, R118, R120, R123): the stop stands active, and in FAULT nothing else happens. With
the other stop active too the actuator enters FAULT with the conflict recorded. Otherwise the table of R118
decides, and at the end of a travel the motor's load is OFF. (That the level of the pin follows every edge, also
one that is not taken as an event, is log entry 17.)

STOP_DEPARTURE (R113, R119): the stop stands inactive. Only a stop of sense both, on an actuator at its end,
makes it STOPPED-MID with its position kept; while the vehicle is in use it is brought in at once with cause
VEHICLE, and INTERLOCK-RETRACT is raised. -/
def Obligations.EndStopsActByState : Prop :=
  (∀ (s : State) (a : Actuator) (e : StopEnd), s.running = true →
    (s.params.actuator a).hosted = true →
    ∃ t : State, exec (.stopArrival a e) s = .next t
      ∧ t.motion.pins
          = setPin s.motion.pins (activeLevel (stopSense (s.params.actuator a) e)) a e
      ∧ restOfMotionSame s t a
      ∧ ((act s.motion a).state = .fault → act t.motion a = act s.motion a
          ∧ t.event = s.event ∧ t.budget = s.budget)
      ∧ ((act s.motion a).state ≠ .fault → stopActive s a (otherStop e) = true →
          (act t.motion a).state = .fault ∧ (act t.motion a).faults.conflict = true
          ∧ (act t.motion a).position = (act s.motion a).position
          ∧ (act t.motion a).hold = (act s.motion a).hold
          ∧ inSet t.event.flags .actuatorFault = true
          ∧ t.motion.actuatorFaults = min 65535 (s.motion.actuatorFaults + 1)
          ∧ (isMoving (act s.motion a).state = true → (act t.motion a).motor = .off
              ∧ (act t.motion a).cause = none ∧ t.budget.loads[motorLoad a].state = .off
              ∧ ((act s.motion a).cause ≠ none → inSet t.event.flags .stowFailed = true)))
      ∧ ((act s.motion a).state ≠ .fault → stopActive s a (otherStop e) = false →
          (e = .inStop →
            ((act s.motion a).state = .retracting →
              act t.motion a = travelEnded (act s.motion a) .stowed 0
              ∧ t.budget.loads[motorLoad a].state = .off)
            ∧ ((act s.motion a).state = .extended ∨ (act s.motion a).state = .stoppedMid →
              act t.motion a = { act s.motion a with state := .stowed, position := 0 })
            ∧ ((act s.motion a).state = .extending ∨ (act s.motion a).state = .stowed →
              act t.motion a = act s.motion a))
          ∧ (e = .outStop →
            ((act s.motion a).state = .extending →
              act t.motion a
                = travelEnded (act s.motion a) .extended (s.params.actuator a).length
              ∧ t.budget.loads[motorLoad a].state = .off)
            ∧ ((act s.motion a).state = .stowed ∨ (act s.motion a).state = .stoppedMid →
              act t.motion a = { act s.motion a with
                state := .extended, position := (s.params.actuator a).length })
            ∧ ((act s.motion a).state = .retracting ∨ (act s.motion a).state = .extended →
              act t.motion a = act s.motion a))))
  ∧ (∀ (s : State) (a : Actuator) (e : StopEnd), s.running = true →
    (s.params.actuator a).hosted = true →
    (stopSense (s.params.actuator a) e ≠ .both
        ∨ (act s.motion a).state ≠ (match e with
            | .inStop => ActState.stowed
            | .outStop => ActState.extended) →
      exec (.stopDeparture a e) s = .next { s with motion := { s.motion with
        pins := setPin s.motion.pins (!activeLevel (stopSense (s.params.actuator a) e)) a e } })
    ∧ (stopSense (s.params.actuator a) e = .both →
      (act s.motion a).state = (match e with
        | .inStop => ActState.stowed
        | .outStop => ActState.extended) →
      ∃ t : State, exec (.stopDeparture a e) s = .next t
        ∧ t.motion.pins = setPin s.motion.pins false a e
        ∧ restOfMotionSame s t a
        ∧ (inUse s.params s.motion.vehicle = false →
            act t.motion a = { act s.motion a with state := .stoppedMid }
            ∧ t.event.flags = s.event.flags)
        ∧ (inUse s.params s.motion.vehicle = true →
            inSet t.event.flags .interlockRetract = true
            ∧ (e = .outStop → stopActive s a .inStop = true →
                act t.motion a = { act s.motion a with state := .stowed, position := 0 })
            ∧ (e = .inStop ∨ stopActive s a .inStop = false →
                act t.motion a = drivenInward (s.params.actuator a) (act s.motion a)
                  (act s.motion a).releaseMark (some .vehicle)))))

/-- HALL_EDGE (R114, R121): while the motor is driven the edge moves the position by one in its direction, held
at 0 and at the travel length, and restarts the stall timer; with the motor off it changes nothing.

MOTOR_CURRENT_CROSSING (R122): while the motor is driven the overcurrent timer starts at 0 when the current
is above the latched limit, and goes idle at or below it; nothing else changes. -/
def Obligations.DrivenMotorTakesEdgesAndCurrent : Prop :=
  (∀ (s : State) (a : Actuator), s.running = true → (s.params.actuator a).hosted = true →
    ((act s.motion a).motor = .off → exec (.hallEdge a) s = .next s)
    ∧ ((act s.motion a).motor = .outward → exec (.hallEdge a) s
        = .next (putAct a { act s.motion a with
            position := min ((act s.motion a).position + 1) (s.params.actuator a).length
            stallTimer := some 0 } s))
    ∧ ((act s.motion a).motor = .inward → exec (.hallEdge a) s
        = .next (putAct a { act s.motion a with
            position := (act s.motion a).position - 1, stallTimer := some 0 } s)))
  ∧ (∀ (s : State) (a : Actuator) (current : Nat), s.running = true →
    (s.params.actuator a).hosted = true →
    ((act s.motion a).latched = none → exec (.motorCurrentCrossing a current) s = .next s)
    ∧ (∀ l : Latched, (act s.motion a).latched = some l →
      (l.limit < current → (act s.motion a).overTimer = none →
        exec (.motorCurrentCrossing a current) s
          = .next (putAct a { act s.motion a with overTimer := some 0 } s))
      ∧ (∀ x : Nat, l.limit < current → (act s.motion a).overTimer = some x →
        exec (.motorCurrentCrossing a current) s = .next s)
      ∧ (current ≤ l.limit → exec (.motorCurrentCrossing a current) s
          = .next (putAct a { act s.motion a with overTimer := none } s))))

/-- TRAVEL_TIMEOUT, STALL, and OVERCURRENT_EXPIRY inward (R120 to R122, R124): the travel ends in FAULT with its
fault recorded, ACTUATOR-FAULT raised and counted, STOW-FAILED raised for a cause, and the load OFF.

OVERCURRENT_EXPIRY outward (R122): the step reverses toward retraction with cause STOW, its load ADMITTED at
class 0; the awning's travel ends at STOPPED-MID with its load OFF; no event is raised. -/
def Obligations.TravelTimersEndTheTravel : Prop :=
  (∀ (s : State) (a : Actuator) (c : Instr) (f : FaultSet), s.running = true →
    (s.params.actuator a).hosted = true → isMoving (act s.motion a).state = true →
    ((c = .travelTimeout a ∧ f = { (act s.motion a).faults with travelTimeout := true }
        ∧ ∃ (l : Latched) (x : Nat), (act s.motion a).latched = some l
          ∧ (act s.motion a).travelTimer = some x ∧ l.timeout * 1000 ≤ x)
      ∨ (c = .stall a ∧ f = { (act s.motion a).faults with stall := true }
        ∧ ∃ x : Nat, (act s.motion a).stallTimer = some x ∧ 500 ≤ x)
      ∨ (c = .overcurrentExpiry a ∧ f = { (act s.motion a).faults with obstructed := true }
        ∧ (act s.motion a).motor = .inward
        ∧ ∃ x : Nat, (act s.motion a).overTimer = some x ∧ 200 ≤ x)) →
    ∃ t : State, exec c s = .next t
      ∧ act t.motion a
          = { travelEnded (act s.motion a) .fault (act s.motion a).position with faults := f }
      ∧ t.motion.pins = s.motion.pins ∧ restOfMotionSame s t a
      ∧ t.motion.actuatorFaults = min 65535 (s.motion.actuatorFaults + 1)
      ∧ inSet t.event.flags .actuatorFault = true
      ∧ ((act s.motion a).cause ≠ none → inSet t.event.flags .stowFailed = true)
      ∧ ((act s.motion a).cause = none →
          inSet t.event.flags .stowFailed = inSet s.event.flags .stowFailed)
      ∧ t.budget.loads[motorLoad a].state = .off)
  ∧ (∀ (s : State) (a : Actuator) (x : Nat), s.running = true →
    (s.params.actuator a).hosted = true → (act s.motion a).state = .extending →
    (act s.motion a).motor = .outward → (act s.motion a).overTimer = some x → 200 ≤ x →
    ∃ t : State, exec (.overcurrentExpiry a) s = .next t
      ∧ t.event.flags = s.event.flags
      ∧ t.motion.actuatorFaults = s.motion.actuatorFaults
      ∧ restOfMotionSame s t a
      ∧ (a = .step → act t.motion a = reversing (act s.motion a) .retracting false (some .stow)
          ∧ t.budget.loads[motorLoad a].state = .admitted
          ∧ t.budget.loads[motorLoad a].cls = .c0)
      ∧ (a = .awning →
          act t.motion a = travelEnded (act s.motion a) .stoppedMid (act s.motion a).position
          ∧ t.budget.loads[motorLoad a].state = .off))

/-- PAUSE_END (R117): at an active stop ahead the travel ends there with its load OFF; otherwise the motor is
driven on in the direction of the state, with its parameters latched and its timers at 0. -/
def Obligations.PauseEndDrivesOrEndsTheTravel : Prop :=
  ∀ (s : State) (a : Actuator) (x : Nat), s.running = true →
    (s.params.actuator a).hosted = true → (act s.motion a).pauseTimer = some x → 300 ≤ x →
    ((act s.motion a).state = .retracting →
      (stopActive s a .inStop = false → exec (.pauseEnd a) s
        = .next (putAct a (drivenInward (s.params.actuator a) (act s.motion a)
            (act s.motion a).releaseMark (act s.motion a).cause) s))
      ∧ (stopActive s a .inStop = true → ∃ t : State, exec (.pauseEnd a) s = .next t
        ∧ act t.motion a = travelEnded (act s.motion a) .stowed 0
        ∧ restOfMotionSame s t a ∧ t.budget.loads[motorLoad a].state = .off))
    ∧ ((act s.motion a).state = .extending →
      (stopActive s a .outStop = false → exec (.pauseEnd a) s
        = .next (putAct a (drivenOutward (s.params.actuator a) (act s.motion a)
            (act s.motion a).releaseMark (act s.motion a).cause) s))
      ∧ (stopActive s a .outStop = true → ∃ t : State, exec (.pauseEnd a) s = .next t
        ∧ act t.motion a = travelEnded (act s.motion a) .extended (s.params.actuator a).length
        ∧ restOfMotionSame s t a ∧ t.budget.loads[motorLoad a].state = .off))

/-- ANEMOMETER_EDGE and WIND_SILENCE_EXPIRY (R134, R135): a first edge only latches; a later one gives the speed
Kw over the period and moves the gust count; the third high speed is a gust, which sets the count back and
brings the awning in with cause WIND and WIND-RETRACT unless it is STOWED, RETRACTING or in FAULT; silence
sets the speed and the count to 0. (That the silence timer is then idle until the next edge is the model's
choice, log entry 19.) -/
def Obligations.WindEdgesGiveSpeedAndGusts : Prop :=
  ∀ s : State, s.running = true → s.params.wind.hosted = true →
    (s.motion.wind.lastCapture = none → exec .anemometerEdge s
      = .next { s with motion := { s.motion with wind := { s.motion.wind with
          lastCapture := some s.clock, silence := some 0 } } })
    ∧ (∀ last speed gusts : Nat, s.motion.wind.lastCapture = some last →
      speed = s.params.wind.kw / (if s.clock - last = 0 then 1 else s.clock - last) →
      gusts = (if s.params.wind.threshold ≤ speed then s.motion.wind.gusts + 1 else 0) →
      (gusts < 3 → exec .anemometerEdge s
        = .next { s with motion := { s.motion with wind := {
            lastCapture := some s.clock, speed := speed, gusts := gusts, silence := some 0 } } })
      ∧ (3 ≤ gusts → ∃ t : State, exec .anemometerEdge s = .next t
        ∧ t.motion.wind
            = { lastCapture := some s.clock, speed := speed, gusts := 0, silence := some 0 }
        ∧ t.motion.step = s.motion.step
        ∧ (s.motion.awning.state ∈ [ActState.stowed, .retracting, .fault] →
            t.motion.awning = s.motion.awning ∧ t.event = s.event)
        ∧ (s.motion.awning.state ∈ [ActState.extending, .extended, .stoppedMid] →
            inSet t.event.flags .windRetract = true
            ∧ t.motion.awning.hold = s.motion.awning.hold
            ∧ (t.motion.awning.state = .stowed ∧ s.motion.awning.state ≠ .extending
                ∧ stopActive s .awning .inStop = true
              ∨ t.motion.awning.state = .retracting
                ∧ t.motion.awning.cause = some .wind))))
    ∧ (∀ x : Nat, s.motion.wind.silence = some x → 2000 ≤ x → exec .windSilenceExpiry s
      = .next { s with motion := { s.motion with wind := {
          lastCapture := none, speed := 0, gusts := 0, silence := none } } })

/-- MOVE with a bad argument, of an actuator that is not hosted, and every refusal of MOVE EXTEND and MOVE
RETRACT in the order of R126 and R127: the REPLY is all that changes. -/
def Obligations.MoveIsRefusedInOrder : Prop :=
  ∀ (s : State) (rq : Requester), takesRequests s = true →
    (∀ x d : Byte, 2 ≤ x.toNat ∨ 2 ≤ d.toNat →
      exec (.move rq x d) s = .next (answered s rq .badRequest []))
    ∧ (∀ (a : Actuator) (x : Byte), x = (match a with
        | .awning => 0#8
        | .step => 1#8) →
      (∀ d : Byte, d.toNat < 2 → (s.params.actuator a).hosted = false →
        exec (.move rq x d) s = .next (answered s rq .notHosted []))
      ∧ ((s.params.actuator a).hosted = true →
        (∀ d : Byte, d.toNat < 2 → (act s.motion a).state = .fault →
          exec (.move rq x d) s = .next (answered s rq .fault []))
        ∧ ((act s.motion a).state = .extended ∨ (act s.motion a).state = .extending →
          exec (.move rq x 1#8) s = .next (answered s rq .done []))
        ∧ ((act s.motion a).state = .stowed ∨ (act s.motion a).state = .retracting →
          exec (.move rq x 0#8) s = .next (answered s rq .done []))
        ∧ ((act s.motion a).hold = true →
          ((act s.motion a).state ∈ [ActState.stowed, .stoppedMid, .retracting] →
            exec (.move rq x 1#8) s = .next (answered s rq .held []))
          ∧ ((act s.motion a).state ∈ [ActState.extended, .stoppedMid, .extending] →
            exec (.move rq x 0#8) s = .next (answered s rq .held [])))
        ∧ ((act s.motion a).hold = false →
          (act s.motion a).state ∈ [ActState.stowed, .stoppedMid, .retracting] →
          (s.motion.storage = true →
            exec (.move rq x 1#8) s = .next (answered s rq .storage []))
          ∧ (s.motion.storage = false →
            interlockActive s.params s.motion.vehicle = true
              ∨ a = .awning ∧ s.params.wind.hosted = true
                ∧ s.params.wind.threshold ≤ s.motion.wind.speed →
            exec (.move rq x 1#8) s = .next (answered s rq .interlock [])))))

/-- MOVE EXTEND that no check refuses (R52, R115, R116, R126): at an active out-stop the still actuator is
EXTENDED and the outcome DONE; a class 2 ask that fails leaves it and gives BUDGET; an admitted one drives
it out and gives STARTED. From RETRACTING the motor's load is released and asked for at class 2: admitted, it
pauses toward extension; refused, it goes on retracting with its record as it was and gives BUDGET.

MOVE RETRACT that no check refuses (R115, R116, R127): a still actuator is STOWED at once at an active
in-stop, and otherwise driven in; an extending one reverses; none carries a cause. -/
def Obligations.MoveDrivesTheActuator : Prop :=
  (∀ (s : State) (rq : Requester) (a : Actuator) (x : Byte), takesRequests s = true →
    x = (match a with
      | .awning => 0#8
      | .step => 1#8) →
    (s.params.actuator a).hosted = true → (act s.motion a).hold = false →
    s.motion.storage = false → interlockActive s.params s.motion.vehicle = false →
    (a = .step ∨ s.params.wind.hosted = false
      ∨ s.motion.wind.speed < s.params.wind.threshold) →
    ((act s.motion a).state = .stowed ∨ (act s.motion a).state = .stoppedMid →
      s.budget.loads[motorLoad a].state = .off →
      (stopActive s a .outStop = true → ∃ t : State, exec (.move rq x 1#8) s = .next t
        ∧ act t.motion a = { act s.motion a with
            state := .extended, position := (s.params.actuator a).length }
        ∧ restOfMotionSame s t a ∧ Replied s t rq .done []
        ∧ t.budget.loads[motorLoad a] = s.budget.loads[motorLoad a])
      ∧ (stopActive s a .outStop = false →
        s.budget.gateOpen = false ∨ s.budget.shed.c2 = true
          ∨ s.budget.caps.c2 < sumUpTo (totals s.budget) .c2 + s.budget.loads[motorLoad a].rated →
        exec (.move rq x 1#8) s = .next (answered s rq .budget []))
      ∧ (stopActive s a .outStop = false →
        s.budget.gateOpen = true → s.budget.shed.c2 = false →
        sumUpTo (totals s.budget) .c2 + s.budget.loads[motorLoad a].rated ≤ s.budget.caps.c2 →
        ∃ t : State, exec (.move rq x 1#8) s = .next t
        ∧ act t.motion a = drivenOutward (s.params.actuator a) (act s.motion a)
            (act s.motion a).releaseMark (act s.motion a).cause
        ∧ t.budget.loads[motorLoad a] = { s.budget.loads[motorLoad a] with
            cls := .c2, state := .admitted, claim := s.budget.loads[motorLoad a].rated
            hold := none }
        ∧ restOfMotionSame s t a ∧ Replied s t rq .started []))
    ∧ ((act s.motion a).state = .retracting → ∃ t : State, exec (.move rq x 1#8) s = .next t
      ∧ restOfMotionSame s t a
      ∧ t.budget.loads[motorLoad a].state = .admitted
      ∧ (s.budget.gateOpen = true → s.budget.shed.c2 = false →
          sumUpTo (totals (release (motorLoad a) s).budget) .c2
            + s.budget.loads[motorLoad a].rated ≤ s.budget.caps.c2 →
          act t.motion a = reversing (act s.motion a) .extending false none
          ∧ t.budget.loads[motorLoad a].cls = .c2 ∧ Replied s t rq .started [])
      ∧ (s.budget.gateOpen = false ∨ s.budget.shed.c2 = true
          ∨ s.budget.caps.c2 < sumUpTo (totals (release (motorLoad a) s).budget) .c2
            + s.budget.loads[motorLoad a].rated →
          act t.motion a = act s.motion a
          ∧ t.budget.loads[motorLoad a].cls = .c0 ∧ Replied s t rq .budget [])))
  ∧ (∀ (s : State) (rq : Requester) (a : Actuator) (x : Byte), takesRequests s = true →
    x = (match a with
      | .awning => 0#8
      | .step => 1#8) →
    (s.params.actuator a).hosted = true → (act s.motion a).hold = false →
    ((act s.motion a).state = .extended ∨ (act s.motion a).state = .stoppedMid →
      s.budget.loads[motorLoad a].state = .off → ∃ t : State, exec (.move rq x 0#8) s = .next t
      ∧ restOfMotionSame s t a
      ∧ (stopActive s a .inStop = true →
          act t.motion a = { act s.motion a with state := .stowed, position := 0 }
          ∧ Replied s t rq .done [])
      ∧ (stopActive s a .inStop = false →
          act t.motion a = drivenInward (s.params.actuator a) (act s.motion a)
            (act s.motion a).releaseMark (act s.motion a).cause
          ∧ t.budget.loads[motorLoad a] = { s.budget.loads[motorLoad a] with
              cls := .c0, state := .admitted, claim := s.budget.loads[motorLoad a].rated
              hold := none }
          ∧ Replied s t rq .started []))
    ∧ ((act s.motion a).state = .extending → ∃ t : State, exec (.move rq x 0#8) s = .next t
      ∧ restOfMotionSame s t a
      ∧ act t.motion a = reversing (act s.motion a) .retracting false none
      ∧ t.budget.loads[motorLoad a].state = .admitted
      ∧ t.budget.loads[motorLoad a].cls = .c0 ∧ Replied s t rq .started []))

/-- HALT (R128, R120): a bad name and an actuator that is not hosted are refused; a moving actuator ends its
travel at STOPPED-MID with its position kept and its load OFF; any other is left as it is.

HOLD_SET (R129): a set stores the hold, clears the mark and stops an extension; a clear only clears the
hold; the outcome is DONE for every hosted actuator. -/
def Obligations.HaltAndHoldEndTravels : Prop :=
  (∀ (s : State) (rq : Requester), takesRequests s = true →
    (∀ x : Byte, 2 ≤ x.toNat → exec (.halt rq x) s = .next (answered s rq .badRequest []))
    ∧ (∀ (a : Actuator) (x : Byte), x = (match a with
        | .awning => 0#8
        | .step => 1#8) →
      ((s.params.actuator a).hosted = false →
        exec (.halt rq x) s = .next (answered s rq .notHosted []))
      ∧ ((s.params.actuator a).hosted = true → isMoving (act s.motion a).state = false →
        exec (.halt rq x) s = .next (answered s rq .done []))
      ∧ ((s.params.actuator a).hosted = true → isMoving (act s.motion a).state = true →
        ∃ t : State, exec (.halt rq x) s = .next t
        ∧ act t.motion a = travelEnded (act s.motion a) .stoppedMid (act s.motion a).position
        ∧ t.budget.loads[motorLoad a].state = .off
        ∧ restOfMotionSame s t a ∧ t.motion.pins = s.motion.pins
        ∧ Replied s t rq .done [])))
  ∧ (∀ (s : State) (rq : Requester), takesRequests s = true →
    (∀ x v : Byte, 2 ≤ x.toNat ∨ 2 ≤ v.toNat →
      exec (.holdSet rq x v) s = .next (answered s rq .badRequest []))
    ∧ (∀ (a : Actuator) (x : Byte), x = (match a with
        | .awning => 0#8
        | .step => 1#8) →
      (∀ v : Byte, v.toNat < 2 → (s.params.actuator a).hosted = false →
        exec (.holdSet rq x v) s = .next (answered s rq .notHosted []))
      ∧ ((s.params.actuator a).hosted = true →
        (∃ t : State, exec (.holdSet rq x 0#8) s = .next t
          ∧ act t.motion a = { act s.motion a with hold := false }
          ∧ restOfMotionSame s t a ∧ t.budget = s.budget ∧ Replied s t rq .done [])
        ∧ (∃ t : State, exec (.holdSet rq x 1#8) s = .next t
          ∧ restOfMotionSame s t a ∧ Replied s t rq .done []
          ∧ ((act s.motion a).state ≠ .extending →
              act t.motion a = { act s.motion a with hold := true, releaseMark := false }
              ∧ t.budget = s.budget)
          ∧ ((act s.motion a).state = .extending →
              act t.motion a
                = { travelEnded (act s.motion a) .stoppedMid (act s.motion a).position with
                    hold := true }
              ∧ t.budget.loads[motorLoad a].state = .off)))))

/-- FAULT_CLEAR (R125): of an actuator in FAULT the fault set is emptied and the stops decide the state; with
both active the conflict is recorded anew, raised and counted. Any other actuator is left as it is. -/
def Obligations.FaultClearReadsTheStops : Prop :=
  ∀ (s : State) (rq : Requester), takesRequests s = true →
    (∀ x : Byte, 2 ≤ x.toNat → exec (.faultClear rq x) s = .next (answered s rq .badRequest []))
    ∧ (∀ (a : Actuator) (x : Byte), x = (match a with
        | .awning => 0#8
        | .step => 1#8) →
      ((s.params.actuator a).hosted = false →
        exec (.faultClear rq x) s = .next (answered s rq .notHosted []))
      ∧ ((s.params.actuator a).hosted = true → (act s.motion a).state ≠ .fault →
        exec (.faultClear rq x) s = .next (answered s rq .done []))
      ∧ ((s.params.actuator a).hosted = true → (act s.motion a).state = .fault →
        ∃ t : State, exec (.faultClear rq x) s = .next t
        ∧ restOfMotionSame s t a ∧ t.motion.pins = s.motion.pins
        ∧ act t.motion a = { act s.motion a with
            state :=
              if stopActive s a .inStop = true ∧ stopActive s a .outStop = true then .fault
              else if stopActive s a .inStop = true then .stowed
              else if stopActive s a .outStop = true then .extended
              else .stoppedMid
            position :=
              if stopActive s a .inStop = true ∧ stopActive s a .outStop = true then
                (act s.motion a).position
              else if stopActive s a .inStop = true then 0
              else if stopActive s a .outStop = true then (s.params.actuator a).length
              else (act s.motion a).position
            faults :=
              if stopActive s a .inStop = true ∧ stopActive s a .outStop = true then
                { travelTimeout := false, stall := false, obstructed := false, conflict := true }
              else
                { travelTimeout := false, stall := false, obstructed := false, conflict := false } }
        ∧ (stopActive s a .inStop = true → stopActive s a .outStop = true →
            inSet t.event.flags .actuatorFault = true
            ∧ inSet t.event.flags .stowFailed = inSet s.event.flags .stowFailed
            ∧ t.motion.actuatorFaults = min 65535 (s.motion.actuatorFaults + 1)
            ∧ Replied s t rq .fault [])
        ∧ (stopActive s a .inStop = false ∨ stopActive s a .outStop = false →
            t.event.flags = s.event.flags
            ∧ t.motion.actuatorFaults = s.motion.actuatorFaults
            ∧ Replied s t rq .done [])))

/-- STOW (R136, R131): a held actuator is left without override; otherwise a still one out of STOWED becomes
STOWED at an active in-stop or is driven in, an extending one reverses, and a retracting one keeps its
cause; with override the release mark is set on each one that is then RETRACTING, and the hold is cleared
on one that became STOWED at once. STOW-FAILED is raised exactly when it acts on an actuator in FAULT, so by a
held one in FAULT without override it is not. -/
def Obligations.StowBringsActuatorsIn : Prop :=
  ∀ (s : State) (override : Bool), s.running = true →
    (∀ a : Actuator, (s.params.actuator a).hosted = true → isMoving (act s.motion a).state = false →
      s.budget.loads[motorLoad a].state = .off) →
    ∃ t : State, exec (.stow override) s = .next t
      ∧ t.motion.pins = s.motion.pins ∧ t.motion.wind = s.motion.wind
      ∧ (∀ a : Actuator, (s.params.actuator a).hosted = false →
          act t.motion a = act s.motion a)
      ∧ (inSet t.event.flags .stowFailed = true ↔ inSet s.event.flags .stowFailed = true
          ∨ ∃ a : Actuator, (s.params.actuator a).hosted = true ∧ (act s.motion a).state = .fault
            ∧ ((act s.motion a).hold = false ∨ override = true))
      ∧ (∀ a : Actuator, (s.params.actuator a).hosted = true →
          ((act s.motion a).hold = true → override = false → act t.motion a = act s.motion a)
          ∧ ((act s.motion a).hold = false ∨ override = true →
            ((act s.motion a).state = .stowed → act t.motion a = act s.motion a)
            ∧ ((act s.motion a).state = .fault → act t.motion a = act s.motion a)
            ∧ ((act s.motion a).state = .retracting → act t.motion a = { act s.motion a with
                cause := some ((act s.motion a).cause.getD .stow)
                releaseMark := override || (act s.motion a).releaseMark })
            ∧ ((act s.motion a).state = .extending →
                act t.motion a = reversing (act s.motion a) .retracting override (some .stow)
                ∧ t.budget.loads[motorLoad a].state = .admitted
                ∧ t.budget.loads[motorLoad a].cls = .c0)
            ∧ ((act s.motion a).state = .extended ∨ (act s.motion a).state = .stoppedMid →
                (stopActive s a .inStop = true → act t.motion a = { act s.motion a with
                    state := .stowed, position := 0
                    hold := if override then false else (act s.motion a).hold })
                ∧ (stopActive s a .inStop = false →
                  act t.motion a = drivenInward (s.params.actuator a) (act s.motion a)
                    (override || (act s.motion a).releaseMark) (some .stow)
                  ∧ t.budget.loads[motorLoad a].state = .admitted
                  ∧ t.budget.loads[motorLoad a].cls = .c0))))

/-- MOTION_HEARTBEAT (R139, R140): a station that hosts the awning, the step or the wind meter hands the line a
MOTION of 11 bytes with each hosted actuator's state, position, faults and hold, and the wind; the MOTION
timer restarts, and nothing else but the free values moves on. The bytes beside the code "not hosted" are
free values (log entry 6). -/
def Obligations.MotionHeartbeatCarriesTheActuators : Prop :=
  ∀ s : State, s.running = true → s.boot.station ≠ 0#4 → 2000 ≤ s.motion.motionTimer →
    (s.params.awning.hosted = true ∨ s.params.step.hosted = true ∨ s.params.wind.hosted = true) →
    ∃ (payload : List Byte) (drawn : Nat), exec .motionHeartbeat s = .next { s with
        motion := { s.motion with motionTimer := 0 }, freeCount := drawn
        line := beginFrame (takeTelegram s.line (telegramOf .motion s.boot.station payload)) }
      ∧ payload.length = 11
      ∧ (∀ (a : Actuator) (k : Nat), k = (match a with
          | .awning => 0
          | .step => 4) →
        ((s.params.actuator a).hosted = false → byteAt payload k = 0#8)
        ∧ ((s.params.actuator a).hosted = true →
          byteAt payload k = (match (act s.motion a).state with
            | .stowed => 1#8
            | .extending => 2#8
            | .extended => 3#8
            | .retracting => 4#8
            | .stoppedMid => 5#8
            | .fault => 6#8)
          ∧ wordAt payload (k + 1) = BitVec.ofNat 16
              ((act s.motion a).position * 1000 / (s.params.actuator a).length)
          ∧ (byteAt payload (k + 3)).getLsbD 0 = (act s.motion a).faults.travelTimeout
          ∧ (byteAt payload (k + 3)).getLsbD 1 = (act s.motion a).faults.stall
          ∧ (byteAt payload (k + 3)).getLsbD 2 = (act s.motion a).faults.obstructed
          ∧ (byteAt payload (k + 3)).getLsbD 3 = (act s.motion a).faults.conflict
          ∧ (byteAt payload (k + 3)).getLsbD 7 = (act s.motion a).hold))
      ∧ (s.params.wind.hosted = true → byteAt payload 8 = 1#8
          ∧ wordAt payload 9 = BitVec.ofNat 16 s.motion.wind.speed)
      ∧ (s.params.wind.hosted = false → byteAt payload 8 = 0#8)

/-! ## Light controller -/

/-- SWITCH_EDGE (R145, R146): a taken edge toggles the channel's latch and evaluates its on condition, which the
truth table gives from C, B and A; the load is then OFF exactly while it is false. An edge that the sense
does not name, on a channel that is not hosted, or in storage mode changes nothing. -/
def Obligations.SwitchEdgeTogglesTheLatch : Prop :=
  ∀ (s : State) (n : Fin 8) (rising : Bool), s.running = true →
    (s.params.channels[n].hosted = false ∨ s.light.forcedOff = true
        ∨ s.params.channels[n].sense = .none ∨ s.params.channels[n].sense = .rising ∧ rising = false
        ∨ s.params.channels[n].sense = .falling ∧ rising = true →
      exec (.switchEdge n rising) s = .next s)
    ∧ (s.params.channels[n].hosted = true → s.light.forcedOff = false →
      s.params.channels[n].sense = .both ∨ s.params.channels[n].sense = .rising ∧ rising = true
        ∨ s.params.channels[n].sense = .falling ∧ rising = false →
      BudgetOk s → MirrorOk s →
      ∀ (index : Nat) (on : Bool),
      index = (if s.light.ownStepOut = true ∨ s.light.peerStepOut = true then 4 else 0)
        + (if s.light.channels[n].scene then 2 else 0)
        + (if s.light.channels[n].latch then 0 else 1) →
      on = s.params.channels[n].truth.getLsbD index →
      ∃ t : State, exec (.switchEdge n rising) s = .next t
        ∧ channelFixed t.light.channels[n]
            = channelFixed { s.light.channels[n] with latch := !s.light.channels[n].latch, on := on }
        ∧ (t.budget.loads[n.val].state = .off ↔ on = false)
        ∧ otherChannelsSame s t (· = n)
        ∧ zonesSame s t ∧ waterSame s t ∧ budgetSame s t)

/-- SCENE (R147, R148, R145): a recall sets the scene bit of every hosted channel by its membership and the set
level of each member whose level is not 0, and evaluates every hosted channel. A number of 8 or more, and
any SCENE in storage mode, changes nothing. -/
def Obligations.SceneRecallsBitsAndLevels : Prop :=
  ∀ (s : State) (number : Byte), s.running = true →
    (8 ≤ number.toNat ∨ s.light.forcedOff = true → exec (.scene number) s = .next s)
    ∧ (∀ k : Fin 8, number.toNat = k.val → s.light.forcedOff = false → BudgetOk s → MirrorOk s →
      ∃ t : State, exec (.scene number) s = .next t
        ∧ otherChannelsSame s t (fun n => s.params.channels[n].hosted = true)
        ∧ zonesSame s t ∧ waterSame s t ∧ budgetSame s t
        ∧ (∀ (n : Fin 8) (member : Bool), s.params.channels[n].hosted = true →
            member = s.params.scenes[k].members.getLsbD n.val →
            t.light.channels[n].scene = member
            ∧ t.light.channels[n].latch = s.light.channels[n].latch
            ∧ t.light.channels[n].setLevel
                = (if member = true ∧ s.params.scenes[k].levels[n] ≠ 0 then
                    s.params.scenes[k].levels[n] else s.light.channels[n].setLevel)
            ∧ t.light.channels[n].on = s.params.channels[n].truth.getLsbD
                ((if s.light.ownStepOut = true ∨ s.light.peerStepOut = true then 4 else 0)
                  + (if member then 2 else 0)
                  + (if s.light.channels[n].latch then 1 else 0))
            ∧ (t.budget.loads[n.val].state = .off ↔ t.light.channels[n].on = false)))

/-- LIGHT_SET (R154, R155, R148): decided in the order of the rule; a request taken writes the latch and a level
of 1 to 255, evaluates the channel, and answers with its load state, set level and target as it left them:
PENDING for a load that waits or is shed, and DONE for any other. -/
def Obligations.LightSetAnswersWithTheChannel : Prop :=
  ∀ (s : State) (rq : Requester) (channel code level : Byte), takesRequests s = true →
    (8 ≤ channel.toNat ∨ 2 ≤ code.toNat →
      exec (.lightSet rq channel code level) s = .next (answered s rq .badRequest []))
    ∧ (∀ n : Fin 8, channel.toNat = n.val → code.toNat < 2 →
      (s.params.channels[n].hosted = false →
        exec (.lightSet rq channel code level) s = .next (answered s rq .notHosted []))
      ∧ (s.params.channels[n].hosted = true → s.light.forcedOff = true →
        exec (.lightSet rq channel code level) s = .next (answered s rq .storage []))
      ∧ (s.params.channels[n].hosted = true → s.light.forcedOff = false →
        BudgetOk s → MirrorOk s →
        ∀ (on : Bool) (new : Nat),
        new = (if level = 0#8 then s.light.channels[n].setLevel else level.toNat) →
        on = s.params.channels[n].truth.getLsbD
          ((if s.light.ownStepOut = true ∨ s.light.peerStepOut = true then 4 else 0)
            + (if s.light.channels[n].scene then 2 else 0) + code.toNat) →
        ∃ t : State, exec (.lightSet rq channel code level) s = .next t
          ∧ channelFixed t.light.channels[n] = channelFixed { s.light.channels[n] with
              setLevel := new, latch := code == 1#8, on := on }
          ∧ (t.budget.loads[n.val].state = .off ↔ on = false)
          ∧ otherChannelsSame s t (· = n)
          ∧ zonesSame s t ∧ waterSame s t ∧ budgetSame s t
          ∧ ∃ (stateCode : Byte) (target : Nat) (outcome : ReplyOutcome),
              (t.budget.loads[n.val].state, stateCode, target, outcome) ∈
                [(LoadState.off, 0#8, 0, ReplyOutcome.done), (.waiting, 1#8, 0, .pending),
                 (.admitted, 2#8, new, .done),
                 (.reduced .level, 3#8, min new s.params.channels[n].ceiling, .done),
                 (.reduced .budget, 4#8, min new s.params.channels[n].ceiling, .done),
                 (.shed .level, 5#8, 0, .pending), (.shed .budget, 6#8, 0, .pending)]
              ∧ t.light.channels[n].target = target
              ∧ Replied s t rq outcome
                  [stateCode, BitVec.ofNat 8 new, BitVec.ofNat 8 target]))

/-- FADE_TICK (R150, R152): the level of every hosted channel goes one fade step toward its target and never past
it, and a channel whose level changes takes the duty of its new level; nothing else changes.

PWM_COUNTER_ADVANCE (R153): the counter goes on by one, from 255 back to 0, and every hosted channel is on
while its duty is 255 or greater than the counter; a channel that is not hosted is off. Nothing else
changes. -/
def Obligations.FadeAndPwmDriveTheChannels : Prop :=
  (∀ s : State, s.running = true → 20 ≤ s.light.fadeTimer →
    exec .fadeTick s = .next { s with light := { s.light with
      fadeTimer := 0
      channels := Vector.ofFn fun n =>
        if s.params.channels[n].hosted = true ∧ s.light.channels[n].current < s.light.channels[n].target
        then { s.light.channels[n] with
          current := min (s.light.channels[n].current + s.params.channels[n].fadeStep)
            s.light.channels[n].target
          duty := if min (s.light.channels[n].current + s.params.channels[n].fadeStep)
                s.light.channels[n].target = s.light.channels[n].current
            then s.light.channels[n].duty
            else (min (s.light.channels[n].current + s.params.channels[n].fadeStep)
                s.light.channels[n].target ^ 2 + 255) / 256 }
        else if s.params.channels[n].hosted = true
          ∧ s.light.channels[n].target < s.light.channels[n].current
        then { s.light.channels[n] with
          current := max (s.light.channels[n].current - s.params.channels[n].fadeStep)
            s.light.channels[n].target
          duty := if max (s.light.channels[n].current - s.params.channels[n].fadeStep)
                s.light.channels[n].target = s.light.channels[n].current
            then s.light.channels[n].duty
            else (max (s.light.channels[n].current - s.params.channels[n].fadeStep)
                s.light.channels[n].target ^ 2 + 255) / 256 }
        else s.light.channels[n] } })
  ∧ (∀ s : State, s.running = true →
    exec .pwmCounterAdvance s = .next { s with light := { s.light with
      pwm := s.light.pwm + 1#8
      channels := Vector.ofFn fun n => { s.light.channels[n] with
        output := decide (s.params.channels[n].hosted = true ∧ (s.light.channels[n].duty = 255
          ∨ (s.light.pwm + 1#8).toNat < s.light.channels[n].duty)) } } })

/-! ## Requests and events -/

/-- Raising an event (R179, R180): a set flag stays and nothing is formed; a clear one is set and no other
changes; unless it is masked, an ALERT with the whole pending unmasked set goes to the line.

EVENTS_CLEAR (R181): every flag named in the set is clear and every other stays; the outcome is DONE, and the
REPLY carries the whole pending set that is left. Nothing else changes, in any stage or mode.

DIAG_QUERY (R182): a page of 3 or more is refused and reads no counter; page 0, 1 or 2 is answered with its
number and its four counters, which are then 0, before the REPLY goes to the line; no other counter
changes. -/
def Obligations.EventsAndCountersAreAnswered : Prop :=
  (∀ (s : State) (e : Event), s.boot.station ≠ 0#4 →
    (inSet s.event.flags e = true → raiseEvent e s = s)
    ∧ (inSet s.event.flags e = false →
      (∀ k : Event, inSet (raiseEvent e s).event.flags k
        = (decide (k = e) || inSet s.event.flags k))
      ∧ (raiseEvent e s).event.mask = s.event.mask
      ∧ (inSet s.event.mask e = true → (raiseEvent e s).line = s.line)
      ∧ (inSet s.event.mask e = false → (raiseEvent e s).line
          = beginFrame (takeTelegram s.line (telegramOf .alert s.boot.station
              (wordBytes ((raiseEvent e s).event.flags &&& ~~~s.event.mask)))))))
  ∧ (∀ (s : State) (rq : Requester) (set : Word), takesRequests s = true →
    exec (.eventsClear rq set) s = .next (answered
      { s with event := { s.event with flags := s.event.flags &&& ~~~set } } rq .done
      (wordBytes (s.event.flags &&& ~~~set))))
  ∧ (∀ (s : State) (rq : Requester) (page : Byte), takesRequests s = true →
    (3 ≤ page.toNat → exec (.diagQuery rq page) s = .next (answered s rq .badRequest []))
    ∧ (page = 0#8 → exec (.diagQuery rq page) s = .next (answered
        { s with line := { s.line with rxCheck := 0, rxFormat := 0, rxClash := 0
                                       contentionLosses := 0 } } rq .done
        ([0#8] ++ natBytes s.line.rxCheck ++ natBytes s.line.rxFormat ++ natBytes s.line.rxClash
          ++ natBytes s.line.contentionLosses)))
    ∧ (page = 1#8 → exec (.diagQuery rq page) s = .next (answered
        { s with line := { s.line with txCollisions := 0, txExhausted := 0, txDropped := 0 }
                 peers := { s.peers with peersLost := 0 } } rq .done
        ([1#8] ++ natBytes s.line.txCollisions ++ natBytes s.line.txExhausted
          ++ natBytes s.line.txDropped ++ natBytes s.peers.peersLost)))
    ∧ (page = 2#8 → exec (.diagQuery rq page) s = .next (answered
        { s with budget := { s.budget with levelSheds := 0, budgetSheds := 0 }
                 water := { s.water with frostDumps := 0 }
                 motion := { s.motion with actuatorFaults := 0 } } rq .done
        ([2#8] ++ natBytes s.budget.levelSheds ++ natBytes s.budget.budgetSheds
          ++ natBytes s.water.frostDumps ++ natBytes s.motion.actuatorFaults))))

/-- REQUEST_OTHER (R175, R176): a REQUEST for another station, or to a station that takes none, changes nothing;
an unknown code and a wrong argument count are answered BAD-REQUEST; and a whole REQUEST with a code of the
table does what its owner's own command does. (That REQUEST_OTHER carries a whole REQUEST, and a known one
has its own effect, is log entry 4.) -/
def Obligations.RequestsReachTheirOwners : Prop :=
  ∀ (s : State) (origin : Station) (target tag code : Byte) (args : List Byte),
    (takesRequests s = false ∨ target.toNat ≠ s.boot.station.toNat →
      exec (.requestOther origin (target :: tag :: code :: args)) s = .next s)
    ∧ (takesRequests s = true → target.toNat = s.boot.station.toNat →
      (code = 0#8 ∨ 0x0B < code.toNat
          ∨ (code.toNat, args.length) ∉ [(1, 4), (2, 3), (3, 2), (4, 1), (5, 2), (6, 1), (7, 1),
              (8, 0), (9, 2), (10, 1), (11, 1)] →
        exec (.requestOther origin (target :: tag :: code :: args)) s
          = .next (answered s { origin := origin, tag := tag } .badRequest []))
      ∧ (∀ a b c d : Byte, ∀ i : Instr, (code.toNat, args, i) ∈
          [(1, [a, b, c, d], Instr.zoneSet { origin := origin, tag := tag } a b (c ++ d)),
           (2, [a, b, c], Instr.lightSet { origin := origin, tag := tag } a b c),
           (3, [a, b], Instr.move { origin := origin, tag := tag } a b),
           (4, [a], Instr.halt { origin := origin, tag := tag } a),
           (5, [a, b], Instr.holdSet { origin := origin, tag := tag } a b),
           (6, [a], Instr.faultClear { origin := origin, tag := tag } a),
           (7, [a], Instr.pumpSet { origin := origin, tag := tag } a),
           (8, [], Instr.valveClose { origin := origin, tag := tag }),
           (9, [a, b], Instr.eventsClear { origin := origin, tag := tag } (a ++ b)),
           (10, [a], Instr.storageSet { origin := origin, tag := tag } a),
           (11, [a], Instr.diagQuery { origin := origin, tag := tag } a)] →
        exec (.requestOther origin (target :: tag :: code :: args)) s = exec i s))

/-! ## Status telegrams -/

/-- BATTERY_PERIOD (R21, R22): the BATTERY with the monitor's figures is handed to the line and the period
restarts; an unconfigured station forms none. Nothing else changes. (That its period restarts all the same is
the model's choice, log entry 18.)

CLAIM_DUE and CLAIM_HEARTBEAT (R66, R67): a CLAIM with the four own totals and the pending unmasked set is
handed to the line, the CLAIM timer restarts and nothing is due; nothing else changes.

TANKS_DUE and TANKS_HEARTBEAT (R108, R109): a station that hosts a water function hands the line a TANKS of
its tanks, pump, heater, valve and temperature, and the TANKS timer restarts; nothing else changes. (That a
tank that is not hosted carries the level of no level is the model's reading, log entry 8.) -/
def Obligations.DueTelegramsCarryTheFigures : Prop :=
  (∀ (s : State) (p : BankParams), s.running = true → s.params.bank = some p →
    1000 ≤ s.bank.batteryTimer →
    (s.boot.station = 0#4 → exec .batteryPeriod s
      = .next { s with bank := { s.bank with batteryTimer := 0 } })
    ∧ (s.boot.station ≠ 0#4 → exec .batteryPeriod s = .next { s with
        bank := { s.bank with batteryTimer := 0 }
        line := beginFrame (takeTelegram s.line (telegramOf .battery s.boot.station
          ([(if p.letter = .b then 0x01#8 else 0x00#8)
              ||| (if s.bank.estimated then 0x40#8 else 0x00#8)
              ||| (if s.bank.quiet then 0x80#8 else 0x00#8)]
            ++ wordBytes (BitVec.ofNat 16 s.bank.soc) ++ wordBytes (BitVec.ofInt 16 s.bank.current)
            ++ wordBytes (BitVec.ofNat 16 s.bank.voltage) ++ wordBytes (BitVec.ofInt 16 s.bank.temp)
            ++ wordBytes (BitVec.ofNat 16 p.limit)))) }))
  ∧ (∀ (c : Instr) (s : State), s.running = true → s.boot.station ≠ 0#4 →
    (c = .claimDue ∧ s.budget.claimDue = true ∧ 200 ≤ s.budget.claimTimer
      ∨ c = .claimHeartbeat ∧ 2000 ≤ s.budget.claimTimer) →
    exec c s = .next { s with
      budget := { s.budget with claimTimer := 0, claimDue := false }
      line := beginFrame (takeTelegram s.line (telegramOf .claim s.boot.station
        (wordBytes (BitVec.ofNat 16 (min s.budget.own.c0 65535))
          ++ wordBytes (BitVec.ofNat 16 (min s.budget.own.c1 65535))
          ++ wordBytes (BitVec.ofNat 16 (min s.budget.own.c2 65535))
          ++ wordBytes (BitVec.ofNat 16 (min s.budget.own.c3 65535))
          ++ wordBytes (s.event.flags &&& ~~~s.event.mask)))) })
  ∧ (∀ (c : Instr) (s : State), s.running = true → s.boot.station ≠ 0#4 →
    (s.params.water.fresh.hosted = true ∨ s.params.water.grey.hosted = true
      ∨ s.params.water.black.hosted = true ∨ s.params.water.pump = true
      ∨ s.params.water.frost = true) →
    (c = .tanksDue ∧ s.water.tanksDue = true ∧ 200 ≤ s.water.tanksTimer
      ∨ c = .tanksHeartbeat ∧ 5000 ≤ s.water.tanksTimer) →
    let tank : Bool → Tank → List Byte := fun hosted x =>
      if hosted then
        (match x.state with
          | .normal => 1#8
          | .low => 2#8
          | .empty => 3#8
          | .high => 4#8
          | .full => 5#8
          | .fault => 6#8) :: wordBytes (match x.filtered with
          | none => 0xFFFF#16
          | some level => BitVec.ofNat 16 level)
      else [0x00#8, 0xFF#8, 0xFF#8]
    let load : LoadState → BitVec 3 := fun l =>
      match l with
      | .off => 1#3
      | .waiting => 2#3
      | .admitted => 3#3
      | .shed _ | .reduced _ => 4#3
    let pump : BitVec 3 :=
      if s.params.water.pump = false then 0#3
      else if s.water.pump.dryLock then 6#3
      else if s.water.pump.disabled ∨ s.water.fresh.state = .empty ∨ s.water.grey.state = .full
        ∨ s.water.peerGreyFull ∨ s.water.frost.valveOpen ∨ s.boot.storage then 5#3
      else load s.water.pump.load
    let heater : BitVec 3 := if s.params.water.frost then load s.water.frost.load else 0#3
    let valve : BitVec 2 :=
      if s.params.water.frost then (if s.water.frost.valveOpen then 2#2 else 1#2) else 0#2
    let temp : Word :=
      if s.params.water.frost then
        (if s.water.frost.faulted then 0x7FFF#16
         else match s.water.frost.temp with
          | none => 0x8000#16
          | some x => BitVec.ofInt 16 x)
      else 0x8000#16
    exec c s = .next { s with
      water := { s.water with tanksTimer := 0, tanksDue := false }
      line := beginFrame (takeTelegram s.line (telegramOf .tanks s.boot.station
        (tank s.params.water.fresh.hosted s.water.fresh
          ++ tank s.params.water.grey.hosted s.water.grey
          ++ tank s.params.water.black.hosted s.water.black
          ++ [pump ++ heater ++ valve] ++ wordBytes temp))) })

/-- A change is reported (R49, R66, R108, R139), by any command that leaves a running station running, a REQUEST's
frame apart, which does what REQUEST_OTHER does.

MOTION: where the state, the fault set or the hold of a hosted actuator has changed, a MOTION with the actuators as
the command leaves them is handed to the line, and the MOTION timer restarts.

TANKS: where a tracked state has changed, with the spacing over a TANKS is handed to the line, with the water
controller as the command leaves it unless another is due; otherwise a TANKS becomes due.

CLAIM: where an own total has changed, with the spacing over a CLAIM is handed to the line, with the totals as the
command leaves them unless another is due; otherwise a CLAIM becomes due. -/
def Obligations.ChangesAreReported : Prop :=
  ∀ (c : Instr) (s t : State), s.running = true → t.running = true → s.boot.station ≠ 0#4 →
    exec c s = .next t →
    (∀ h payload check, c = .frameReceived h payload check →
      kindOfCode (headerKind h) ≠ some .request) →
    ((∃ a : Actuator, (s.params.actuator a).hosted = true
        ∧ trackedAct t a ≠ trackedAct s a) →
      t.motion.motionTimer = 0
      ∧ ∃ drawn : Nat, HandedAmong s.boot.station (lineAtHandover c s) t.line .motion
          (motionPayload { t with freeCount := drawn }))
    ∧ (hostsWater s.params = true → trackedWater t ≠ trackedWater s →
      (s.water.tanksTimer < 200 → t.water.tanksDue = true)
      ∧ (200 ≤ s.water.tanksTimer → t.water.tanksTimer = 0 ∧ ∃ payload : List Byte,
          HandedAmong s.boot.station (lineAtHandover c s) t.line .tanks payload
          ∧ (t.water.tanksDue = false → payload = tanksPayload t)))
    ∧ (t.budget.own ≠ s.budget.own →
      (s.budget.claimTimer < 200 → t.budget.claimDue = true)
      ∧ (200 ≤ s.budget.claimTimer → t.budget.claimTimer = 0
        ∧ ∃ (own : PerClass Nat) (pending : Word),
          HandedAmong s.boot.station (lineAtHandover c s) t.line .claim
            (natBytes (min own.c0 65535) ++ natBytes (min own.c1 65535)
              ++ natBytes (min own.c2 65535) ++ natBytes (min own.c3 65535) ++ wordBytes pending)
          ∧ (t.budget.claimDue = false → own = t.budget.own)))

/-! ## Line interface -/

/-- LINE_IDLE (R159, R162, R168), while this station drives no frame: a frame still being received is counted as
ended early and the receiver waits; with an empty queue the line stands IDLE, and otherwise a frame begins
with the entry of the lowest header and, among equal headers, of the oldest age. Nothing else changes. (That
LINE_IDLE itself counts the early end, and comes only while this station drives no frame, is log entry 12.)

LINE_FALLING_EDGE and RECEIVE_ERROR (R159, R168): an edge on an IDLE line makes it BUSY and the receiver
RECEIVING; a malformed cell or an early end counts rx_check, a length above 12 counts rx_format, and the
rest of the frame is discarded. Nothing else changes. -/
def Obligations.LineAndReceiverFollowTheLine : Prop :=
  (∀ s : State, s.running = true → s.line.sender = .idle → s.line.register = none →
    ∀ early : Nat, early = (if s.line.receiver = .receiving then min 65535 (s.line.rxCheck + 1)
      else s.line.rxCheck) →
    (s.line.queue = [] → exec .lineIdle s = .next { s with line := { s.line with
        idle := true, receiver := .waiting, rxCheck := early } })
    ∧ (s.line.queue ≠ [] → ∃ e : TxEntry, GoesFirst s.line.queue e
      ∧ exec .lineIdle s = .next { s with line := { s.line with
          idle := false, receiver := .receiving, rxCheck := early, sender := .header, sentCells := 0
          register := some e, queue := s.line.queue.erase e } }))
  ∧ (∀ s : State, s.running = true →
    (s.line.idle = true → exec .lineFallingEdge s
      = .next { s with line := { s.line with idle := false, receiver := .receiving } })
    ∧ (s.line.idle = false → exec .lineFallingEdge s = .next s)
    ∧ (s.line.receiver = .receiving →
      (∀ f : ReceiveFault, f = .malformedCell ∨ f = .earlyEnd → exec (.receiveError f) s
        = .next { s with line := { s.line with
            receiver := .discarding, rxCheck := min 65535 (s.line.rxCheck + 1) } })
      ∧ exec (.receiveError .lengthAbove12) s = .next { s with line := { s.line with
            receiver := .discarding, rxFormat := min 65535 (s.line.rxFormat + 1) } }))

/-- FRAME_RECEIVED of a frame that fails a check (R161, R169, R171), the first that fails deciding: a wrong check
byte, a wrong form or length, origin 0, and the own origin, which raises CLASH. It reaches no block. (That the
receiver is then DISCARDING until the line is IDLE is log entry 12.) -/
def Obligations.BadFramesAreCountedAndDropped : Prop :=
  ∀ (s : State) (h : Word) (payload : List Byte) (check : Byte), s.running = true →
    s.line.receiver = .receiving → s.line.sender = .idle →
    payload.length = (h.extractLsb' 0 4).toNat →
    (checkByte h payload ≠ check → exec (.frameReceived h payload check) s
      = .next { s with line := { s.line with
          receiver := .discarding, rxCheck := min 65535 (s.line.rxCheck + 1) } })
    ∧ (checkByte h payload = check →
      (h.extractLsb' 14 2 ≠ h.extractLsb' 12 2
          ∨ (h.extractLsb' 8 6, payload.length) ∈
              ([0x05#6, 0x06#6, 0x07#6, 0x18#6, 0x19#6, 0x1A#6, 0x24#6, 0x25#6, 0x26#6, 0x31#6,
                0x32#6, 0x33#6].product (List.range 16))
            ∧ (h.extractLsb' 8 6, payload.length) ∉
              [(0x05#6, 2), (0x06#6, 1), (0x07#6, 1), (0x1A#6, 1), (0x24#6, 5), (0x25#6, 11),
               (0x26#6, 10), (0x31#6, 11), (0x32#6, 12), (0x33#6, 12)]
                ++ ([0x18#6, 0x19#6].product [3, 4, 5, 6, 7, 8, 9, 10, 11, 12])
          ∨ h.extractLsb' 4 4 = 0#4 →
        exec (.frameReceived h payload check) s = .next { s with line := { s.line with
          receiver := .discarding, rxFormat := min 65535 (s.line.rxFormat + 1) } }))
    ∧ (checkByte h payload = check → badForm h payload = false → h.extractLsb' 4 4 ≠ 0#4 →
      h.extractLsb' 4 4 = s.boot.station →
      ∃ t : State, exec (.frameReceived h payload check) s = .next t
        ∧ t.line.rxClash = min 65535 (s.line.rxClash + 1)
        ∧ inSet t.event.flags .clash = true
        ∧ (∀ b : Block, b ∉ [Block.line, .event] → blockSame s t b))

/-- CONTENTION_LOSS (R163) in the header and TX_COLLISION (R164) anywhere in the frame: the sender stops and its
register is empty. A lost contention is counted and the telegram returns as it was; a collision is counted,
and the telegram returns one attempt on, or at its fifth is dropped and counted. Nothing else changes. Outside
the header no contention is lost. (That a collision is taken in HEADER as in BODY is log entry 13.)

FRAME_SENT (R165): the send register is empty, the sender is IDLE and the telegram is gone; the line stays as
it was, so the next frame waits for IDLE; nothing is counted and no block hears of it. (That it is taken in HEADER
as in BODY is log entry 13; what the receiver then is, log entry 12.) -/
def Obligations.SenderEndsItsFrame : Prop :=
  (∀ (s : State) (e : TxEntry), s.running = true → s.line.register = some e →
    (s.line.sender = .header → exec .contentionLoss s = .next { s with
      line := returnTelegram { s.line with
        register := none, sender := .idle
        contentionLosses := min 65535 (s.line.contentionLosses + 1) } e })
    ∧ (s.line.sender ≠ .header → exec .contentionLoss s = .next s)
    ∧ (s.line.sender ≠ .idle →
      (e.attempts < 4 → exec .txCollision s = .next { s with
        line := returnTelegram { s.line with
          register := none, sender := .idle
          txCollisions := min 65535 (s.line.txCollisions + 1) }
          { e with attempts := e.attempts + 1 } })
      ∧ (4 ≤ e.attempts → exec .txCollision s = .next { s with line := { s.line with
          register := none, sender := .idle
          txCollisions := min 65535 (s.line.txCollisions + 1)
          txExhausted := min 65535 (s.line.txExhausted + 1) } })))
  ∧ (∀ s : State, s.running = true → s.line.sender ≠ .idle →
    ∃ r : Receiver, r ≠ .receiving ∧ exec .frameSent s = .next { s with line := { s.line with
      register := none, sender := .idle, receiver := r } })

/-- The table of the transmit queue (R166), its first line that applies: a queued entry of one of the six kinds
takes the new content at its place; a status telegram finds room below 6; any other finds room below 8; at
8 a REPLY, ALERT, CLAIM or BATTERY displaces the oldest status entry; and the rest is dropped.

A telegram that leaves the send register unsent (R167): a queued entry of its kind, if it is one of the six,
discards it without a count; otherwise it goes by the table, keeping its own age and attempt count. Both keep
the queue at no more than 8 entries, and no more than one of each of the six kinds. (That the age is the number
of the handover, which goes on at every one, is log entry 11.) -/
def Obligations.TransmitQueueFollowsItsTable : Prop :=
  (∀ (l : Line) (t : Telegram),
    let single : Bool := decide (t.kind ∈ [Kind.claim, .battery, .motion, .tanks, .climate, .alert])
    let status : Bool := decide (t.kind ∈ [Kind.motion, .tanks, .climate])
    let pushes : Bool := decide (t.kind ∈ [Kind.reply, .alert, .claim, .battery])
    let present : Prop := ∃ e ∈ l.queue, e.telegram.kind = t.kind
    let new : TxEntry := { telegram := t, age := l.nextAge, attempts := 0 }
    let l1 : Line := { l with nextAge := l.nextAge + 1 }
    (single = true → present → takeTelegram l t = { l1 with queue := l.queue.map fun e =>
        if e.telegram.kind = t.kind then
          { telegram := t, age := e.age, attempts := e.attempts } else e })
    ∧ (single = false ∨ ¬ present →
      (status = true → 6 ≤ l.queue.length →
        takeTelegram l t = { l1 with txDropped := min 65535 (l.txDropped + 1) })
      ∧ (status = true ∧ l.queue.length < 6 ∨ status = false ∧ l.queue.length < 8 →
        takeTelegram l t = { l1 with queue := l.queue ++ [new] })
      ∧ (pushes = true → 8 ≤ l.queue.length →
        (∃ e ∈ l.queue, isStatus e.telegram.kind = true) → ∃ old : TxEntry,
          IsOldestStatus l.queue old ∧ takeTelegram l t = { l1 with
            queue := l.queue.erase old ++ [new], txDropped := min 65535 (l.txDropped + 1) })
      ∧ (8 ≤ l.queue.length →
        pushes = false ∨ (∀ e ∈ l.queue, isStatus e.telegram.kind = false) →
        takeTelegram l t = { l1 with txDropped := min 65535 (l.txDropped + 1) })))
  ∧ (∀ (l : Line) (e : TxEntry),
    let single : Bool :=
      decide (e.telegram.kind ∈ [Kind.claim, .battery, .motion, .tanks, .climate, .alert])
    let status : Bool := decide (e.telegram.kind ∈ [Kind.motion, .tanks, .climate])
    let pushes : Bool := decide (e.telegram.kind ∈ [Kind.reply, .alert, .claim, .battery])
    let present : Prop := ∃ x ∈ l.queue, x.telegram.kind = e.telegram.kind
    (single = true → present → returnTelegram l e = l)
    ∧ (single = false ∨ ¬ present →
      (status = true → 6 ≤ l.queue.length →
        returnTelegram l e = { l with txDropped := min 65535 (l.txDropped + 1) })
      ∧ (status = true ∧ l.queue.length < 6 ∨ status = false ∧ l.queue.length < 8 →
        returnTelegram l e = { l with queue := l.queue ++ [e] })
      ∧ (pushes = true → 8 ≤ l.queue.length →
        (∃ x ∈ l.queue, isStatus x.telegram.kind = true) → ∃ old : TxEntry,
          IsOldestStatus l.queue old ∧ returnTelegram l e = { l with
            queue := l.queue.erase old ++ [e], txDropped := min 65535 (l.txDropped + 1) })
      ∧ (8 ≤ l.queue.length →
        pushes = false ∨ (∀ x ∈ l.queue, isStatus x.telegram.kind = false) →
        returnTelegram l e = { l with txDropped := min 65535 (l.txDropped + 1) })))
  ∧ (∀ (l : Line) (t : Telegram) (e : TxEntry) (m : Line), l.queue.length ≤ 8 →
    (∀ k ∈ singleKinds, countKind l.queue k ≤ 1) →
    m = takeTelegram l t ∨ m = returnTelegram l e →
    m.queue.length ≤ 8 ∧ ∀ k ∈ singleKinds, countKind m.queue k ≤ 1)

/-- The check byte (R161) closes its frame: run on over the check byte itself, the register comes to 0, and a
frame with another check byte does not. -/
def Obligations.CheckByteClosesTheFrame : Prop :=
  ∀ (h : Word) (payload : List Byte) (check : Byte),
    (wordBytes h ++ payload ++ [check]).foldl crcByte 0xFF#8 = 0#8 ↔ check = checkByte h payload
end

