-- ==== Sys2Proof/Laws/Checks.lean ====
section
/-! SUPPORT. Sound states, shown of one state by evaluation: for each part of `Sound` that quantifies over more
than finitely many cases, a Boolean check that implies it. -/

namespace Sys2Proof.Machine

/-- A record is sound, evaluated. -/
def recordCheck (s : State) (i : Fin 17) : Bool :=
  let r := s.budget.loads[i]
  (r.hold.isSome == (r.state == .shed .budget))
  && r.claim == claimOf s i r.state
  && decide (i ∈ s.budget.retry) == waitsInList r.state
  && decide (i ∈ s.budget.admitted) == drawsCurrent r.state
  && classAllowed i r.cls
  && ((r.cls != .c0 && sheddable i) || r.state == .off || r.state == .admitted)
  && ((r.state != .reduced .level && r.state != .reduced .budget) || isLight i)
  && (s.budget.gateOpen || r.cls == .c0 || !drawsCurrent r.state)
  && (!perClass s.budget.shed r.cls || !sheddable i || (r.state != .admitted && !waitsInList r.state))

/-- The budget unit is sound, evaluated. -/
def budgetCheck (s : State) : Bool :=
  (List.finRange 17).all (recordCheck s)
  && decide (s.budget.retry.Nodup) && decide (s.budget.admitted.Nodup)
  && decide (s.budget.retry.Pairwise fun i j =>
      classNum s.budget.loads[i].cls ≤ classNum s.budget.loads[j].cls)
  && s.budget.own == ownTotals s.budget.loads && !s.budget.shed.c0

theorem budgetOk_of_check (s : State) (h : budgetCheck s = true) : BudgetOk s := by
  simp only [budgetCheck, Bool.and_eq_true, List.all_eq_true, decide_eq_true_eq,
    beq_iff_eq, Bool.not_eq_true'] at h
  obtain ⟨⟨⟨⟨⟨h1, h2⟩, h3⟩, h4⟩, h5⟩, h6⟩ := h
  refine ⟨fun i => ?_, h2, h3, h4, h5, h6⟩
  have hi := h1 i (List.mem_finRange i)
  simp only [recordCheck, Bool.and_eq_true, Bool.or_eq_true, bne_iff_ne, beq_iff_eq,
    Bool.not_eq_true', ne_eq] at hi
  obtain ⟨⟨⟨⟨⟨⟨⟨⟨a, b⟩, c⟩, d⟩, e⟩, f⟩, g⟩, k⟩, m⟩ := hi
  refine ⟨⟨?_, b, ?_, ?_⟩, ⟨e, ?_, ?_⟩, ?_, ?_⟩
  · rw [a]; simp
  · rw [← c]; simp
  · rw [← d]; simp
  · intro hc
    rcases f with (⟨f1, f2⟩ | f) | f
    · rcases hc with hc | hc
      · exact absurd hc f1
      · simp [f2] at hc
    · exact Or.inl f
    · exact Or.inr f
  · intro r hr
    rcases g with ⟨g1, g2⟩ | g
    · cases r
      · exact absurd hr g1
      · exact absurd hr g2
    · exact g
  · intro hg hc
    rcases k with (k | k) | k
    · simp [hg] at k
    · exact absurd k hc
    · exact k
  · intro hs hsh
    rcases m with (m | m) | m
    · exact absurd (hs.symm.trans m) (by decide)
    · simp [hsh] at m
    · exact m

/-- The controllers agree with the load table, the pump with its blocks, and the lights with storage mode. -/
def controllersCheck (s : State) : Bool :=
  ((List.finRange 8).all fun n => s.light.channels[n].load == s.budget.loads[n.val].state)
  && ((List.finRange 4).all fun n => s.zone.zones[n].load == s.budget.loads[8 + n.val].state)
  && s.water.frost.load == s.budget.loads[12].state
  && s.water.pump.load == s.budget.loads[13].state
  && s.water.frost.valveOpen == (s.budget.loads[14].state == .admitted)
  && (!(pumpBlocked s || !s.params.water.pump) || s.water.pump.load == .off)
  && s.water.pump.output == (s.water.pump.load == .admitted)
  && (!s.running || s.light.forcedOff == s.boot.storage)
  && ((List.finRange 8).all fun n =>
    !(s.light.forcedOff || !s.params.channels[n].hosted) || s.budget.loads[n.val].state == .off)

/-- What the premises of the statements about commands that move loads ask of a state. -/
def LoadsSound (s : State) : Prop := BudgetOk s ∧ MirrorOk s ∧ PumpOk s ∧ StorageOk s

theorem loadsSound_of_checks (s : State) (h : budgetCheck s = true) (k : controllersCheck s = true) :
    LoadsSound s := by
  simp only [controllersCheck, Bool.and_eq_true, Bool.or_eq_true, Bool.not_eq_true', Bool.or_eq_false_iff,
    List.all_eq_true, beq_iff_eq] at k
  obtain ⟨⟨⟨⟨⟨⟨⟨⟨a, b⟩, c⟩, d⟩, e⟩, f⟩, g⟩, m⟩, n⟩ := k
  refine ⟨budgetOk_of_check s h, ⟨fun x => a x (List.mem_finRange x), fun x => b x (List.mem_finRange x), c, d,
    by rw [e]; simp⟩, ⟨?_, g⟩, ⟨?_, ?_⟩⟩
  · rintro (hb | hb)
    · rcases f with f | f
      · exact absurd (hb.symm.trans f.1) (by decide)
      · exact f
    · rcases f with f | f
      · rw [hb] at f; exact absurd f.2 (by decide)
      · exact f
  · intro hr
    rcases m with m | m
    · exact absurd (hr.symm.trans m) (by decide)
    · exact m
  · intro x hx
    rcases n x (List.mem_finRange x) with hn | hn
    · rcases hx with hx | hx
      · exact absurd (hx.symm.trans hn.1) (by decide)
      · have h2 := hn.2
        rw [hx] at h2
        exact absurd h2 (by decide)
    · exact hn

end Sys2Proof.Machine
end

