-- ==== Sys2Proof/Laws/State.lean ====
section
/-! SUPPORT. One lemma for each field of the state under each setter of one block. -/

namespace Sys2Proof.Machine

/-! ## setBoot -/

section
variable (s : State) (x : Boot)

@[simp] theorem State.setBoot_boot : (s.setBoot x).boot = x := rfl
@[simp] theorem State.setBoot_params : (s.setBoot x).params = s.params := rfl
@[simp] theorem State.setBoot_bank : (s.setBoot x).bank = s.bank := rfl
@[simp] theorem State.setBoot_peers : (s.setBoot x).peers = s.peers := rfl
@[simp] theorem State.setBoot_budget : (s.setBoot x).budget = s.budget := rfl
@[simp] theorem State.setBoot_zone : (s.setBoot x).zone = s.zone := rfl
@[simp] theorem State.setBoot_water : (s.setBoot x).water = s.water := rfl
@[simp] theorem State.setBoot_motion : (s.setBoot x).motion = s.motion := rfl
@[simp] theorem State.setBoot_light : (s.setBoot x).light = s.light := rfl
@[simp] theorem State.setBoot_line : (s.setBoot x).line = s.line := rfl
@[simp] theorem State.setBoot_event : (s.setBoot x).event = s.event := rfl
@[simp] theorem State.setBoot_clock : (s.setBoot x).clock = s.clock := rfl
@[simp] theorem State.setBoot_cells : (s.setBoot x).cells = s.cells := rfl
@[simp] theorem State.setBoot_freeCount : (s.setBoot x).freeCount = s.freeCount := rfl
@[simp] theorem State.setBoot_pending : (s.setBoot x).pending = s.pending := rfl
@[simp] theorem State.setBoot_setBoot (y : Boot) : (s.setBoot x).setBoot y = s.setBoot y := rfl

end

/-! ## setBank -/

section
variable (s : State) (x : Bank)

@[simp] theorem State.setBank_boot : (s.setBank x).boot = s.boot := rfl
@[simp] theorem State.setBank_params : (s.setBank x).params = s.params := rfl
@[simp] theorem State.setBank_bank : (s.setBank x).bank = x := rfl
@[simp] theorem State.setBank_peers : (s.setBank x).peers = s.peers := rfl
@[simp] theorem State.setBank_budget : (s.setBank x).budget = s.budget := rfl
@[simp] theorem State.setBank_zone : (s.setBank x).zone = s.zone := rfl
@[simp] theorem State.setBank_water : (s.setBank x).water = s.water := rfl
@[simp] theorem State.setBank_motion : (s.setBank x).motion = s.motion := rfl
@[simp] theorem State.setBank_light : (s.setBank x).light = s.light := rfl
@[simp] theorem State.setBank_line : (s.setBank x).line = s.line := rfl
@[simp] theorem State.setBank_event : (s.setBank x).event = s.event := rfl
@[simp] theorem State.setBank_clock : (s.setBank x).clock = s.clock := rfl
@[simp] theorem State.setBank_cells : (s.setBank x).cells = s.cells := rfl
@[simp] theorem State.setBank_freeCount : (s.setBank x).freeCount = s.freeCount := rfl
@[simp] theorem State.setBank_pending : (s.setBank x).pending = s.pending := rfl
@[simp] theorem State.setBank_setBank (y : Bank) : (s.setBank x).setBank y = s.setBank y := rfl

end

/-! ## setPeers -/

section
variable (s : State) (x : Peers)

@[simp] theorem State.setPeers_boot : (s.setPeers x).boot = s.boot := rfl
@[simp] theorem State.setPeers_params : (s.setPeers x).params = s.params := rfl
@[simp] theorem State.setPeers_bank : (s.setPeers x).bank = s.bank := rfl
@[simp] theorem State.setPeers_peers : (s.setPeers x).peers = x := rfl
@[simp] theorem State.setPeers_budget : (s.setPeers x).budget = s.budget := rfl
@[simp] theorem State.setPeers_zone : (s.setPeers x).zone = s.zone := rfl
@[simp] theorem State.setPeers_water : (s.setPeers x).water = s.water := rfl
@[simp] theorem State.setPeers_motion : (s.setPeers x).motion = s.motion := rfl
@[simp] theorem State.setPeers_light : (s.setPeers x).light = s.light := rfl
@[simp] theorem State.setPeers_line : (s.setPeers x).line = s.line := rfl
@[simp] theorem State.setPeers_event : (s.setPeers x).event = s.event := rfl
@[simp] theorem State.setPeers_clock : (s.setPeers x).clock = s.clock := rfl
@[simp] theorem State.setPeers_cells : (s.setPeers x).cells = s.cells := rfl
@[simp] theorem State.setPeers_freeCount : (s.setPeers x).freeCount = s.freeCount := rfl
@[simp] theorem State.setPeers_pending : (s.setPeers x).pending = s.pending := rfl
@[simp] theorem State.setPeers_setPeers (y : Peers) : (s.setPeers x).setPeers y = s.setPeers y := rfl

end

/-! ## setBudget -/

section
variable (s : State) (x : Budget)

@[simp] theorem State.setBudget_boot : (s.setBudget x).boot = s.boot := rfl
@[simp] theorem State.setBudget_params : (s.setBudget x).params = s.params := rfl
@[simp] theorem State.setBudget_bank : (s.setBudget x).bank = s.bank := rfl
@[simp] theorem State.setBudget_peers : (s.setBudget x).peers = s.peers := rfl
@[simp] theorem State.setBudget_budget : (s.setBudget x).budget = x := rfl
@[simp] theorem State.setBudget_zone : (s.setBudget x).zone = s.zone := rfl
@[simp] theorem State.setBudget_water : (s.setBudget x).water = s.water := rfl
@[simp] theorem State.setBudget_motion : (s.setBudget x).motion = s.motion := rfl
@[simp] theorem State.setBudget_light : (s.setBudget x).light = s.light := rfl
@[simp] theorem State.setBudget_line : (s.setBudget x).line = s.line := rfl
@[simp] theorem State.setBudget_event : (s.setBudget x).event = s.event := rfl
@[simp] theorem State.setBudget_clock : (s.setBudget x).clock = s.clock := rfl
@[simp] theorem State.setBudget_cells : (s.setBudget x).cells = s.cells := rfl
@[simp] theorem State.setBudget_freeCount : (s.setBudget x).freeCount = s.freeCount := rfl
@[simp] theorem State.setBudget_pending : (s.setBudget x).pending = s.pending := rfl
@[simp] theorem State.setBudget_setBudget (y : Budget) : (s.setBudget x).setBudget y = s.setBudget y := rfl

end

/-! ## setZone -/

section
variable (s : State) (x : ZoneCtl)

@[simp] theorem State.setZone_boot : (s.setZone x).boot = s.boot := rfl
@[simp] theorem State.setZone_params : (s.setZone x).params = s.params := rfl
@[simp] theorem State.setZone_bank : (s.setZone x).bank = s.bank := rfl
@[simp] theorem State.setZone_peers : (s.setZone x).peers = s.peers := rfl
@[simp] theorem State.setZone_budget : (s.setZone x).budget = s.budget := rfl
@[simp] theorem State.setZone_zone : (s.setZone x).zone = x := rfl
@[simp] theorem State.setZone_water : (s.setZone x).water = s.water := rfl
@[simp] theorem State.setZone_motion : (s.setZone x).motion = s.motion := rfl
@[simp] theorem State.setZone_light : (s.setZone x).light = s.light := rfl
@[simp] theorem State.setZone_line : (s.setZone x).line = s.line := rfl
@[simp] theorem State.setZone_event : (s.setZone x).event = s.event := rfl
@[simp] theorem State.setZone_clock : (s.setZone x).clock = s.clock := rfl
@[simp] theorem State.setZone_cells : (s.setZone x).cells = s.cells := rfl
@[simp] theorem State.setZone_freeCount : (s.setZone x).freeCount = s.freeCount := rfl
@[simp] theorem State.setZone_pending : (s.setZone x).pending = s.pending := rfl
@[simp] theorem State.setZone_setZone (y : ZoneCtl) : (s.setZone x).setZone y = s.setZone y := rfl

end

/-! ## setWater -/

section
variable (s : State) (x : Water)

@[simp] theorem State.setWater_boot : (s.setWater x).boot = s.boot := rfl
@[simp] theorem State.setWater_params : (s.setWater x).params = s.params := rfl
@[simp] theorem State.setWater_bank : (s.setWater x).bank = s.bank := rfl
@[simp] theorem State.setWater_peers : (s.setWater x).peers = s.peers := rfl
@[simp] theorem State.setWater_budget : (s.setWater x).budget = s.budget := rfl
@[simp] theorem State.setWater_zone : (s.setWater x).zone = s.zone := rfl
@[simp] theorem State.setWater_water : (s.setWater x).water = x := rfl
@[simp] theorem State.setWater_motion : (s.setWater x).motion = s.motion := rfl
@[simp] theorem State.setWater_light : (s.setWater x).light = s.light := rfl
@[simp] theorem State.setWater_line : (s.setWater x).line = s.line := rfl
@[simp] theorem State.setWater_event : (s.setWater x).event = s.event := rfl
@[simp] theorem State.setWater_clock : (s.setWater x).clock = s.clock := rfl
@[simp] theorem State.setWater_cells : (s.setWater x).cells = s.cells := rfl
@[simp] theorem State.setWater_freeCount : (s.setWater x).freeCount = s.freeCount := rfl
@[simp] theorem State.setWater_pending : (s.setWater x).pending = s.pending := rfl
@[simp] theorem State.setWater_setWater (y : Water) : (s.setWater x).setWater y = s.setWater y := rfl

end

/-! ## setMotion -/

section
variable (s : State) (x : Motion)

@[simp] theorem State.setMotion_boot : (s.setMotion x).boot = s.boot := rfl
@[simp] theorem State.setMotion_params : (s.setMotion x).params = s.params := rfl
@[simp] theorem State.setMotion_bank : (s.setMotion x).bank = s.bank := rfl
@[simp] theorem State.setMotion_peers : (s.setMotion x).peers = s.peers := rfl
@[simp] theorem State.setMotion_budget : (s.setMotion x).budget = s.budget := rfl
@[simp] theorem State.setMotion_zone : (s.setMotion x).zone = s.zone := rfl
@[simp] theorem State.setMotion_water : (s.setMotion x).water = s.water := rfl
@[simp] theorem State.setMotion_motion : (s.setMotion x).motion = x := rfl
@[simp] theorem State.setMotion_light : (s.setMotion x).light = s.light := rfl
@[simp] theorem State.setMotion_line : (s.setMotion x).line = s.line := rfl
@[simp] theorem State.setMotion_event : (s.setMotion x).event = s.event := rfl
@[simp] theorem State.setMotion_clock : (s.setMotion x).clock = s.clock := rfl
@[simp] theorem State.setMotion_cells : (s.setMotion x).cells = s.cells := rfl
@[simp] theorem State.setMotion_freeCount : (s.setMotion x).freeCount = s.freeCount := rfl
@[simp] theorem State.setMotion_pending : (s.setMotion x).pending = s.pending := rfl
@[simp] theorem State.setMotion_setMotion (y : Motion) : (s.setMotion x).setMotion y = s.setMotion y := rfl

end

/-! ## setLight -/

section
variable (s : State) (x : LightCtl)

@[simp] theorem State.setLight_boot : (s.setLight x).boot = s.boot := rfl
@[simp] theorem State.setLight_params : (s.setLight x).params = s.params := rfl
@[simp] theorem State.setLight_bank : (s.setLight x).bank = s.bank := rfl
@[simp] theorem State.setLight_peers : (s.setLight x).peers = s.peers := rfl
@[simp] theorem State.setLight_budget : (s.setLight x).budget = s.budget := rfl
@[simp] theorem State.setLight_zone : (s.setLight x).zone = s.zone := rfl
@[simp] theorem State.setLight_water : (s.setLight x).water = s.water := rfl
@[simp] theorem State.setLight_motion : (s.setLight x).motion = s.motion := rfl
@[simp] theorem State.setLight_light : (s.setLight x).light = x := rfl
@[simp] theorem State.setLight_line : (s.setLight x).line = s.line := rfl
@[simp] theorem State.setLight_event : (s.setLight x).event = s.event := rfl
@[simp] theorem State.setLight_clock : (s.setLight x).clock = s.clock := rfl
@[simp] theorem State.setLight_cells : (s.setLight x).cells = s.cells := rfl
@[simp] theorem State.setLight_freeCount : (s.setLight x).freeCount = s.freeCount := rfl
@[simp] theorem State.setLight_pending : (s.setLight x).pending = s.pending := rfl
@[simp] theorem State.setLight_setLight (y : LightCtl) : (s.setLight x).setLight y = s.setLight y := rfl

end

/-! ## setLine -/

section
variable (s : State) (x : Line)

@[simp] theorem State.setLine_boot : (s.setLine x).boot = s.boot := rfl
@[simp] theorem State.setLine_params : (s.setLine x).params = s.params := rfl
@[simp] theorem State.setLine_bank : (s.setLine x).bank = s.bank := rfl
@[simp] theorem State.setLine_peers : (s.setLine x).peers = s.peers := rfl
@[simp] theorem State.setLine_budget : (s.setLine x).budget = s.budget := rfl
@[simp] theorem State.setLine_zone : (s.setLine x).zone = s.zone := rfl
@[simp] theorem State.setLine_water : (s.setLine x).water = s.water := rfl
@[simp] theorem State.setLine_motion : (s.setLine x).motion = s.motion := rfl
@[simp] theorem State.setLine_light : (s.setLine x).light = s.light := rfl
@[simp] theorem State.setLine_line : (s.setLine x).line = x := rfl
@[simp] theorem State.setLine_event : (s.setLine x).event = s.event := rfl
@[simp] theorem State.setLine_clock : (s.setLine x).clock = s.clock := rfl
@[simp] theorem State.setLine_cells : (s.setLine x).cells = s.cells := rfl
@[simp] theorem State.setLine_freeCount : (s.setLine x).freeCount = s.freeCount := rfl
@[simp] theorem State.setLine_pending : (s.setLine x).pending = s.pending := rfl
@[simp] theorem State.setLine_setLine (y : Line) : (s.setLine x).setLine y = s.setLine y := rfl

end

/-! ## setEvent -/

section
variable (s : State) (x : EventUnit)

@[simp] theorem State.setEvent_boot : (s.setEvent x).boot = s.boot := rfl
@[simp] theorem State.setEvent_params : (s.setEvent x).params = s.params := rfl
@[simp] theorem State.setEvent_bank : (s.setEvent x).bank = s.bank := rfl
@[simp] theorem State.setEvent_peers : (s.setEvent x).peers = s.peers := rfl
@[simp] theorem State.setEvent_budget : (s.setEvent x).budget = s.budget := rfl
@[simp] theorem State.setEvent_zone : (s.setEvent x).zone = s.zone := rfl
@[simp] theorem State.setEvent_water : (s.setEvent x).water = s.water := rfl
@[simp] theorem State.setEvent_motion : (s.setEvent x).motion = s.motion := rfl
@[simp] theorem State.setEvent_light : (s.setEvent x).light = s.light := rfl
@[simp] theorem State.setEvent_line : (s.setEvent x).line = s.line := rfl
@[simp] theorem State.setEvent_event : (s.setEvent x).event = x := rfl
@[simp] theorem State.setEvent_clock : (s.setEvent x).clock = s.clock := rfl
@[simp] theorem State.setEvent_cells : (s.setEvent x).cells = s.cells := rfl
@[simp] theorem State.setEvent_freeCount : (s.setEvent x).freeCount = s.freeCount := rfl
@[simp] theorem State.setEvent_pending : (s.setEvent x).pending = s.pending := rfl
@[simp] theorem State.setEvent_setEvent (y : EventUnit) : (s.setEvent x).setEvent y = s.setEvent y := rfl

end

end Sys2Proof.Machine
end

