-- ==== Sys2Proof/Laws/LoadSteps.lean ====
section
/-! SUPPORT. What an event of the budget unit is made of. Every such event, and every raising of an event
flag, is a chain of five moves: a telegram handed over, a flag set, a load record put, the class of a
motor set, and the unit's own lists and timers written. What the moves keep, every event keeps. -/

namespace Sys2Proof.Machine

/-- The fields of the budget unit that none of the moves writes: the inputs and what is computed from them,
and the gate. -/
def sameBasis (b c : Budget) : Prop :=
  c.ownBank = b.ownBank ∧ c.peerBanks = b.peerBanks ∧ c.supplySum = b.supplySum
  ∧ c.supplyKnown = b.supplyKnown ∧ c.claimSums = b.claimSums ∧ c.governing = b.governing
  ∧ c.budget = b.budget ∧ c.caps = b.caps ∧ c.gateOpen = b.gateOpen

/-- A chain of moves from one state to another. -/
inductive LoadSteps (s : State) : State → Prop where
  | refl : LoadSteps s s
  | send (t : State) (k : Kind) (p : List Byte) : LoadSteps s t → LoadSteps s (sendTelegram k p t)
  | flag (t : State) (w : Word) : LoadSteps s t →
      LoadSteps s (t.setEvent { t.event with flags := t.event.flags ||| w })
  | load (t : State) (i : Fin 17) (r : LoadRecord) : LoadSteps s t →
      r.rated = t.budget.loads[i].rated → r.cls = t.budget.loads[i].cls →
      LoadSteps s (putLoad i r t)
  | cls (t : State) (i : Fin 17) (c : LoadClass) : LoadSteps s t → LoadSteps s (setMotorClass i c t)
  | book (t : State) (b : Budget) : LoadSteps s t → b.loads = t.budget.loads →
      b.own = t.budget.own → sameBasis t.budget b → LoadSteps s (t.setBudget b)

theorem LoadSteps.trans {s t u : State} (h : LoadSteps s t) (k : LoadSteps t u) : LoadSteps s u := by
  induction k with
  | refl => exact h
  | send t k p _ ih => exact .send t k p ih
  | flag t w _ ih => exact .flag t w ih
  | load t i r _ a b ih => exact .load t i r ih a b
  | cls t i c _ ih => exact .cls t i c ih
  | book t b _ a c d ih => exact .book t b ih a c d

/-- A telegram handed over is one move. -/
theorem loadSteps_sendTelegram (k : Kind) (p : List Byte) (s : State) :
    LoadSteps s (sendTelegram k p s) := .send s k p .refl

/-- Writing the unit's lists, flags, timers or counters is one move. -/
theorem loadSteps_book (s : State) (b : Budget) (h : b.loads = s.budget.loads)
    (h' : b.own = s.budget.own) (h'' : sameBasis s.budget b) : LoadSteps s (s.setBudget b) :=
  .book s b .refl h h' h''

theorem sameBasis_refl (b : Budget) : sameBasis b b := by simp [sameBasis]

theorem loadSteps_putLoad (i : Fin 17) (r : LoadRecord) (s : State)
    (h : r.rated = s.budget.loads[i].rated) (h' : r.cls = s.budget.loads[i].cls) :
    LoadSteps s (putLoad i r s) := .load s i r .refl h h'

theorem loadSteps_sendAlert (s : State) : LoadSteps s (sendAlert s) := loadSteps_sendTelegram _ _ s

/-- An event raised sets a flag and may hand over an ALERT. -/
theorem loadSteps_raiseEvent (e : Event) (s : State) : LoadSteps s (raiseEvent e s) := by
  unfold raiseEvent
  split
  · exact .refl
  · simp only
    split
    · exact .flag s _ .refl
    · exact .send _ _ _ (.flag s _ .refl)

theorem loadSteps_leaveRetry (i : Fin 17) (s : State) : LoadSteps s (leaveRetry i s) :=
  loadSteps_book s _ rfl rfl (by simp [sameBasis])

theorem loadSteps_leaveAdmitted (i : Fin 17) (s : State) : LoadSteps s (leaveAdmitted i s) :=
  loadSteps_book s _ rfl rfl (by simp [sameBasis])

theorem loadSteps_joinAdmitted (i : Fin 17) (s : State) : LoadSteps s (joinAdmitted i s) :=
  loadSteps_book s _ rfl rfl (by simp [sameBasis])

theorem loadSteps_joinRetry (i : Fin 17) (s : State) : LoadSteps s (joinRetry i s) := by
  unfold joinRetry
  split
  · exact .refl
  · exact loadSteps_book s _ rfl rfl (by simp [sameBasis])

theorem loadSteps_admit (i : Fin 17) (s : State) : LoadSteps s (admitLoad i s) := by
  unfold admitLoad
  refine LoadSteps.trans ?_ (loadSteps_joinAdmitted i _)
  refine LoadSteps.trans ?_ (loadSteps_leaveRetry i _)
  exact loadSteps_putLoad i _ s rfl rfl

theorem loadSteps_setWaiting (i : Fin 17) (s : State) : LoadSteps s (setWaiting i s) :=
  loadSteps_putLoad i _ s rfl rfl

theorem loadSteps_wait (i : Fin 17) (s : State) : LoadSteps s (wait i s) :=
  (loadSteps_setWaiting i s).trans (loadSteps_joinRetry i _)

theorem loadSteps_shedLoad (i : Fin 17) (r : Reason) (s : State) : LoadSteps s (shedLoad i r s) := by
  unfold shedLoad
  refine LoadSteps.trans ?_ (loadSteps_leaveAdmitted i _)
  refine LoadSteps.trans ?_ (loadSteps_leaveRetry i _)
  exact loadSteps_putLoad i _ s rfl rfl

theorem loadSteps_setReduced (i : Fin 17) (r : Reason) (s : State) :
    LoadSteps s (setReduced i r s) := loadSteps_putLoad i _ s rfl rfl

theorem loadSteps_reduceLevel (i : Fin 17) (s : State) : LoadSteps s (reduceLevel i s) := by
  have h := (loadSteps_setReduced i .level s).trans (loadSteps_leaveRetry i _)
  unfold reduceLevel
  simp only
  split
  · exact h
  · exact h.trans (loadSteps_joinAdmitted i _)

theorem loadSteps_turnOff (i : Fin 17) (s : State) : LoadSteps s (turnOff i s) := by
  unfold turnOff
  refine LoadSteps.trans ?_ (loadSteps_leaveAdmitted i _)
  refine LoadSteps.trans ?_ (loadSteps_leaveRetry i _)
  exact loadSteps_putLoad i _ s rfl rfl

theorem loadSteps_queueClaim (s : State) : LoadSteps s (queueClaim s) := by
  unfold queueClaim
  split
  · exact .refl
  · refine LoadSteps.trans ?_ (loadSteps_sendTelegram _ _ _)
    exact loadSteps_book s _ rfl rfl (by simp [sameBasis])

theorem loadSteps_claimAfter (o : PerClass Nat) (s : State) : LoadSteps s (claimAfter o s) := by
  unfold claimAfter
  split
  · exact .refl
  · split
    · exact loadSteps_queueClaim s
    · exact loadSteps_book s _ rfl rfl (by simp [sameBasis])

theorem loadSteps_evalOver (s : State) : LoadSteps s (evalOver s) :=
  loadSteps_book s _ rfl rfl (by simp [sameBasis])

theorem loadSteps_passOver (l : List (Fin 17)) (s : State) : LoadSteps s (passOver l s) := by
  induction l generalizing s with
  | nil => exact .refl
  | cons i rest ih =>
    unfold passOver
    simp only
    split
    · split
      · exact (loadSteps_admit i s).trans (ih _)
      · exact .refl
    · split
      · exact (loadSteps_admit i s).trans (ih _)
      · exact .refl
    · exact .refl

theorem loadSteps_admissionPass (s : State) : LoadSteps s (admissionPass s) := by
  unfold admissionPass
  split
  · exact loadSteps_passOver _ s
  · exact .refl

/-- The end of an event of the budget unit is a chain of moves. -/
theorem loadSteps_settle (o : PerClass Nat) (p : Bool) (s : State) : LoadSteps s (settle o p s) := by
  unfold settle
  simp only
  cases p
  · simpa using (loadSteps_evalOver s).trans (loadSteps_claimAfter o _)
  · simpa using (((loadSteps_evalOver s).trans (loadSteps_admissionPass _)).trans
      (loadSteps_evalOver _)).trans (loadSteps_claimAfter o _)

/-- An ask is a chain of moves. -/
theorem loadSteps_ask (i : Fin 17) (s : State) : LoadSteps s (ask i s) := by
  unfold ask
  simp only
  split
  · exact .refl
  · split
    · exact (loadSteps_admit i s).trans (loadSteps_settle _ _ _)
    · split
      · split
        · exact (loadSteps_reduceLevel i s).trans (loadSteps_settle _ _ _)
        · exact (loadSteps_shedLoad i _ s).trans (loadSteps_settle _ _ _)
      · exact (loadSteps_wait i s).trans (loadSteps_settle _ _ _)

theorem loadSteps_setMotorClass (i : Fin 17) (c : LoadClass) (s : State) :
    LoadSteps s (setMotorClass i c s) := .cls s i c .refl

theorem loadSteps_askRetraction (i : Fin 17) (s : State) : LoadSteps s (askRetraction i s) := by
  unfold askRetraction
  split
  · exact .refl
  · exact ((loadSteps_setMotorClass i _ s).trans (loadSteps_admit i _)).trans (loadSteps_settle _ _ _)

theorem loadSteps_askExtension (i : Fin 17) (s : State) : LoadSteps s (askExtension i s) := by
  unfold askExtension
  split
  · exact .refl
  · split
    · exact .refl
    · exact ((loadSteps_setMotorClass i _ s).trans (loadSteps_admit i _)).trans
        (loadSteps_settle _ _ _)

/-- A release is a chain of moves. -/
theorem loadSteps_release (i : Fin 17) (s : State) : LoadSteps s (release i s) := by
  unfold release
  split
  · exact .refl
  · exact (loadSteps_turnOff i s).trans (loadSteps_settle _ _ _)

theorem loadSteps_foldl {α : Type} (f : State → α → State) (h : ∀ s a, LoadSteps s (f s a))
    (l : List α) (s : State) : LoadSteps s (l.foldl f s) := by
  induction l generalizing s with
  | nil => exact .refl
  | cons a l ih => exact (h s a).trans (ih _)

theorem loadSteps_shedOne (c : LoadClass) (s : State) (i : Fin 17) : LoadSteps s (shedOne c s i) := by
  unfold shedOne
  simp only
  split
  · split
    · exact .refl
    · exact .refl
    · exact .refl
    · split
      · exact loadSteps_reduceLevel i s
      · exact loadSteps_shedLoad i _ s
    · split
      · exact loadSteps_reduceLevel i s
      · exact loadSteps_shedLoad i _ s
    · split
      · exact loadSteps_reduceLevel i s
      · exact loadSteps_shedLoad i _ s
    · exact loadSteps_shedLoad i _ s
  · exact .refl

/-- The setting of a shed flag is a chain of moves. -/
theorem loadSteps_setShedFlag (c : LoadClass) (s : State) : LoadSteps s (setShedFlag c s) := by
  have h : ∀ l : List (Fin 17), LoadSteps s (raiseEvent .levelShed (countLevelShed
      (l.foldl (shedOne c) (s.setBudget { s.budget with shed := setClass s.budget.shed c true })))) := by
    intro l
    refine LoadSteps.trans ?_ (loadSteps_raiseEvent _ _)
    unfold countLevelShed
    refine LoadSteps.trans ?_ (loadSteps_book _ _ rfl rfl (by simp [sameBasis]))
    refine LoadSteps.trans ?_ (loadSteps_foldl _ (loadSteps_shedOne c) _ _)
    exact loadSteps_book s _ rfl rfl (by simp [sameBasis])
  unfold setShedFlag
  simp only
  split
  · exact (h _).trans (loadSteps_raiseEvent _ _)
  · exact h _

theorem loadSteps_restoreLight (c : LoadClass) (s : State) (i : Fin 17) :
    LoadSteps s (restoreLight c s i) := by
  unfold restoreLight
  simp only
  split
  · split
    · exact loadSteps_admit i s
    · exact loadSteps_setReduced i _ s
  · exact .refl

theorem loadSteps_restoreShed (c : LoadClass) (s : State) (i : Fin 17) :
    LoadSteps s (restoreShed c s i) := by
  unfold restoreShed
  simp only
  split
  · exact loadSteps_setWaiting i s
  · exact .refl

theorem loadSteps_joinRestored (c : LoadClass) (s : State) (i : Fin 17) :
    LoadSteps s (joinRestored c s i) := by
  unfold joinRestored
  simp only
  split
  · exact loadSteps_joinRetry i s
  · exact .refl

/-- The clearing of a shed flag is a chain of moves. -/
theorem loadSteps_clearShedFlag (c : LoadClass) (s : State) : LoadSteps s (clearShedFlag c s) := by
  unfold clearShedFlag
  refine LoadSteps.trans ?_ (loadSteps_foldl _ (loadSteps_joinRestored c) _ _)
  refine LoadSteps.trans ?_ (loadSteps_foldl _ (loadSteps_restoreShed c) _ _)
  refine LoadSteps.trans ?_ (loadSteps_foldl _ (loadSteps_restoreLight c) _ _)
  exact loadSteps_book s _ rfl rfl (by simp [sameBasis])

theorem loadSteps_evalShedFlag (s : State) (c : LoadClass) : LoadSteps s (evalShedFlag s c) := by
  unfold evalShedFlag
  simp only
  split
  · split
    · exact loadSteps_clearShedFlag c s
    · exact .refl
  · split
    · split
      · exact loadSteps_clearShedFlag c s
      · exact .refl
    · split
      · exact loadSteps_setShedFlag c s
      · exact .refl

theorem loadSteps_evalShedFlags (s : State) : LoadSteps s (evalShedFlags s) := by
  unfold evalShedFlags
  split
  · exact loadSteps_foldl _ loadSteps_evalShedFlag _ s
  · exact .refl

/-- A re-evaluation is the computation of the budget followed by a chain of moves (R40). -/
theorem loadSteps_reevaluate (b : Budget) (s : State) :
    LoadSteps (computeBudget s) (reevaluate b s) := by
  unfold reevaluate
  exact (loadSteps_evalShedFlags _).trans (loadSteps_settle _ _ _)

theorem loadSteps_takeVictim (i : Fin 17) (s : State) : LoadSteps s (takeVictim i s) := by
  unfold takeVictim
  split
  · exact (loadSteps_setReduced i _ s).trans (loadSteps_joinRetry i _)
  · exact loadSteps_shedLoad i _ s

theorem loadSteps_restartDwell (s : State) : LoadSteps s (restartDwell s) :=
  loadSteps_book s _ rfl rfl (by simp [sameBasis])

/-- The over-budget expiry is a chain of moves (R62). -/
theorem loadSteps_dwellExpires (s : State) : LoadSteps s (dwellExpires s) := by
  unfold dwellExpires
  split
  · exact loadSteps_restartDwell s
  · refine LoadSteps.trans ?_ (loadSteps_settle _ _ _)
    refine LoadSteps.trans ?_ (loadSteps_restartDwell _)
    refine LoadSteps.trans ?_ (loadSteps_raiseEvent _ _)
    refine LoadSteps.trans ?_ (loadSteps_book _ _ rfl rfl (by simp [sameBasis]))
    exact loadSteps_takeVictim _ s

/-- The hold expiry is a chain of moves (R63). -/
theorem loadSteps_holdExpires (i : Fin 17) (s : State) : LoadSteps s (holdExpires i s) := by
  unfold holdExpires
  simp only
  split
  · exact (loadSteps_shedLoad i _ s).trans (loadSteps_settle _ _ _)
  · exact (loadSteps_wait i s).trans (loadSteps_settle _ _ _)

end Sys2Proof.Machine
end

