-- ==== Sys2Proof/Laws/LoadFrame.lean ====
section
/-! SUPPORT. The frame of an event of the budget unit: what a chain of moves leaves as it was. -/

namespace Sys2Proof.Machine

/-- A heating zone, but for the load state and the output. -/
def zoneCore (z : Zone) : ZoneMode × Int × Option ZoneMode × Option Int × Bool × Int × Nat :=
  (z.mode, z.setpoint, z.saved, z.temp, z.faulted, z.integral, z.duty)

/-- A light channel, but for what its load decides. -/
def channelCore (c : Channel) : Nat × Bool × Bool × Bool × Bool :=
  (c.setLevel, c.latch, c.scene, c.on, c.output)

/-- The water controller, but for what its loads decide. -/
def waterCore (w : Water) : (Tank × Tank × Tank × Nat × Bool × Bool) × (Bool × Bool × Bool)
    × (Option Int × Bool × Bool × Bool) × (Nat × Bool × Nat) :=
  ((w.fresh, w.grey, w.black, w.periodTimer, w.moving, w.peerGreyFull),
   (w.pump.demand, w.pump.disabled, w.pump.dryLock),
   (w.frost.temp, w.frost.faulted, w.frost.demand, w.frost.valveOpen),
   (w.tanksTimer, w.tanksDue, w.frostDumps))

/-- What a chain of moves keeps: every block but the budget unit, the controllers' load states with what
follows from them, the line and the flags; and of those the parts that no load decides. -/
structure LoadFrame (s t : State) : Prop where
  boot      : t.boot = s.boot
  params    : t.params = s.params
  bank      : t.bank = s.bank
  peers     : t.peers = s.peers
  motion    : t.motion = s.motion
  time      : t.clock = s.clock ∧ t.cells = s.cells
  freeCount : t.freeCount = s.freeCount
  pending   : t.pending = s.pending
  mask      : t.event.mask = s.event.mask
  flags     : ∀ k, s.event.flags.getLsbD k = true → t.event.flags.getLsbD k = true
  basis     : sameBasis s.budget t.budget
  rated     : ∀ i : Fin 17, t.budget.loads[i].rated = s.budget.loads[i].rated
  zones     : ∀ n : Fin 4, zoneCore t.zone.zones[n] = zoneCore s.zone.zones[n]
  zoneTimer : t.zone.periodTimer = s.zone.periodTimer ∧ t.zone.windowTimer = s.zone.windowTimer
                ∧ t.zone.window = s.zone.window
  water     : waterCore t.water = waterCore s.water
  channels  : ∀ n : Fin 8, channelCore t.light.channels[n] = channelCore s.light.channels[n]
  lights    : t.light.ownStepOut = s.light.ownStepOut ∧ t.light.peerStepOut = s.light.peerStepOut
                ∧ t.light.forcedOff = s.light.forcedOff ∧ t.light.fadeTimer = s.light.fadeTimer
                ∧ t.light.pwm = s.light.pwm

theorem LoadFrame.refl (s : State) : LoadFrame s s := by
  constructor <;> simp [sameBasis]

theorem LoadFrame.trans {s t u : State} (h : LoadFrame s t) (k : LoadFrame t u) : LoadFrame s u := by
  obtain ⟨a1, a2, a3, a4, a5, a6, a7, a8, a9, a10, a11, a12, a13, a14, a15, a16, a17⟩ := h
  obtain ⟨b1, b2, b3, b4, b5, b6, b7, b8, b9, b10, b11, b12, b13, b14, b15, b16, b17⟩ := k
  refine ⟨b1.trans a1, b2.trans a2, b3.trans a3, b4.trans a4, b5.trans a5,
    ⟨b6.1.trans a6.1, b6.2.trans a6.2⟩,
    b7.trans a7, b8.trans a8, b9.trans a9, fun k hk => b10 k (a10 k hk), ?_,
    fun i => (b12 i).trans (a12 i), fun n => (b13 n).trans (a13 n), ?_, b15.trans a15,
    fun n => (b16 n).trans (a16 n), ?_⟩
  · simp only [sameBasis] at a11 b11 ⊢
    grind
  · grind
  · grind

/-- A telegram handed over changes the line only. -/
theorem sendTelegram_eq (k : Kind) (p : List Byte) (s : State) :
    sendTelegram k p s = s.setLine (sendTelegram k p s).line := by
  unfold sendTelegram
  split <;> rfl

theorem LoadFrame.setLine (s : State) (l : Line) : LoadFrame s (s.setLine l) := by
  constructor <;> simp [sameBasis]

theorem LoadFrame.setBudget (s : State) (b : Budget) (h : sameBasis s.budget b)
    (h' : ∀ i : Fin 17, b.loads[i].rated = s.budget.loads[i].rated) :
    LoadFrame s (s.setBudget b) := by
  constructor <;> simp_all

/-- A telegram handed over keeps the frame. -/
theorem LoadFrame.sendTelegram (k : Kind) (p : List Byte) (s : State) :
    LoadFrame s (sendTelegram k p s) := by
  rw [sendTelegram_eq]; exact .setLine _ _

theorem LoadFrame.flag (w : Word) (s : State) :
    LoadFrame s (s.setEvent { s.event with flags := s.event.flags ||| w }) := by
  constructor <;> simp [sameBasis]
  intro k hk
  exact Or.inl hk

theorem vector_get_set {α : Type} {n : Nat} (v : Vector α n) (i j : Fin n) (x : α) :
    (v.set i x)[j] = if i = j then x else v[j] := by
  have := Vector.getElem_set (xs := v) (i := i.val) (j := j.val) (x := x) i.isLt j.isLt
  simp only [Fin.getElem_fin, Fin.ext_iff]
  exact this

theorem LoadFrame.handLight (n : Fin 8) (ld : LoadState) (s : State) :
    LoadFrame s (handLight n ld s) := by
  unfold Machine.handLight
  constructor <;> simp only [State.setLight_boot, State.setLight_params, State.setLight_bank,
    State.setLight_peers, State.setLight_motion, State.setLight_clock, State.setLight_cells, State.setLight_freeCount,
    State.setLight_pending, State.setLight_event, State.setLight_budget, State.setLight_zone,
    State.setLight_water, State.setLight_light, sameBasis, and_self, implies_true, imp_self]
  intro m
  rw [vector_get_set]
  split
  · subst m
    unfold channelHanded
    simp only
    split <;> rfl
  · rfl

theorem LoadFrame.handZone (n : Fin 4) (ld : LoadState) (s : State) :
    LoadFrame s (handZone n ld s) := by
  unfold Machine.handZone
  constructor <;> simp only [State.setZone_boot, State.setZone_params, State.setZone_bank,
    State.setZone_peers, State.setZone_motion, State.setZone_clock, State.setZone_cells, State.setZone_freeCount,
    State.setZone_pending, State.setZone_event, State.setZone_budget, State.setZone_zone,
    State.setZone_water, State.setZone_light, sameBasis, and_self, implies_true, imp_self]
  intro m
  rw [vector_get_set]
  split
  · subst m; rfl
  · rfl

theorem LoadFrame.setWater (s : State) (w : Water) (h : waterCore w = waterCore s.water) :
    LoadFrame s (s.setWater w) := by
  constructor <;> simp [sameBasis, h]

/-- A load record's change handed to its controller keeps the frame. -/
theorem LoadFrame.handLoad (i : Fin 17) (ld : LoadState) (s : State) :
    LoadFrame s (handLoad i ld s) := by
  unfold Machine.handLoad
  split
  · exact .handLight _ ld s
  · split
    · exact .handZone _ ld s
    · split
      · exact .setWater s _ rfl
      · split
        · exact .setWater s _ rfl
        · exact .refl s

/-- A load record put keeps the frame. -/
theorem LoadFrame.putLoad (i : Fin 17) (r : LoadRecord) (s : State)
    (h : r.rated = s.budget.loads[i].rated) : LoadFrame s (putLoad i r s) := by
  unfold Machine.putLoad
  refine LoadFrame.trans ?_ (.handLoad i r.state _)
  refine .setBudget s _ (by simp [sameBasis]) ?_
  intro j
  rw [vector_get_set]
  split
  · subst j; exact h
  · rfl

/-- The frame of a chain of moves. -/
theorem LoadSteps.frame {s t : State} (h : LoadSteps s t) : LoadFrame s t := by
  induction h with
  | refl => exact .refl s
  | send t k p _ ih => exact ih.trans (.sendTelegram k p t)
  | flag t w _ ih => exact ih.trans (.flag w t)
  | load t i r _ a _ ih => exact ih.trans (.putLoad i r t a)
  | cls t i c _ ih =>
    refine ih.trans (.setBudget t _ (by simp [sameBasis]) ?_)
    intro j
    rw [vector_get_set]
    split
    · subst j; rfl
    · rfl
  | book t b _ a _ d ih =>
    refine ih.trans (.setBudget t b d ?_)
    intro j
    rw [a]

end Sys2Proof.Machine
end

