-- ==== Sys2Proof/Laws/Line.lean ====
section
/-! SUPPORT. What the transmit queue's operations can do, and that each keeps the queue within its bounds
(R166). -/

namespace Sys2Proof.Machine

/-- A queue within its bounds: 8 telegrams, and one of each of the six kinds. -/
def QueueOk (q : List TxEntry) : Prop := q.length ≤ 8 ∧ ∀ k ∈ singleKinds, countKind q k ≤ 1

theorem coalesces_iff (k : Kind) : coalesces k = true ↔ k ∈ singleKinds := by
  cases k <;> simp [coalesces, singleKinds]

theorem countKind_append (q r : List TxEntry) (k : Kind) :
    countKind (q ++ r) k = countKind q k + countKind r k := by simp [countKind]

theorem countKind_erase_le (q : List TxEntry) (e : TxEntry) (k : Kind) :
    countKind (q.erase e) k ≤ countKind q k :=
  (List.Sublist.filter _ (List.erase_sublist)).length_le

theorem countKind_replaceContent (q : List TxEntry) (t : Telegram) (k : Kind) :
    countKind (replaceContent q t) k = countKind q k := by
  induction q with
  | nil => rfl
  | cons e q ih =>
    simp only [countKind, replaceContent, List.map_cons, List.filter_cons] at ih ⊢
    by_cases h : e.telegram.kind = t.kind
    · by_cases h' : t.kind = k <;> simp_all
    · by_cases h' : e.telegram.kind = k <;> simp_all

theorem length_replaceContent (q : List TxEntry) (t : Telegram) :
    (replaceContent q t).length = q.length := by simp [replaceContent]

theorem countKind_eq_zero (l : Line) (k : Kind) (h : queued l k = false) :
    countKind l.queue k = 0 := by
  simp only [queued, countKind, List.any_eq_false, List.length_eq_zero_iff,
    List.filter_eq_nil_iff] at h ⊢
  exact h

/-- An added telegram keeps the counts when none of its kind is queued, or its kind is not one of six. -/
theorem queueOk_append (q : List TxEntry) (e : TxEntry) (h : ∀ k ∈ singleKinds, countKind q k ≤ 1)
    (n : q.length ≤ 7) (f : coalesces e.telegram.kind = true → countKind q e.telegram.kind = 0) :
    QueueOk (q ++ [e]) := by
  refine ⟨by simp; omega, fun k hk => ?_⟩
  rw [countKind_append]
  by_cases hek : e.telegram.kind = k
  · have hz := f (by rw [hek]; exact (coalesces_iff k).mpr hk)
    rw [hek] at hz
    have : countKind [e] k = 1 := by simp [countKind, hek]
    omega
  · have h1 := h k hk
    have : countKind [e] k = 0 := by simp [countKind, hek]
    omega

theorem oldestStatus_mem_aux (l : List TxEntry) (b : Option TxEntry) (x : TxEntry)
    (h : l.foldl (fun best e =>
      match best with
      | none => some e
      | some b => if e.age < b.age then some e else some b) b = some x) :
    x ∈ l ∨ b = some x := by
  induction l generalizing b with
  | nil => exact Or.inr h
  | cons e l ih =>
    rcases ih _ h with h1 | h1
    · exact Or.inl (List.mem_cons_of_mem _ h1)
    · cases b with
      | none => simp only [Option.some.injEq] at h1; subst h1; simp
      | some b =>
        simp only at h1
        split at h1
        · simp only [Option.some.injEq] at h1; subst h1; simp
        · exact Or.inr h1

theorem oldestStatus_mem (q : List TxEntry) (x : TxEntry) (h : oldestStatus q = some x) :
    x ∈ q ∧ isStatus x.telegram.kind = true := by
  rcases oldestStatus_mem_aux _ _ _ h with h1 | h1
  · simpa using List.mem_filter.mp h1
  · simp at h1

/-- The table of R166 keeps the queue within its bounds. -/
theorem queueOk_enqueue (l : Line) (e : TxEntry) (h : QueueOk l.queue) :
    QueueOk (enqueue l e).queue := by
  unfold enqueue
  split
  · exact ⟨by rw [length_replaceContent]; exact h.1,
      fun k hk => by rw [countKind_replaceContent]; exact h.2 k hk⟩
  · rename_i h1
    have hz : coalesces e.telegram.kind = true → countKind l.queue e.telegram.kind = 0 := by
      intro hc
      apply countKind_eq_zero
      simpa [hc] using h1
    split
    · exact h
    · split
      · rename_i h3
        exact queueOk_append _ _ h.2 (by simp only [fill] at h3; omega) hz
      · split
        · split
          · rename_i old ho
            have hm := (oldestStatus_mem _ _ ho).1
            have hl := List.length_erase_of_mem hm
            refine queueOk_append _ _ (fun k hk => (countKind_erase_le _ _ _).trans (h.2 k hk)) ?_ ?_
            · have := h.1; omega
            · intro hc
              have := countKind_erase_le l.queue old e.telegram.kind
              have := hz hc
              omega
          · exact h
        · exact h

/-- Handing a telegram to the queue changes the queue, the age counter and the drop counter only. -/
theorem enqueue_rest (l : Line) (e : TxEntry) :
    ∃ q n, enqueue l e = { l with queue := q, txDropped := n } := by
  unfold enqueue
  split
  · exact ⟨_, _, rfl⟩
  · split
    · exact ⟨_, _, rfl⟩
    · split
      · exact ⟨_, _, rfl⟩
      · split
        · split <;> exact ⟨_, _, rfl⟩
        · exact ⟨_, _, rfl⟩

/-- The line part of `LineOk` for a configured station. -/
def SenderOk (l : Line) : Prop := l.register.isSome = true ↔ l.sender ≠ .idle

theorem lineOk_iff (s : State) : LineOk s ↔ QueueOk s.line.queue ∧ SenderOk s.line
    ∧ (s.boot.station = 0#4 → s.line.queue = [] ∧ s.line.register = none) := by
  simp [LineOk, QueueOk, SenderOk, and_assoc]

theorem nextToSend_mem (q : List TxEntry) (e : TxEntry) (h : nextToSend q = some e) : e ∈ q := by
  induction q generalizing e with
  | nil => simp [nextToSend] at h
  | cons a q ih =>
    unfold nextToSend at h
    split at h
    · simp_all
    · rename_i b hb
      split at h
      · simp only [Option.some.injEq] at h
        subst h
        exact List.mem_cons_of_mem _ (ih _ hb)
      · simp_all

theorem queueOk_beginFrame (l : Line) (h : QueueOk l.queue) : QueueOk (beginFrame l).queue := by
  unfold beginFrame
  split
  · split
    · exact h
    · exact ⟨(List.erase_sublist.length_le).trans h.1,
        fun k hk => (countKind_erase_le _ _ _).trans (h.2 k hk)⟩
  · exact h

theorem senderOk_beginFrame (l : Line) (h : SenderOk l) : SenderOk (beginFrame l) := by
  unfold beginFrame
  split
  · split
    · exact h
    · simp [SenderOk]
  · exact h

theorem senderOk_enqueue (l : Line) (e : TxEntry) (h : SenderOk l) : SenderOk (enqueue l e) := by
  obtain ⟨q, n, hq⟩ := enqueue_rest l e
  rw [hq]
  exact h

theorem queueOk_takeTelegram (l : Line) (t : Telegram) (h : QueueOk l.queue) :
    QueueOk (takeTelegram l t).queue := by
  unfold takeTelegram
  apply queueOk_enqueue
  exact h

theorem senderOk_takeTelegram (l : Line) (t : Telegram) (h : SenderOk l) :
    SenderOk (takeTelegram l t) := by
  unfold takeTelegram
  apply senderOk_enqueue
  exact h

/-- A telegram handed over keeps the line sound. -/
theorem lineOk_sendTelegram (k : Kind) (p : List Byte) (s : State) (h : LineOk s) :
    LineOk (sendTelegram k p s) := by
  unfold sendTelegram
  by_cases hs : s.boot.station = 0#4
  · rw [if_pos hs]
    exact h
  · rw [if_neg hs]
    rw [lineOk_iff] at h ⊢
    refine ⟨?_, ?_, ?_⟩
    · rw [State.setLine_line]
      apply queueOk_beginFrame
      apply queueOk_takeTelegram
      exact h.1
    · rw [State.setLine_line]
      apply senderOk_beginFrame
      apply senderOk_takeTelegram
      exact h.2.1
    · intro h0
      exact absurd h0 hs

/-- Nothing but a telegram handed over reaches the line in a chain of moves. -/
theorem handLoad_line (i : Fin 17) (ld : LoadState) (s : State) : (handLoad i ld s).line = s.line := by
  unfold handLoad handLight handZone handHeater handPump
  split
  · rfl
  · split
    · rfl
    · split
      · rfl
      · split <;> rfl

theorem putLoad_line (i : Fin 17) (r : LoadRecord) (s : State) : (putLoad i r s).line = s.line := by
  simp only [putLoad, handLoad_line, State.setBudget_line]

theorem lineOk_of_line (s t : State) (h : LineOk s) (hl : t.line = s.line) (hb : t.boot = s.boot) :
    LineOk t := by
  unfold LineOk at *
  rw [hl, hb]
  exact h

/-- A chain of moves keeps the line sound. -/
theorem LoadSteps.lineOk {s t : State} (h : LoadSteps s t) (hs : LineOk s) : LineOk t := by
  induction h with
  | refl => exact hs
  | send t k p _ ih => exact lineOk_sendTelegram k p t ih
  | flag t w _ ih => exact lineOk_of_line t _ ih rfl rfl
  | load t i r _ a _ ih =>
    exact lineOk_of_line t _ ih (putLoad_line i r t) (LoadFrame.putLoad i r t a).boot
  | cls t i c _ ih => exact lineOk_of_line t _ ih rfl rfl
  | book t b _ _ _ _ ih => exact lineOk_of_line t _ ih rfl rfl

end Sys2Proof.Machine
end

