-- ==== Sys2Proof/Laws/Loads.lean ====
section
/-! SUPPORT. What putting a load record does to the budget unit and to the controller that owns the load
(R49, R54), and what every chain of moves keeps of the outputs: each heater and light follows its load. -/

namespace Sys2Proof.Machine

/-! ## The handover, block by block -/

theorem handLoad_budget (i : Fin 17) (ld : LoadState) (s : State) :
    (handLoad i ld s).budget = s.budget := by
  unfold handLoad handLight handZone handHeater handPump
  split
  · rfl
  · split
    · rfl
    · split
      · rfl
      · split <;> rfl

theorem handLight_channel (m n : Fin 8) (ld : LoadState) (s : State) :
    (handLight m ld s).light.channels[n] =
      if m = n then channelHanded s.params.channels[n] ld s.light.channels[n]
      else s.light.channels[n] := by
  refine (vector_get_set _ m n _).trans ?_
  by_cases h : m = n
  · rw [if_pos h, if_pos h, h]
  · rw [if_neg h, if_neg h]

theorem handZone_zone (m n : Fin 4) (ld : LoadState) (s : State) :
    (handZone m ld s).zone.zones[n] =
      if m = n then driveHeater s.zone.window { s.zone.zones[n] with load := ld }
      else s.zone.zones[n] := by
  refine (vector_get_set _ m n _).trans ?_
  by_cases h : m = n
  · rw [if_pos h, if_pos h, h]
  · rw [if_neg h, if_neg h]

/-- A light channel receives the change of its own record, and of no other. -/
theorem handLoad_channel (i : Fin 17) (ld : LoadState) (s : State) (n : Fin 8) :
    (handLoad i ld s).light.channels[n] =
      if i.val = n.val then channelHanded s.params.channels[n] ld s.light.channels[n]
      else s.light.channels[n] := by
  unfold handLoad
  split
  · rename_i h
    rw [handLight_channel]
    by_cases hn : i.val = n.val
    · rw [if_pos (Fin.ext hn), if_pos hn]
    · rw [if_neg (fun h' => hn (Fin.ext_iff.mp h')), if_neg hn]
  · rename_i h
    have hn : ¬ i.val = n.val := by omega
    rw [if_neg hn]
    split
    · rfl
    · split
      · rfl
      · split <;> rfl

/-- A zone receives the change of its own record, and of no other. -/
theorem handLoad_zone (i : Fin 17) (ld : LoadState) (s : State) (n : Fin 4) :
    (handLoad i ld s).zone.zones[n] =
      if i.val = 8 + n.val then driveHeater s.zone.window { s.zone.zones[n] with load := ld }
      else s.zone.zones[n] := by
  unfold handLoad
  split
  · have hn : ¬ i.val = 8 + n.val := by omega
    rw [if_neg hn]
    rfl
  · rename_i h8
    split
    · rename_i h
      rw [handZone_zone]
      by_cases hn : i.val = 8 + n.val
      · rw [if_pos (Fin.ext (Nat.sub_eq_of_eq_add (hn.trans (Nat.add_comm _ _)))), if_pos hn]
      · rw [if_neg (fun h' => hn (by have := congrArg Fin.val h'; change i.val - 8 = n.val at this; omega)),
          if_neg hn]
    · have hn : ¬ i.val = 8 + n.val := by omega
      rw [if_neg hn]
      split
      · rfl
      · split <;> rfl

/-- The frost record receives the change of record 12 only. -/
theorem handLoad_frost (i : Fin 17) (ld : LoadState) (s : State) :
    (handLoad i ld s).water.frost =
      if i.val = 12 then
        evalDwell { s.water.frost with load := ld, output := ld == .admitted }
      else s.water.frost := by
  unfold handLoad
  split
  · rw [if_neg (by omega)]; rfl
  · split
    · rw [if_neg (by omega)]; rfl
    · split
      · rfl
      · split <;> rfl

/-- The pump record receives the change of record 13 only. -/
theorem handLoad_pump (i : Fin 17) (ld : LoadState) (s : State) :
    (handLoad i ld s).water.pump =
      if i.val = 13 then drivePump (pumpBlocked s) { s.water.pump with load := ld }
      else s.water.pump := by
  unfold handLoad
  split
  · rw [if_neg (by omega)]; rfl
  · split
    · rw [if_neg (by omega)]; rfl
    · split
      · rw [if_neg (by omega)]; rfl
      · split <;> rfl

/-- A load record put: the table holds it, and the own totals follow (R49). -/
theorem putLoad_budget (i : Fin 17) (r : LoadRecord) (s : State) :
    (putLoad i r s).budget =
      { s.budget with loads := s.budget.loads.set i r, own := ownTotals (s.budget.loads.set i r) } := by
  simp only [putLoad, handLoad_budget, State.setBudget_budget]

theorem putLoad_loads (i j : Fin 17) (r : LoadRecord) (s : State) :
    (putLoad i r s).budget.loads[j] = if i = j then r else s.budget.loads[j] := by
  rw [putLoad_budget]
  exact vector_get_set _ _ _ _

theorem setMotorClass_loads (i j : Fin 17) (c : LoadClass) (s : State) :
    (setMotorClass i c s).budget.loads[j] =
      if i = j then { s.budget.loads[i] with cls := c } else s.budget.loads[j] := by
  unfold setMotorClass
  exact vector_get_set _ _ _ _

/-! ## The controllers hold what the unit holds (R48, R54) -/

/-- The lights, the zones, the frost heater and the pump hold the states of their load records. -/
def Mirrored (s : State) : Prop :=
  (∀ n : Fin 8, s.light.channels[n].load = s.budget.loads[n.val].state)
  ∧ (∀ n : Fin 4, s.zone.zones[n].load = s.budget.loads[8 + n.val].state)
  ∧ s.water.frost.load = s.budget.loads[12].state
  ∧ s.water.pump.load = s.budget.loads[13].state

theorem channelHanded_load (p : ChannelParams) (ld : LoadState) (c : Channel) :
    (channelHanded p ld c).load = ld := by
  unfold channelHanded
  simp only
  split <;> rfl

theorem mirrored_putLoad (i : Fin 17) (r : LoadRecord) (s : State) (h : Mirrored s) :
    Mirrored (putLoad i r s) := by
  obtain ⟨h1, h2, h3, h4⟩ := h
  refine ⟨fun n => ?_, fun n => ?_, ?_, ?_⟩
  · have e := putLoad_loads i ⟨n.val, by omega⟩ r s
    simp only [Fin.getElem_fin, Fin.ext_iff] at e
    rw [e]
    simp only [putLoad, handLoad_channel, State.setBudget_light, State.setBudget_params]
    split
    · exact channelHanded_load _ _ _
    · exact h1 n
  · have e := putLoad_loads i ⟨8 + n.val, by omega⟩ r s
    simp only [Fin.getElem_fin, Fin.ext_iff] at e
    rw [e]
    simp only [putLoad, handLoad_zone, State.setBudget_zone]
    split
    · rfl
    · exact h2 n
  · have e := putLoad_loads i 12 r s
    simp only [Fin.getElem_fin, Fin.ext_iff] at e
    have e' : (putLoad i r s).budget.loads[12] = if i.val = 12 then r else s.budget.loads[12] := e
    rw [e']
    simp only [putLoad, handLoad_frost, State.setBudget_water]
    split
    · rfl
    · exact h3
  · have e := putLoad_loads i 13 r s
    simp only [Fin.getElem_fin, Fin.ext_iff] at e
    have e' : (putLoad i r s).budget.loads[13] = if i.val = 13 then r else s.budget.loads[13] := e
    rw [e']
    simp only [putLoad, handLoad_pump, State.setBudget_water]
    split
    · rfl
    · exact h4

theorem sendTelegram_budget (k : Kind) (p : List Byte) (s : State) :
    (sendTelegram k p s).budget = s.budget := by rw [sendTelegram_eq]; rfl

theorem sendTelegram_light (k : Kind) (p : List Byte) (s : State) :
    (sendTelegram k p s).light = s.light := by rw [sendTelegram_eq]; rfl

theorem sendTelegram_zone (k : Kind) (p : List Byte) (s : State) :
    (sendTelegram k p s).zone = s.zone := by rw [sendTelegram_eq]; rfl

theorem sendTelegram_water (k : Kind) (p : List Byte) (s : State) :
    (sendTelegram k p s).water = s.water := by rw [sendTelegram_eq]; rfl

theorem sendTelegram_event (k : Kind) (p : List Byte) (s : State) :
    (sendTelegram k p s).event = s.event := by rw [sendTelegram_eq]; rfl

theorem mirrored_of_eq (s t : State) (h : Mirrored s) (hl : t.light = s.light)
    (hz : t.zone = s.zone) (hw : t.water = s.water)
    (hb : ∀ i : Fin 17, t.budget.loads[i].state = s.budget.loads[i].state) : Mirrored t := by
  obtain ⟨h1, h2, h3, h4⟩ := h
  unfold Mirrored
  rw [hl, hz, hw]
  refine ⟨fun n => ?_, fun n => ?_, ?_, ?_⟩
  · rw [h1 n]; exact (hb ⟨n.val, by omega⟩).symm
  · rw [h2 n]; exact (hb ⟨8 + n.val, by omega⟩).symm
  · rw [h3]; exact (hb 12).symm
  · rw [h4]; exact (hb 13).symm

/-- A chain of moves keeps the controllers' load states equal to the unit's. -/
theorem LoadSteps.mirrored {s t : State} (h : LoadSteps s t) (hs : Mirrored s) : Mirrored t := by
  induction h with
  | refl => exact hs
  | send t k p _ ih =>
    exact mirrored_of_eq t _ ih (sendTelegram_light _ _ _) (sendTelegram_zone _ _ _)
      (sendTelegram_water _ _ _) (fun i => by rw [sendTelegram_budget])
  | flag t w _ ih => exact mirrored_of_eq t _ ih rfl rfl rfl (fun i => rfl)
  | load t i r _ _ _ ih => exact mirrored_putLoad i r t ih
  | cls t i c _ ih =>
    refine mirrored_of_eq t _ ih rfl rfl rfl (fun j => ?_)
    rw [setMotorClass_loads]
    split
    · rename_i hij; subst hij; rfl
    · rfl
  | book t b _ a _ _ ih => exact mirrored_of_eq t _ ih rfl rfl rfl (fun i => by rw [State.setBudget_budget, a])

/-! ## Heaters and lights follow their loads -/

theorem heatersOk_of_eq (s t : State) (h : HeatersOk s) (hz : t.zone = s.zone)
    (hw : t.water = s.water) : HeatersOk t := by
  unfold HeatersOk
  rw [hz, hw]
  exact h

theorem lightsOk_of_eq (s t : State) (h : LightsOk s) (hl : t.light = s.light)
    (hp : t.params = s.params) : LightsOk t := by
  unfold LightsOk ChannelOk
  rw [hl, hp]
  exact h

theorem heatersOk_handLoad (i : Fin 17) (ld : LoadState) (s : State) (h : HeatersOk s) :
    HeatersOk (handLoad i ld s) := by
  obtain ⟨h1, h2⟩ := h
  have hw : (handLoad i ld s).zone.window = s.zone.window :=
    (LoadFrame.handLoad i ld s).zoneTimer.2.2
  refine ⟨fun n => ?_, ?_⟩
  · rw [handLoad_zone, hw]
    split
    · rfl
    · exact h1 n
  · rw [handLoad_frost]
    split
    · rfl
    · exact h2

/-- A chain of moves keeps the heaters' outputs following their loads. -/
theorem LoadSteps.heatersOk {s t : State} (h : LoadSteps s t) (hs : HeatersOk s) : HeatersOk t := by
  induction h with
  | refl => exact hs
  | send t k p _ ih =>
    exact heatersOk_of_eq t _ ih (sendTelegram_zone _ _ _) (sendTelegram_water _ _ _)
  | flag t w _ ih => exact heatersOk_of_eq t _ ih rfl rfl
  | load t i r _ _ _ ih =>
    exact heatersOk_handLoad _ _ _ (heatersOk_of_eq t _ ih (State.setBudget_zone _ _)
      (State.setBudget_water _ _))
  | cls t i c _ ih => exact heatersOk_of_eq t _ ih rfl rfl
  | book t b _ _ _ _ ih => exact heatersOk_of_eq t _ ih rfl rfl

/-- A level cut or a target moved by a load keeps a channel sound (R148, R149, R152). -/
theorem channelHanded_sound (p : ChannelParams) (ld : LoadState) (c : Channel)
    (hd : c.duty = gammaDuty c.current)
    (hr : ∀ r, c.load = .reduced r → c.current ≤ p.ceiling) :
    (channelHanded p ld c).target
        = targetLevel p (channelHanded p ld c).load (channelHanded p ld c).setLevel
    ∧ (channelHanded p ld c).duty = gammaDuty (channelHanded p ld c).current
    ∧ (∀ r, (channelHanded p ld c).load = .reduced r →
        (channelHanded p ld c).current ≤ p.ceiling) := by
  unfold channelHanded retarget withLevel
  simp only
  by_cases he : entersReduced c.load ld = true
  · rw [if_pos he]
    exact ⟨rfl, rfl, fun _ _ => Nat.min_le_right _ _⟩
  · rw [if_neg he]
    refine ⟨rfl, hd, fun r hl => ?_⟩
    simp only at hl
    subst hl
    simp only [entersReduced, bne_iff_ne, ne_eq, Decidable.not_not] at he
    exact hr r he

theorem lightsOk_handLoad (i : Fin 17) (ld : LoadState) (s : State) (h : LightsOk s) :
    LightsOk (handLoad i ld s) := by
  intro n
  have hp : (handLoad i ld s).params = s.params := (LoadFrame.handLoad i ld s).params
  have hn := h n
  unfold ChannelOk at *
  rw [handLoad_channel, hp]
  split
  · exact channelHanded_sound _ _ _ hn.2.1 hn.2.2
  · exact hn

/-- A chain of moves keeps the lights sound. -/
theorem LoadSteps.lightsOk {s t : State} (h : LoadSteps s t) (hs : LightsOk s) : LightsOk t := by
  induction h with
  | refl => exact hs
  | send t k p _ ih =>
    exact lightsOk_of_eq t _ ih (sendTelegram_light _ _ _) (LoadFrame.sendTelegram k p t).params
  | flag t w _ ih => exact lightsOk_of_eq t _ ih rfl rfl
  | load t i r _ _ _ ih =>
    exact lightsOk_handLoad _ _ _ (lightsOk_of_eq t _ ih (State.setBudget_light _ _)
      (State.setBudget_params _ _))
  | cls t i c _ ih => exact lightsOk_of_eq t _ ih rfl rfl
  | book t b _ _ _ _ ih => exact lightsOk_of_eq t _ ih rfl rfl

end Sys2Proof.Machine
end

