-- ==== Sys2Proof/Laws/Time.lean ====
section
/-! SUPPORT. What the passing of time can do: a cell of the line, a millisecond, and what each leaves as it
was. -/

namespace Sys2Proof.Machine

/-! ## Timers -/

/-- A running timer is never past its end, and stands still there. -/
theorem runTo_eq_min (limit t : Nat) : runTo limit t = min limit (t + 1) := by
  unfold runTo; split <;> omega

theorem runToIfRunning_eq_map (limit : Nat) (t : Option Nat) :
    runToIfRunning limit t = t.map fun n => min limit (n + 1) := by
  cases t <;> simp [runToIfRunning, runTo_eq_min]

/-! ## A cell of the line -/

/-- A cell moves only the sender's place in its header: it stays HEADER before the 17th cell and is BODY with
it (R163). -/
theorem tickLine_eq (l : Line) :
    tickLine l = { l with
      sentCells := if l.sender = .header then min 17 (l.sentCells + 1) else l.sentCells
      sender := if l.sender = .header ∧ 17 ≤ l.sentCells + 1 then .body else l.sender } := by
  cases h : l.sender <;> simp [tickLine, h, runTo_eq_min, Config.headerCells]
  · cases l; simp_all
  · cases l; simp_all

@[simp] theorem tickLine_queue (l : Line) : (tickLine l).queue = l.queue := by simp [tickLine_eq]
@[simp] theorem tickLine_register (l : Line) : (tickLine l).register = l.register := by
  simp [tickLine_eq]
@[simp] theorem tickLine_receiver (l : Line) : (tickLine l).receiver = l.receiver := by
  simp [tickLine_eq]
@[simp] theorem tickLine_sender_idle (l : Line) :
    (tickLine l).sender = .idle ↔ l.sender = .idle := by
  rw [tickLine_eq]; cases h : l.sender <;> simp
  split <;> simp

/-! ## A millisecond -/

@[simp] theorem tickMs_params (s : State) : (tickMs s).params = s.params := by
  unfold tickMs; split <;> rfl
@[simp] theorem tickMs_line (s : State) : (tickMs s).line = s.line := by
  unfold tickMs; split <;> rfl
@[simp] theorem tickMs_event (s : State) : (tickMs s).event = s.event := by
  unfold tickMs; split <;> rfl
@[simp] theorem tickMs_freeCount (s : State) : (tickMs s).freeCount = s.freeCount := by
  unfold tickMs; split <;> rfl
@[simp] theorem tickMs_pending (s : State) : (tickMs s).pending = s.pending := by
  unfold tickMs; split <;> rfl
@[simp] theorem tickMs_clock (s : State) : (tickMs s).clock = s.clock + 1 := by
  unfold tickMs; split <;> rfl

@[simp] theorem tickBoot_station (b : Boot) : (tickBoot b).station = b.station := by
  unfold tickBoot; split <;> try split <;> rfl
  all_goals rfl
@[simp] theorem tickBoot_phase (b : Boot) : (tickBoot b).phase = b.phase := by
  unfold tickBoot; split <;> try split <;> rfl
  all_goals rfl
@[simp] theorem tickBoot_storage (b : Boot) : (tickBoot b).storage = b.storage := by
  unfold tickBoot; split <;> try split <;> rfl
  all_goals rfl

@[simp] theorem tickMs_boot (s : State) : (tickMs s).boot = tickBoot s.boot := by
  unfold tickMs; split <;> rfl
@[simp] theorem tickMs_running (s : State) : (tickMs s).running = s.running := by
  simp [State.running]

/-! ## A step without a command -/

/-- On an empty queue the step is the tick. -/
theorem step_of_empty_queue (s : State) (h : s.pending = []) : step s = .next (tick s) := by
  simp [step, h]

/-- What a tick is: the line's cell where the blocks run, and then a cell counted or a millisecond. -/
theorem tick_cases (s : State) :
    tick s = (if 50 ≤ s.cells + 1 then
      { tickMs (if s.running then s.setLine (tickLine s.line) else s) with cells := 0 }
    else { (if s.running then s.setLine (tickLine s.line) else s) with cells := s.cells + 1 }) := rfl

@[simp] theorem tick_running (s : State) : (tick s).running = s.running := by
  have h : (if s.running then s.setLine (tickLine s.line) else s).running = s.running := by
    split <;> rfl
  rw [tick_cases]; split
  · exact (tickMs_running _).trans h
  · exact h
@[simp] theorem tick_params (s : State) : (tick s).params = s.params := by
  rw [tick_cases]; split <;> split <;> simp
@[simp] theorem tick_event (s : State) : (tick s).event = s.event := by
  rw [tick_cases]; split <;> split <;> simp
@[simp] theorem tick_pending (s : State) : (tick s).pending = s.pending := by
  rw [tick_cases]; split <;> split <;> simp
@[simp] theorem tick_line (s : State) :
    (tick s).line = if s.running then tickLine s.line else s.line := by
  rw [tick_cases]; split <;> split <;> simp

end Sys2Proof.Machine
end

