-- ==== Sys2Proof/WellFormed.lean ====
section
/-! DEFINITION. Which commands can be sent at all: the byte counts that the formats of chapter 11 and the
record read of R186 fix, and the station numbers that can name a peer or a requester. -/

namespace Sys2Proof

/-- A completed read brings all 256 bytes (R186). -/
def ReadResult.wellFormed : ReadResult → Bool
  | .completed bytes => bytes.length == 256
  | .failed => true

/-- A requester has a number of 1 to 15, since a telegram of origin 0 is discarded (R169). -/
def Requester.wellFormed (rq : Requester) : Bool := rq.origin != 0#4

/-- The command can be sent to the part. -/
def Instr.wellFormed : Instr → Bool
  | .powerOnReset _ => true
  | .resetPinReset _ => true
  | .recordReadComplete r _ => r.wellFormed
  | .recordReadRetry r _ => r.wellFormed
  | .listenIntervalEnd => true
  | .storageSet rq _ => rq.wellFormed
  | .bankSample _ _ => true
  | .derateEvaluation _ => true
  | .batteryPeriod => true
  | .peerStale n => n != 0#4
  | .peerRemoval n => n != 0#4
  | .overBudgetDwellExpiry => true
  | .budgetShedHoldExpiry _ => true
  | .claimDue => true
  | .claimHeartbeat => true
  | .zoneEvaluation _ => true
  | .heaterWindowStep => true
  | .zoneSet rq _ _ _ => rq.wellFormed
  | .tankPeriod _ _ _ _ => true
  | .pressureSwitchEdge _ => true
  | .pumpRunTimerExpiry => true
  | .frostDwellExpiry => true
  | .pumpSet rq _ => rq.wellFormed
  | .valveClose rq => rq.wellFormed
  | .tanksDue => true
  | .tanksHeartbeat => true
  | .stopArrival _ _ => true
  | .stopDeparture _ _ => true
  | .hallEdge _ => true
  | .travelTimeout _ => true
  | .stall _ => true
  | .motorCurrentCrossing _ _ => true
  | .overcurrentExpiry _ => true
  | .pauseEnd _ => true
  | .anemometerEdge => true
  | .windSilenceExpiry => true
  | .move rq _ _ => rq.wellFormed
  | .halt rq _ => rq.wellFormed
  | .holdSet rq _ _ => rq.wellFormed
  | .faultClear rq _ => rq.wellFormed
  | .stow _ => true
  | .motionHeartbeat => true
  | .switchEdge _ _ => true
  | .scene _ => true
  | .lightSet rq _ _ _ => rq.wellFormed
  | .fadeTick => true
  | .eventsClear rq _ => rq.wellFormed
  | .diagQuery rq _ => rq.wellFormed
  | .requestOther origin payload =>
      origin != 0#4 && decide (3 ≤ payload.length) && decide (payload.length ≤ 12)
  | .lineIdle => true
  | .lineFallingEdge => true
  | .contentionLoss => true
  | .txCollision => true
  | .frameSent => true
  | .receiveError _ => true
  | .frameReceived header payload _ =>
      payload.length == (header.extractLsb' 0 4).toNat && decide (payload.length ≤ 12)
  | .pwmCounterAdvance => true

end Sys2Proof
end

