-- ==== Sys2Proof/Tests/Slice0.lean ====
section
/-! SUPPORT. The author's own tests: ill-formed commands refused, the worked cases and tables of the
specification on one small state (each test names its source), and for every statement with hypotheses a
state and operands that meet them. -/

namespace Sys2Proof.Tests

open Sys2Proof Sys2Proof.Machine

-- The theorems are checked one after another, so that no command needs threads of its own.
set_option Elab.async false

/-! ## WellFormed -/

/-- The readings every start needs, all at one value. -/
def inputs : StartInputs :=
  { current := 0, voltage := 12300, bankTemp := 1280#12, zoneTemps := Vector.replicate 4 1280#12
    fresh := 1280#12, grey := 1280#12, black := 1280#12, tankTemp := 1280#12, pressure := false
    awningIn := true, awningOut := false, stepIn := true, stepOut := false }

/-- A requester, and one that no valid telegram names. -/
def rq : Requester := { origin := 1#4, tag := 7#8 }
def rq0 : Requester := { origin := 0#4, tag := 7#8 }

theorem test_wf_record_of_255_bytes_refused :
    (Instr.recordReadComplete (.completed (List.replicate 255 0#8)) inputs).wellFormed = false
    ∧ (Instr.recordReadRetry (.completed (List.replicate 257 0#8)) inputs).wellFormed = false := by
  decide +kernel
theorem test_wf_peer_zero_refused :
    (Instr.peerStale 0#4).wellFormed = false ∧ (Instr.peerRemoval 0#4).wellFormed = false := by decide
theorem test_wf_requester_zero_refused :
    ([.storageSet rq0 0#8, .zoneSet rq0 0#8 0#8 0#16, .pumpSet rq0 0#8, .valveClose rq0,
      .move rq0 0#8 0#8, .halt rq0 0#8, .holdSet rq0 0#8 0#8, .faultClear rq0 0#8,
      .lightSet rq0 0#8 0#8 0#8, .eventsClear rq0 0#16, .diagQuery rq0 0#8].all
        fun c : Instr => !c.wellFormed) = true := by decide
theorem test_wf_request_payload_refused :
    (Instr.requestOther 1#4 [2#8, 7#8]).wellFormed = false
    ∧ (Instr.requestOther 1#4 (List.replicate 13 2#8)).wellFormed = false
    ∧ (Instr.requestOther 0#4 [2#8, 7#8, 8#8]).wellFormed = false
    ∧ (Instr.requestOther 1#4 [2#8, 7#8, 8#8]).wellFormed = true := by decide
theorem test_wf_frame_length_refused :
    (Instr.frameReceived 0x1A11#16 [] 0#8).wellFormed = false
    ∧ (Instr.frameReceived 0x1A1D#16 (List.replicate 13 0#8) 0#8).wellFormed = false := by decide

/-! ## One small station -/

/-- The 200 Ah bank of chapter 1, with the derate table of R5 and the OCV table of the quiet night. -/
def bankA : BankParams :=
  { letter := .a, cn := 200, eta := 243
    derate := [⟨-200, 717⟩, ⟨-100, 819⟩, ⟨0, 922⟩, ⟨250, 1024⟩]
    ocv := [⟨11800, 0⟩, ⟨12100, 200⟩, ⟨12300, 400⟩, ⟨12400, 500⟩, ⟨12600, 700⟩, ⟨12800, 1000⟩]
    restThreshold := 50, restTime := 600, limit := 600 }

/-- A tank whose level is its reading over 4. -/
def tankP : TankParams := { hosted := true, table := [⟨0, 0⟩, ⟨4000, 1000⟩] }

/-- The awning of section 6.6; its stops have sense both, active high. -/
def awningP : ActuatorParams :=
  { hosted := true, length := 400, timeout := 40, outLimit := 50, inLimit := 60, rated := 70
    inSense := .both, outSense := .both }

/-- The light channels: channel 2 is that of section 7.7, channel 0 the courtesy channel of section 7.8. -/
def channelP (n : Fin 8) : ChannelParams :=
  { hosted := true, courtesy := n == 0, rated := 15, defaultLevel := 200
    truth := if n = 0 then 0xFA#8 else 0xEE#8, ceiling := 64, fadeStep := 12, sense := .both }

/-- The parameters of the small station: one that hosts everything, at the shares of section 3.9. -/
def par : Params :=
  { bank := some bankA, tempTable := [⟨160, -400⟩, ⟨1280, 0⟩, ⟨2560, 300⟩, ⟨3840, 1250⟩]
    allowance := defaultAllowance, pause := ⟨0, 200, 240, 300⟩, resume := ⟨0, 300, 340, 400⟩
    share := ⟨256, 240, 200, 160⟩, fallbackBudget := 100, mask := 0x2000#16, levelShedding := true
    zones := Vector.replicate 4 { hosted := true, defaultMode := .comfort, kp := 40, ki := 4, rated := 80 }
    water := { fresh := tankP, grey := tankP, black := tankP, pump := true, frost := true
               pumpRated := 60, heaterRated := 30, valveRated := 8 }
    awning := awningP, step := { awningP with length := 60 }
    wind := { hosted := true, kw := 24000, threshold := 120 }, gateway := true
    channels := Vector.ofFn channelP
    scenes := Vector.replicate 8 { members := 0x03#8, levels := Vector.replicate 8 120 } }

/-- The rated current of each load record. -/
def ratedOf (i : Fin 17) : Nat :=
  if i.val < 8 then 15 else if i.val < 12 then 80 else if i.val = 12 then 30
  else if i.val = 13 then 60 else if i.val = 14 then 8 else 70

/-- The load table of the small station, every record OFF. -/
def loads0 : Vector LoadRecord 17 :=
  Vector.ofFn fun i => { LoadRecord.reset i with
    rated := ratedOf i, cls := if i = 0 then .c0 else LoadClass.initial i }

/-- The small station: station 2 in RUN, every load OFF, with the budget of section 3.9. -/
def st : State :=
  { State.reset with
    boot := { Boot.reset 2#4 false with phase := .running, passed := true, stage := .run }
    params := par
    bank := { Bank.reset with acc := 44236800000, derate := 1024, ceff := 73728000000, soc := 600 }
    budget := { Budget.reset with
      peerBanks := [⟨4#4, .a, 600, 600⟩], supplySum := 35, supplyKnown := true
      claimSums := ⟨10, 300, 40, 20⟩, governing := some 600, budget := 574
      caps := ⟨574, 538, 448, 358⟩, loads := loads0, gateOpen := true }
    zone := { ZoneCtl.reset with zones := Vector.replicate 4 { Zone.reset with mode := .comfort } }
    light := { LightCtl.reset with
      channels := Vector.replicate 8 { Channel.reset with setLevel := 200 } }
    event := { flags := 0#16, mask := 0x2000#16 } }

/-- A load record of it in another state, its controller told. -/
def withLoad (i : Fin 17) (l : LoadState) (s : State) : State :=
  let r := { s.budget.loads[i] with
    state := l, claim := claimOf s i l, hold := if l = .shed .budget then some 0 else none }
  let loads := s.budget.loads.set i r
  handLoad i l (s.setBudget { s.budget with
    loads := loads, own := ownTotals loads
    retry := if waitsInList l then s.budget.retry ++ [i] else s.budget.retry
    admitted := if drawsCurrent l then s.budget.admitted ++ [i] else s.budget.admitted })

/-- One of its actuators with another record. -/
def withAct (a : Actuator) (f : ActRec → ActRec) (s : State) : State := putAct a (f (act s.motion a)) s

/-- A motor driven toward an end, its load ADMITTED. -/
def driven (a : Actuator) (e : StopEnd) (position : Nat) (s : State) : State :=
  withAct a (fun r => { driveToward (s.params.actuator a) e r with position := position })
    (withLoad (motorLoad a) .admitted (s.setBudget { s.budget with
      loads := s.budget.loads.set (motorLoad a) { s.budget.loads[motorLoad a] with
        cls := if e = .inStop then .c0 else .c2 } }))

/-- Its storage mode held. -/
def stored (s : State) : State :=
  { s with boot := { s.boot with storage := true }, motion := { s.motion with storage := true }
           light := { s.light with forcedOff := true } }

/-- The state a command leaves. -/
def after (c : Instr) (s : State) : State :=
  match exec c s with
  | .next t => t
  | .fault _ => State.reset
  | .refused _ => State.reset

/-- The telegrams that wait or are being sent. -/
def telegrams (s : State) : List Telegram :=
  (s.line.register.toList ++ s.line.queue).map TxEntry.telegram

/-- The payload of the last telegram in the queue. -/
def lastPayload (s : State) : List Byte := ((telegrams s).getLast?.map Telegram.payload).getD []

theorem st_budgetOk : BudgetOk st := budgetOk_of_check _ (by decide +kernel)
theorem st_mirrorOk : MirrorOk st := by unfold MirrorOk; decide +kernel
theorem st_pumpOk : PumpOk st := by unfold PumpOk; decide +kernel
theorem st_storageOk : StorageOk st := by unfold StorageOk; decide +kernel


/-! ## Start-up and configuration (chapter 10) -/

/-- The 254 bytes of a record and their sum (R187). -/
def summed (body : List Byte) : List Byte :=
  body ++ natBytes ((body.map BitVec.toNat).sum % 65536)

/-- A record with these two hosting bytes and nothing more than the checks of R187 need. -/
def record (b1 b2 : Byte) : List Byte :=
  summed <| [3#8, b1, b2] ++ List.replicate 15 0#8
    ++ [0, 0, 0, 0, 0, 1, 0, 0, 0, 2, 0, 0, 0, 3, 0, 0]
    ++ [0, 1, 0, 0, 2, 0, 0, 3, 0, 0, 4, 0, 0, 5, 0, 0, 6, 200]
    ++ [10, 254, 112, 80, 0, 0, 160, 1, 44, 240, 4, 226]
    ++ [25, 0, 0, 75, 0, 128, 150, 0, 230, 225, 1, 0]
    ++ [50, 75, 60, 85, 75, 100, 0, 240, 0, 200, 0, 160] ++ List.replicate 20 0#8
    ++ [0, 0, 1, 1, 2, 2, 3, 3, 4, 4, 0, 0, 1, 1, 2, 2, 3, 3, 4, 4, 0, 0, 1, 1, 2, 2, 3, 3, 4, 4]
    ++ List.replicate 116 0#8

/-- That record with zone 0 in COMFORT and light channels 0 and 1 hosted, channel 0 a courtesy channel, both on
with no latch, scene bit or step-out (R145). -/
def litRecord : List Byte :=
  summed ((((((record 0x15#8 0x59#8).take 254).set 3 0x03#8).set 4 0x03#8).set 5 0x01#8).set 169 0x01#8
    |>.set 175 0x01#8)

/-- R187: version, sum, codes, tables, levels and shares; a wrong sum and bank code 3 fail. -/
theorem test_record_check :
    recordPasses (record 0x05#8 0x49#8) = true ∧ recordPasses (record 0x03#8 0x00#8) = false
    ∧ recordPasses ((record 0x05#8 0x49#8).set 255 0#8) = false := by decide +kernel

/-- R185, R191: the straps give the number; a reset-pin reset keeps the storage flag, a power-on reset does not. -/
theorem test_resets_and_storage_flag :
    (after (.powerOnReset 3#4) (stored st)).boot = Boot.reset 3#4 false
    ∧ (after (.resetPinReset 3#4) (stored st)).boot = Boot.reset 3#4 true := by decide +kernel

/-- R17 and the cold morning of chapter 1: with the same record the kept account stands, and Ceff and SoC are
those of the cold. -/
theorem test_reset_pin_reset_on_a_cold_morning :
    let kept : Bank := retainBank true { st.bank with
      acc := 45711360000, estimated := false, restTimer := 300000, mark := some ⟨200, .a⟩ }
    let b := firstCharge bankA (keepsRetained bankA kept) 0 12300
      (firstDerate bankA par.tempTable 1000#12 kept)
    (b.temp, b.derate, b.ceff, b.acc, b.soc, b.estimated, b.restTimer)
      = (-100, 819, 58968000000, 45711360000, 775, false, 300000) := by decide +kernel

/-- R18 and the same case with Cn changed to 220: the account starts from the OCV table. -/
theorem test_changed_record_discards_the_account :
    let kept : Bank := retainBank true { st.bank with
      acc := 45711360000, estimated := false, restTimer := 300000, mark := some ⟨200, .a⟩ }
    let p : BankParams := { bankA with cn := 220 }
    let b := firstCharge p (keepsRetained p kept) 0 12300 (firstDerate p par.tempTable 1000#12 kept)
    (b.ceff, b.acc, b.soc, b.estimated, b.restTimer)
      = (64864800000, 25945920000, 400, true, 0) := by decide +kernel

/-- R17, R18: the account outlasts a reset-pin reset of a running station, and not one during the record read. -/
theorem test_reset_during_the_read_discards :
    let kept : Bank := { st.bank with restTimer := 300000, mark := some ⟨200, .a⟩ }
    (after (.resetPinReset 2#4) { st with bank := kept }).bank.mark = some ⟨200, .a⟩
    ∧ (after (.resetPinReset 2#4) { State.afterReset 2#4 false kept with pending := [] }).bank = Bank.reset := by
  decide +kernel

/-- R87, R193: a calibration level of 255 stands for 1000 and not for 1020, so the middle of the table is 500. -/
theorem test_calibration_levels_are_in_range :
    recTank (((record 0x15#8 0x49#8).set 110 10#8).set 111 255#8) 0
      = [⟨0, 0⟩, ⟨160, 1000⟩, ⟨32, 8⟩, ⟨48, 12⟩, ⟨64, 16⟩]
    ∧ rawLevel [⟨0, 0⟩, ⟨160, 1000⟩] 80#12 = some 500 := by decide +kernel

/-- R186, R188: the second failed read starts the fallback profile, which raises CONFIG-FALLBACK alone. -/
theorem test_second_failed_read_starts_fallback :
    let s := after (.recordReadRetry .failed inputs) { State.afterReset 2#4 false Bank.reset with
      boot := { Boot.reset 2#4 false with phase := .retryWait, readTimer := 10 } }
    (s.boot.phase, s.boot.passed, s.event.flags, (telegrams s).map Telegram.kind)
      = (.running, false, 0x8000#16, [.alert, .claim]) := by decide +kernel

/-- R189: the first CLAIM and the BATTERY, CLIMATE, TANKS and MOTION of a station that hosts all; the gate is
closed. -/
theorem test_passing_record_starts_the_blocks :
    let s := after (.recordReadComplete (.completed (record 0x15#8 0x49#8)) inputs)
      (State.afterReset 2#4 false Bank.reset);
    (s.boot.passed, s.boot.stage, s.budget.gateOpen, (telegrams s).map Telegram.kind)
      = (true, .listen, false, [.claim, .battery, .climate, .tanks, .motion]) := by decide +kernel

/-- R189: at 3000 ms the gate opens. -/
theorem test_listen_interval_end :
    let s := after .listenIntervalEnd { st with
      boot := { st.boot with stage := .listen, listenTimer := 3000 }
      budget := { st.budget with gateOpen := false } }
    (s.boot.stage, s.budget.gateOpen) = (.run, true) := by decide +kernel

/-- The lay-up of section 4.7: the entry saves the mode and keeps the setpoint; the REPLY is DONE. -/
theorem test_storage_entry_saves_the_mode :
    let s := after (.storageSet rq 1#8) { st with zone := { st.zone with
      zones := st.zone.zones.set 0 { Zone.reset with mode := .eco, setpoint := 210 } } }
    (s.zone.zones[0].mode, s.zone.zones[0].saved, s.zone.zones[0].setpoint, lastPayload s)
      = (.frostGuard, some .eco, 210, [1#8, 7#8, 0#8, 1#8]) := by decide +kernel

/-! ## Bank monitor (chapter 1) -/

/-- The quiet night's bank with this account and rest timer. -/
def night (acc rest : Nat) : State :=
  { st with bank := { st.bank with
      acc := acc, soc := 542, restTimer := rest, quiet := true, sampleTimer := 250, derateTimer := 10000
      batteryTimer := 1000 } }

/-- The quiet night, row 1: the pump's 4.2 A. -/
theorem test_bank_sample_counts_charge :
    let b := (after (.bankSample (-420) 12500) (night 40000000000 0)).bank
    (b.acc, b.soc, b.quiet, b.restTimer) = (39999892480, 542, false, 0) := by decide +kernel

/-- The quiet night, last row: the 2,400th quiet sample resyncs, and BANK-RESYNC (1) is raised. -/
theorem test_bank_sample_resyncs :
    let s := after (.bankSample (-30) 12520) (night 39973772800 599750)
    (s.bank.acc, s.bank.soc, s.bank.quiet, s.bank.estimated, s.bank.restTimer,
      inSet s.event.flags .bankResync) = (45711360000, 620, true, false, 0, true) := by decide +kernel

/-- Section 1.5, the same bank in the cold: −10.0 °C. -/
theorem test_derate_evaluation_in_the_cold :
    let b := (after (.derateEvaluation 1000#12) (night 44236480000 0)).bank
    (b.temp, b.derate, b.ceff, b.acc, b.soc) = (-100, 819, 58968000000, 44236480000, 750) := by
  decide +kernel

/-- R21 and section 11.2: bank A estimated and resting, SoC 542, 0 A, 0 mV, 25.0 °C, L 600. -/
theorem test_battery_layout :
    lastPayload (after .batteryPeriod (night 40000000000 0))
      = [0xC0, 0x02, 0x1E, 0, 0, 0, 0, 0x00, 0xFA, 0x02, 0x58] := by decide +kernel

/-! ## Peer table (chapter 2) -/

/-- A peer entry of station 4 with a battery and a claim part, silent for this long. -/
def peer4 (silence : Nat) : PeerEntry :=
  { newPeer 4#4 with
    silence := silence, battery := some ⟨.a, 575, 600⟩, claim := some ⟨10, 220, 0, 20⟩ }

/-- The station with that entry, or with a frame being received. -/
def withPeer4 (silence : Nat) : State :=
  { st with peers := { st.peers with entries := [peer4 silence] } }
def hearing (s : State) : State := { s with line := { s.line with receiver := .receiving } }

/-- A frame of a kind from a station, with its check byte. -/
def frame (k : Kind) (origin : Station) (payload : List Byte) : Instr :=
  let h := headerOf k origin payload.length
  .frameReceived h payload (checkByte h payload)

/-- "A bank lost and found": at 3000 ms of silence the entry is STALE with all its parts. -/
theorem test_peer_stale :
    (after (.peerStale 4#4) (withPeer4 3000)).peers.entries = [{ peer4 3000 with stale := true }] := by
  decide +kernel

/-- "A bank lost and found": the removal takes the bank and the claims from the view and raises PEER-LOST (13). -/
theorem test_peer_removal :
    let s := after (.peerRemoval 4#4) (withPeer4 10000)
    (s.peers.entries, s.budget.peerBanks, s.budget.claimSums, inSet s.event.flags .peerLost,
      s.peers.peersLost) = ([], [], ⟨0, 0, 0, 0⟩, true, 1) := by decide +kernel

/-- "A start on a quiet morning", at 40 ms: BATTERY from 4 (A, SoC 612, L 600). -/
theorem test_battery_is_heard :
    let s := after (frame .battery 4#4 [0x00, 0x02, 0x64, 0, 0, 0, 0, 0, 0, 0x02, 0x58]) (hearing st)
    (s.peers.entries.map fun e => (e.station, e.battery), s.budget.peerBanks)
      = ([(4#4, some ⟨.a, 612, 600⟩)], [⟨4#4, .a, 612, 600⟩]) := by decide +kernel

/-! ## Budget unit (chapter 3) -/

/-- Section 3.9: heater index 8 at 80 and light channel 2 at 15. -/
def admitted39 : State := withLoad 2 .admitted (withLoad 8 .admitted st)

/-- Section 3.9: B is 574 with caps 538, 448 and 358. -/
theorem test_budget_and_caps :
    let s := computeBudget { st with budget := { st.budget with budget := 0, caps := ⟨0, 0, 0, 0⟩ } }
    (s.budget.budget, s.budget.caps) = (574, ⟨574, 538, 448, 358⟩) := by decide +kernel

/-- Section 3.9: the pump waits, for 430 + 60 is above 448. -/
theorem test_pump_waits :
    (totals admitted39.budget, admissionTest admitted39.budget .c2 60)
      = (⟨10, 380, 40, 35⟩, false)
    ∧ (admissionPass { admitted39 with budget := { admitted39.budget with retry := [13] } }).budget.retry
      = [13] := by decide +kernel

/-- Section 3.10 at 1500: light channel 2 becomes REDUCED(BUDGET) with claim 4, behind the pump in the retry
list, and BUDGET-SHED is raised. -/
theorem test_over_budget_dwell_expiry :
    let s := withLoad 13 .waiting (withLoad 2 .admitted (withLoad 9 .admitted (withLoad 8 .admitted st)))
    let t := after .overBudgetDwellExpiry { s with budget := { s.budget with
      claimSums := ⟨10, 390, 40, 20⟩, dwell := some 1500 } }
    (t.budget.loads[2].state, t.budget.loads[2].claim, t.budget.retry, t.budget.own)
      = (.reduced .budget, 4, [13, 2], ⟨0, 160, 0, 4⟩)
    ∧ (t.budget.budgetSheds, t.budget.dwell, inSet t.event.flags .budgetShed) = (1, some 0, true) := by
  decide +kernel

/-- R63 and section 3.10 at 33000: the hold of light channel 2 ends, and it waits behind the pump. -/
theorem test_budget_shed_hold_expiry :
    let s := withLoad 2 (.shed .budget) (withLoad 13 .waiting (withLoad 8 .admitted st))
    let t := after (.budgetShedHoldExpiry 2) { s with budget := { s.budget with
      loads := s.budget.loads.set 2 { s.budget.loads[2] with hold := some 30000 } } }
    (t.budget.loads[2].state, t.budget.retry) = (.waiting, [13, 2]) := by decide +kernel

/-- R66, R67 and section 11.2: the totals 0, 80, 0, 15 and the pending unmasked set {0, 3}, with 13 masked. -/
theorem test_claim_layout :
    let s := { admitted39 with
      event := { admitted39.event with flags := 0x2009#16 }
      budget := { admitted39.budget with claimDue := true, claimTimer := 2000 } }
    lastPayload (after .claimDue s) = [0, 0, 0, 80, 0, 0, 0, 15, 0x00, 0x09]
    ∧ lastPayload (after .claimHeartbeat s) = [0, 0, 0, 80, 0, 0, 0, 15, 0x00, 0x09] := by
  decide +kernel

/-! ## Zone controller (chapter 4) -/

/-- Zone 1 of section 4.5: admitted, with this temperature, integral and duty. -/
def zone45 (integral : Int) (duty : Nat) : State :=
  let s := withLoad 9 .admitted st
  { s with zone := { s.zone with
      zones := s.zone.zones.set 1 { s.zone.zones[1] with temp := some 120, integral := integral, duty := duty }
      periodTimer := 10000, windowTimer := 250, window := 39#8 } }

/-- Section 4.5 at 10 s: the reading of 12.5 degrees gives integral 75 and duty 51. -/
theorem test_zone_evaluation :
    let z := (after (.zoneEvaluation (Vector.replicate 4 1814#12)) (zone45 0 50)).zone.zones[1]
    (z.temp, z.integral, z.duty, z.output) = (some 125, 75, 51, true) := by decide +kernel

/-- R72: a reading outside the table is a fault: duty 0, the integral kept, ZONE-SENSOR-FAULT (4). -/
theorem test_zone_sensor_fault :
    let s := after (.zoneEvaluation (Vector.replicate 4 4095#12)) (zone45 75 51)
    (s.zone.zones[1].duty, s.zone.zones[1].integral, inSet s.event.flags .zoneSensorFault)
      = (0, 75, true) := by decide +kernel

/-- Section 4.5: duty 51 is on at counter 40, and duty 40 is not. -/
theorem test_heater_window_step :
    ((after .heaterWindowStep (zone45 75 51)).zone.zones[1].output,
      (after .heaterWindowStep (zone45 75 40)).zone.zones[1].output) = (true, false) := by decide +kernel

/-- R78: the setpoint 350 is clipped to 300, and the outcome is CLAMPED (1). -/
theorem test_zone_set_clamps :
    let s := after (.zoneSet rq 0#8 2#8 350#16) st
    (s.zone.zones[0].mode, s.zone.zones[0].setpoint, lastPayload s) = (.eco, 300, [1, 7, 1]) := by
  decide +kernel

/-- The lay-up of section 4.7: in storage mode the mode is saved, and the outcome is STORAGE (10). -/
theorem test_zone_set_in_storage :
    let s := after (.zoneSet rq 0#8 3#8 350#16) (stored st)
    (s.zone.zones[0].saved, s.zone.zones[0].setpoint, lastPayload s) = (some .comfort, 300, [1, 7, 10]) := by
  decide +kernel

/-! ## Water controller (chapter 5) -/

/-- "A grey tank fills and drains". -/
theorem test_tank_filter :
    [filterAfter false 880 (some 760), filterAfter false 880 (some 799), filterAfter false 880 (some 809),
      filterAfter false 880 (some 873), filterAfter false 0 (some 873)] = [775, 809, 817, 873, 763]
    ∧ [deriveWaste 799 .normal, deriveWaste 809 .normal, deriveWaste 763 .high]
      = [.normal, .high, .normal] := by decide +kernel

/-- R90 and R92: a grey tank first read above 950 is FULL at once and raises TANK-FULL (5). -/
theorem test_tank_period_full_at_start :
    let s := after (.tankPeriod 2000#12 3840#12 2000#12 2560#12)
      { st with water := { st.water with periodTimer := 1000 } }
    (s.water.grey, inSet s.event.flags .tankFull, s.water.frost.temp, s.water.fresh.raw)
      = (⟨some 960, some 960, .full⟩, true, some 300, some 500) := by decide +kernel

/-- The station with its tank at this temperature, the dwell running or the valve open. -/
def frosty (t : Int) (dwell : Option Nat) (valve : Bool) : State :=
  let s := if valve then withLoad 14 .admitted st else st
  { s with water := { s.water with
      frost := { s.water.frost with temp := some t, demand := true, dwell := dwell, valveOpen := valve } } }

/-- "A night without heat", at 2860: the dwell's end opens the valve and raises FROST-DUMP (8). -/
theorem test_frost_dwell_expiry :
    let s := after .frostDwellExpiry (frosty 8 (some 600000) false)
    (s.water.frost.valveOpen, s.budget.loads[14].state, s.budget.loads[14].claim, s.water.frost.dwell)
      = (true, .admitted, 8, none)
    ∧ (s.water.frostDumps, inSet s.event.flags .frostDump) = (1, true) := by decide +kernel

/-- "A night without heat": VALVE-CLOSE is INTERLOCK (8) at 0.7 degrees and DONE (0) at 5.5. -/
theorem test_valve_close :
    lastPayload (after (.valveClose rq) (frosty 7 none true)) = [1, 7, 8]
    ∧ lastPayload (after (.valveClose rq) (frosty 55 none true)) = [1, 7, 0]
    ∧ (after (.valveClose rq) (frosty 55 none true)).budget.loads[14].state = .off := by decide +kernel

/-- The pump asked for, with its load ADMITTED. -/
def pumping : State :=
  let s := st.setWater { st.water with pump := { st.water.pump with demand := true } }
  withLoad 13 .admitted s

/-- R94 to R97: the closing edge asks for the pump, and T_≤2 of 350 and 60 fit in 448. -/
theorem test_pressure_switch_edge :
    let s := after (.pressureSwitchEdge true) st
    (s.water.pump.demand, s.water.pump.load, s.water.pump.output) = (true, .admitted, true)
    ∧ (after (.pressureSwitchEdge false) pumping).water.pump.output = false := by decide +kernel

/-- R98: 120 s of running set dry-lock and raise PUMP-DRY (7). -/
theorem test_pump_run_timer_expiry :
    let s := after .pumpRunTimerExpiry (pumping.setWater { pumping.water with
      pump := { pumping.water.pump with runTimer := 120000 } })
    (s.water.pump.dryLock, s.water.pump.output, inSet s.event.flags .pumpDry) = (true, false, true) := by
  decide +kernel

/-- R99: a disable stops the pump, and value 2 is BAD-REQUEST (5). -/
theorem test_pump_set :
    (after (.pumpSet rq 0#8) pumping).water.pump.output = false
    ∧ (after (.pumpSet rq 0#8) pumping).water.pump.disabled = true
    ∧ lastPayload (after (.pumpSet rq 2#8) pumping) = [1, 7, 5] := by decide +kernel

/-- R108, R109 and section 11.2: fresh LOW at 100, no other level; pump DRY-LOCK (6), heater OFF (1), valve
CLOSED (1), 0.8 degrees. -/
theorem test_tanks_layout :
    let f := frosty 8 none false
    let s := f.setWater { f.water with
      fresh := ⟨some 100, some 100, .low⟩, pump := { f.water.pump with dryLock := true }
      tanksTimer := 5000, tanksDue := true }
    lastPayload (after .tanksHeartbeat s) = [2, 0, 100, 1, 255, 255, 1, 255, 255, 0xC5, 0, 8]
    ∧ lastPayload (after .tanksDue s) = [2, 0, 100, 1, 255, 255, 1, 255, 255, 0xC5, 0, 8] := by
  decide +kernel

/-! ## Motion controller (chapter 6) -/

/-- A vehicle state with the ignition off, and the station that holds it. -/
def parked (s : State) : State :=
  { s with motion := { s.motion with vehicle := .known false false, motionTimer := 2000 } }

/-- "An evening on the awning", at 0: MOVE EXTEND drives it out at class 2; STARTED (2). -/
theorem test_move_extend_starts :
    let s := after (.move rq 0#8 1#8) (parked st)
    (s.motion.awning.state, s.motion.awning.motor, s.motion.awning.latched)
      = (.extending, .outward, some ⟨.outward, 50, 40⟩)
    ∧ (s.budget.loads[15].state, s.budget.loads[15].cls, lastPayload s) = (.admitted, .c2, [1, 7, 2]) := by
  decide +kernel

/-- "An evening on the awning", at 15,000: MOVE RETRACT in FAULT is answered FAULT (7). -/
theorem test_move_retract_in_fault :
    let s := withAct .awning (fun r => { r with
      state := .fault, position := 62, faults := ⟨false, false, true, false⟩ }) (parked st)
    lastPayload (after (.move rq 0#8 0#8) s) = [1, 7, 7] := by decide +kernel

/-- "An evening on the awning", at 8000: the rise reverses the travel; the load is ADMITTED at class 0, and
INTERLOCK-RETRACT (12) is raised. -/
theorem test_vehicle_rise_reverses :
    let s := after (frame .vehicle 9#4 [1#8]) (hearing { driven .awning .outStop 160 (parked st) with
      peers := { st.peers with lastVehicle := .known false false } })
    (s.motion.awning.state, s.motion.awning.motor, s.motion.awning.pauseTimer, s.motion.awning.cause)
      = (.retracting, .off, some 0, some .vehicle)
    ∧ (s.motion.awning.position, s.budget.loads[15].cls, inSet s.event.flags .interlockRetract)
      = (160, .c0, true) := by decide +kernel

/-- R114: an edge inward from 1 reaches 0 and the next one stays there; outward it stays at the length. -/
theorem test_hall_edge :
    (after (.hallEdge .awning) (driven .awning .inStop 1 st)).motion.awning.position = 0
    ∧ (after (.hallEdge .awning) (driven .awning .inStop 0 st)).motion.awning.position = 0
    ∧ (after (.hallEdge .awning) (driven .awning .outStop 400 st)).motion.awning.position = 400 := by
  decide +kernel

/-- "A held awning and two STOWs", at 26,000: the arrival at the in-stop clears the hold under the mark. -/
theorem test_stop_arrival_clears_marked_hold :
    let s := after (.stopArrival .awning .inStop) (withAct .awning
      (fun r => { r with hold := true, releaseMark := true, cause := some .stow })
      (driven .awning .inStop 20 st))
    (s.motion.awning, s.budget.loads[15].state) = (ActRec.reset, .off) := by decide +kernel

/-- R119: a stop of sense both leaves; in the rest position nothing drives, and the position is kept. -/
theorem test_stop_departure :
    let s := after (.stopDeparture .step .outStop) (withAct .step
      (fun r => { r with state := .extended, position := 60 }) (parked st))
    (s.motion.step.state, s.motion.step.position, s.motion.step.motor) = (.stoppedMid, 60, .off) := by
  decide +kernel

/-- "An evening on the awning", at 14,200: OBSTRUCTED ends a VEHICLE retraction in FAULT; STOW-FAILED (11)
and ACTUATOR-FAULT (9) are raised. -/
theorem test_overcurrent_inward_faults :
    let s := after (.overcurrentExpiry .awning) (withAct .awning
      (fun r => { r with cause := some .vehicle, overTimer := some 200 }) (driven .awning .inStop 62 st))
    (s.motion.awning.state, s.motion.awning.position, s.motion.awning.faults.obstructed)
      = (.fault, 62, true)
    ∧ (s.event.flags, s.motion.actuatorFaults, s.budget.loads[15].state) = (0x0A00#16, 1, .off) := by
  decide +kernel

/-- R122: the awning's overcurrent outward stops it without a fault. -/
theorem test_overcurrent_outward_stops :
    let s := after (.overcurrentExpiry .awning) (withAct .awning
      (fun r => { r with overTimer := some 200 }) (driven .awning .outStop 62 st))
    (s.motion.awning.state, s.event.flags, s.budget.loads[15].state) = (.stoppedMid, 0, .off) := by
  decide +kernel

/-- R122: above the latched limit of 60 the overcurrent timer starts, and at 60 it goes idle. -/
theorem test_motor_current_crossing :
    (after (.motorCurrentCrossing .awning 61) (driven .awning .inStop 9 st)).motion.awning.overTimer = some 0
    ∧ (after (.motorCurrentCrossing .awning 60) (withAct .awning (fun r => { r with overTimer := some 9 })
        (driven .awning .inStop 9 st))).motion.awning.overTimer = none := by decide +kernel

/-- R121: a stall of 500 ms and a travel of 40 s end in FAULT. -/
theorem test_stall_and_timeout_fault :
    (after (.stall .awning) (withAct .awning (fun r => { r with stallTimer := some 500 })
      (driven .awning .outStop 9 st))).motion.awning.faults = ⟨false, true, false, false⟩
    ∧ (after (.travelTimeout .awning) (withAct .awning (fun r => { r with travelTimer := some 40000 })
      (driven .awning .outStop 9 st))).motion.awning.faults = ⟨true, false, false, false⟩ := by
  decide +kernel

/-- A reversal toward retraction whose pause has run this long. -/
def pausing (x : Nat) : State :=
  withAct .awning (fun r => { reversing r .retracting false (some .vehicle) with pauseTimer := some x })
    (driven .awning .inStop 160 st)

/-- "An evening on the awning", at 8300: the pause ends and the motor is driven in, its cause kept. -/
theorem test_pause_end_drives :
    let s := after (.pauseEnd .awning) (pausing 300)
    (s.motion.awning.motor, s.motion.awning.pauseTimer, s.motion.awning.cause, s.motion.awning.position)
      = (.inward, none, some .vehicle, 160) := by decide +kernel

/-- The wind meter with this count, 150 ms after an edge. -/
def windy (gusts : Nat) (s : State) : State :=
  { s with clock := 1150, motion := { s.motion with
      wind := { lastCapture := some 1000, speed := 160, gusts := gusts, silence := some 150 } } }

/-- "An evening on the awning", at 10,000: the third period of 150 ms gives 160 and a gust, which leaves a
retracting awning as it is. -/
theorem test_gust_while_retracting :
    let s := after .anemometerEdge (windy 2 (driven .awning .inStop 126 st))
    (s.motion.wind, s.event.flags, s.motion.awning.state)
      = (⟨some 1150, 160, 0, some 0⟩, 0, .retracting) := by decide +kernel

/-- R135: a gust brings an EXTENDED awning in with cause WIND, its hold kept, and raises WIND-RETRACT (10). -/
theorem test_gust_retracts :
    let s := after .anemometerEdge (windy 2 (withAct .awning
      (fun r => { r with state := .extended, position := 400, hold := true }) st))
    (s.motion.awning.state, s.motion.awning.cause, s.motion.awning.hold, s.event.flags)
      = (.retracting, some .wind, true, 0x0400#16) := by decide +kernel

/-- R134: silence sets the speed and the count to 0, and the next edge is a first edge. -/
theorem test_wind_silence :
    (after .windSilenceExpiry { windy 2 st with motion := { (windy 2 st).motion with
      wind := { (windy 2 st).motion.wind with silence := some 2000 } } }).motion.wind
      = WindMeter.reset := by decide +kernel

/-- "A held awning and two STOWs", at 9000: HALT stops it at its position; the hold stays, the mark goes. -/
theorem test_halt :
    let s := after (.halt rq 0#8) (withAct .awning
      (fun r => { r with hold := true, releaseMark := true, cause := some .stow })
      (driven .awning .inStop 320 st))
    (s.motion.awning, lastPayload s)
      = ({ ActRec.reset with state := .stoppedMid, position := 320, hold := true }, [1, 7, 0]) := by
  decide +kernel

/-- R129: a hold set stops an extension. -/
theorem test_hold_set :
    let s := after (.holdSet rq 0#8 1#8) (driven .awning .outStop 7 st)
    (s.motion.awning.state, s.motion.awning.hold, s.budget.loads[15].state) = (.stoppedMid, true, .off) := by
  decide +kernel

/-- R125: with the in-stop active the cleared fault gives STOWED at 0. -/
theorem test_fault_clear :
    let s := withAct .awning (fun r => { r with
      state := .fault, position := 62, faults := ⟨false, false, true, false⟩ }) st
    let t := after (.faultClear rq 0#8) { s with motion := { s.motion with
      pins := { s.motion.pins with awningIn := true } } }
    (t.motion.awning, lastPayload t) = (ActRec.reset, [1, 7, 0]) := by decide +kernel

/-- "A held awning and two STOWs", at 5000: the override brings the held awning in under the mark. -/
theorem test_stow_with_override :
    let s := withAct .awning (fun r => { r with state := .extended, position := 400, hold := true }) st
    ((after (.stow true) s).motion.awning.state, (after (.stow true) s).motion.awning.releaseMark,
      (after (.stow true) s).motion.awning.cause, (after (.stow false) s).motion.awning.state)
      = (.retracting, true, some .stow, .extended) := by decide +kernel

/-- R140 and section 11.2: the awning in FAULT at 62 of 400 is 155 per-mille with OBSTRUCTED and its hold; the
step STOWED; the wind 80. -/
theorem test_motion_layout :
    let s := withAct .awning (fun r => { r with
      state := .fault, position := 62, faults := ⟨false, false, true, false⟩, hold := true }) (parked st)
    lastPayload (after .motionHeartbeat { s with motion := { s.motion with
      wind := { s.motion.wind with speed := 80 } } })
      = [6, 0, 155, 0x84, 1, 0, 0, 0, 1, 0, 80] := by decide +kernel

/-! ## Light controller (chapter 7) -/

/-- A channel of the station with another record. -/
def withChannel (n : Fin 8) (f : Channel → Channel) (s : State) : State :=
  putChannel n (f s.light.channels[n]) s

/-- R152, the table of duties. -/
theorem test_gamma :
    [0, 1, 16, 17, 64, 128, 200, 255].map gammaDuty = [0, 1, 1, 2, 16, 64, 157, 255] := by decide

/-- Section 7.7 at 3020: one fade tick of step 12 from 64 toward 0. -/
theorem test_fade_tick :
    let s := withChannel 2 (fun c => { c with current := 64, duty := 16 }) st
    let t := after .fadeTick { s with light := { s.light with fadeTimer := 20 } }
    (t.light.channels[2].current, t.light.channels[2].duty, t.light.fadeTimer) = (52, 11, 0) := by
  decide +kernel

/-- R153: duty 16 is on at counter 15 and off at 16. -/
theorem test_pwm_counter_advance :
    let s := withChannel 2 (fun c => { c with duty := 16 }) st
    ((after .pwmCounterAdvance { s with light := { s.light with pwm := 14#8 } }).light.channels[2].output,
      (after .pwmCounterAdvance { s with light := { s.light with pwm := 15#8 } }).light.channels[2].output)
      = (true, false) := by decide +kernel

/-- Section 7.7 at 12,000: the edge clears the latch, and the shed load is released with its hold. -/
theorem test_switch_edge_releases :
    let s := withChannel 2 (fun c => { c with latch := true, on := true })
      (withLoad 2 (.shed .budget) st)
    let t := after (.switchEdge 2 false) s
    (t.light.channels[2].latch, t.budget.loads[2].state, t.budget.loads[2].hold) = (false, .off, none) := by
  decide +kernel

/-- Section 7.8: the MOTION of station 5 with its step EXTENDING lights the courtesy channel. -/
theorem test_peer_step_out_lights_the_doorway :
    let s := after (frame .motion 5#4 [0, 0, 0, 0, 2, 0, 0, 0, 0, 0, 0]) (hearing st)
    (s.light.peerStepOut, s.budget.loads[0].state, s.light.channels[0].target) = (true, .admitted, 200) := by
  decide +kernel

/-- R147: scene 1 puts channels 0 and 1 in at level 120; channel 0's truth table 0xFA ignores the scene, and
channel 1 waits, for T_≤3 of 370 and 15 are above 358. -/
theorem test_scene :
    let s := after (.scene 1#8) st
    (s.light.channels[0].on, s.light.channels[0].setLevel) = (false, 120)
    ∧ (s.light.channels[1].on, s.light.channels[1].load, s.light.channels[1].setLevel) = (true, .waiting, 120)
    ∧ (s.light.channels[2].scene, s.light.channels[2].setLevel) = (false, 200) := by decide +kernel

/-- Section 7.7 at 10,000: LIGHT-SET on the shed channel is PENDING with SHED(BUDGET) (6), 200 and 0. -/
theorem test_light_set_pending :
    let s := withChannel 2 (fun c => { c with latch := true, on := true })
      (withLoad 2 (.shed .budget) st)
    lastPayload (after (.lightSet rq 2#8 1#8 0#8) s) = [1, 7, 3, 6, 200, 0] := by decide +kernel

/-! ## Requests and events (chapter 9) -/

/-- "Flags, mask and ALERT": the ALERT carries {0, 3}, while the masked PEER-LOST (13) forms none. -/
theorem test_events_and_mask :
    let s := raiseEvent .socLow (raiseEvent .peerLost (raiseEvent .budgetShed (raiseEvent .budgetShed st)))
    (s.event.flags, (telegrams s).map Telegram.payload) = (0x2009#16, [[0x00, 0x09]]) := by decide +kernel

/-- "Flags, mask and ALERT": EVENTS-CLEAR {3} answers DONE with {0, 13}. -/
theorem test_events_clear :
    let s := after (.eventsClear rq 0x0008#16) { st with event := { st.event with flags := 0x2009#16 } }
    (s.event.flags, lastPayload s) = (0x2001#16, [1, 7, 0, 0x20, 0x01]) := by decide +kernel

/-- R182: page 1 is answered with its four counters, which are then 0; page 3 is BAD-REQUEST. -/
theorem test_diag_query :
    let s := { st with line := { st.line with txCollisions := 1, txExhausted := 2, txDropped := 65535 }
                       peers := { st.peers with peersLost := 4 } }
    let t := after (.diagQuery rq 1#8) s
    (lastPayload t, t.line.txDropped, t.peers.peersLost)
      = ([1, 7, 0, 1, 0, 1, 0, 2, 255, 255, 0, 4], 0, 0)
    ∧ lastPayload (after (.diagQuery rq 3#8) s) = [1, 7, 5] := by decide +kernel

/-- R175, R176: a REQUEST for station 3 is ignored; a HALT with two arguments is BAD-REQUEST. -/
theorem test_request_other :
    after (.requestOther 1#4 [3, 7, 4, 0]) st = st
    ∧ lastPayload (after (.requestOther 1#4 [2, 7, 4, 0, 0]) st) = [1, 7, 5]
    ∧ lastPayload (after (.requestOther 1#4 [2, 7, 4, 0]) st) = [1, 7, 0] := by decide +kernel

/-! ## Line interface (chapter 8) -/

/-- R160 and section 11.1: CLAIM, urgency 2, kind 100110, from station 2, length 10. -/
theorem test_header : headerOf .claim 2#4 10 = 0xA62A#16 := by decide

/-- R161: x^8 + x^2 + x + 1 from 0xFF; of one bit 1 after seven shifts the register is that of the rule. -/
theorem test_check_byte_step :
    crcBit 0xFF#8 true = 0xFE#8 ∧ crcBit 0xFF#8 false = 0xF9#8 ∧ crcBit 0x7F#8 true = 0xF9#8 := by decide

/-- Queue entries of these kinds, by age. -/
def queueOf (ks : List Kind) : List TxEntry :=
  (List.range ks.length).zipWith (fun n k =>
    { telegram := telegramOf k 2#4 [1#8, 7#8, BitVec.ofNat 8 n], age := n, attempts := 0 }) ks

/-- The queue's kinds and drop count after a telegram. -/
def taken (ks : List Kind) (k : Kind) : List Kind × Nat :=
  let l := takeTelegram { Line.reset with queue := queueOf ks } (telegramOf k 2#4 [])
  (l.queue.map fun e => e.telegram.kind, l.txDropped)

/-- "A burst of requests": the seventh to the last rows that change the queue's kinds. -/
theorem test_burst_of_requests :
    taken [.climate, .motion, .tanks, .claim, .reply, .reply] .motion
      = ([.climate, .motion, .tanks, .claim, .reply, .reply], 0)
    ∧ taken [.climate, .motion, .tanks, .claim, .reply, .reply, .reply, .battery] .reply
      = ([.motion, .tanks, .claim, .reply, .reply, .reply, .battery, .reply], 1)
    ∧ taken [.claim, .reply, .reply, .reply, .battery, .reply, .reply, .reply] .reply
      = ([.claim, .reply, .reply, .reply, .battery, .reply, .reply, .reply], 1)
    ∧ taken [.claim, .reply, .reply, .reply, .battery, .reply, .reply, .reply] .motion
      = ([.claim, .reply, .reply, .reply, .battery, .reply, .reply, .reply], 1) := by decide +kernel

/-- "A burst of requests": at IDLE the REPLYs go first, in order of age. -/
theorem test_line_idle_begins_a_frame :
    let s := after .lineIdle { st with line := { st.line with queue := queueOf [.claim, .battery, .reply, .reply] } }
    (s.line.register.map fun e => (e.telegram.kind, e.age), s.line.sender, s.line.idle)
      = (some (.reply, 2), .header, false) := by decide +kernel

/-- The station sending a telegram with these attempts, in the header or the body. -/
def sending (x : Sender) (attempts : Nat) : State :=
  { st with line := { st.line with
      sender := x
      register := (queueOf [.claim]).head?.map fun e => { e with attempts := attempts } } }

/-- "Three stations begin together": a contention loss costs no attempt. -/
theorem test_contention_loss :
    let s := after .contentionLoss (sending .header 2)
    (s.line.queue.map TxEntry.attempts, s.line.contentionLosses, s.line.sender) = ([2], 1, .idle) := by
  decide +kernel

/-- R164: the fifth collision drops the telegram. -/
theorem test_tx_collision :
    let s := after .txCollision (sending .body 3)
    let t := after .txCollision (sending .body 4)
    (s.line.queue.map TxEntry.attempts, s.line.txCollisions, s.line.txExhausted) = ([4], 1, 0)
    ∧ (t.line.queue, t.line.txCollisions, t.line.txExhausted) = ([], 1, 1) := by decide +kernel

/-- R165: the telegram is gone, and the next frame waits for IDLE. -/
theorem test_frame_sent :
    let s := after .frameSent (sending .body 0)
    (s.line.register, s.line.sender, s.line.queue, s.line.idle) = (none, .idle, [], false) := by
  decide +kernel

/-- R168, R169: a malformed cell and a wrong check byte count rx_check, a length above 12 and a STOW with
length 2 count rx_format, and the own origin is a CLASH (14). -/
theorem test_bad_frames :
    (after (.receiveError .malformedCell) (hearing st)).line.rxCheck = 1
    ∧ (after (.receiveError .lengthAbove12) (hearing st)).line.rxFormat = 1
    ∧ (after (.frameReceived 0x0611#16 [0#8] (checkByte 0x0611#16 [0#8] + 1)) (hearing st)).line.rxCheck = 1
    ∧ (after (frame .stow 1#4 [0, 0]) (hearing st)).line.rxFormat = 1
    ∧ inSet (after (frame .stow 2#4 [0]) (hearing st)).event.flags .clash = true := by decide +kernel

/-- R159, R168: another station's start cell. -/
theorem test_falling_edge :
    let s := after .lineFallingEdge { st with line := { st.line with idle := true, receiver := .waiting } }
    (s.line.idle, s.line.receiver) = (false, .receiving) := by decide +kernel

/-! ## The queue of commands and the passing of time -/

/-- A command in front runs and leaves the rest; with none a cell passes, and with the fiftieth a millisecond. -/
theorem test_step :
    (match step { st with pending := [.switchEdge 2 true, .lineIdle] } with
      | .next t => (t.pending, t.light.channels[2].latch, t.clock)
      | _ => ([], false, 0)) = ([.lineIdle], true, 0)
    ∧ ([48, 49].map fun n => match step { st with cells := n } with
      | .next t => (t.cells, t.clock, t.bank.sampleTimer)
      | _ => (0, 0, 0)) = [(49, 0, 0), (0, 1, 1)] := by decide +kernel

/-- R160, R163: the 17th cell, the start cell before it among them, is the last of the header. -/
theorem test_header_lasts_seventeen_cells :
    ([15, 16].map fun n => (tickLine { (sending .header 0).line with sentCells := n }).sender)
      = [.header, .body] := by decide +kernel

/-- The table gives no row bits: no word spells a command. -/
theorem test_no_word_spells_a_command :
    decodeTableWord 16 0x0611 = none ∧ st.withFetchWord 16 0x0611 = st := by decide +kernel

/-! ## States that meet the statements' hypotheses, clause by clause -/

theorem st_loadsSound : LoadsSound st := loadsSound_of_checks _ (by decide +kernel) (by decide +kernel)

/-- Before the last cell and at it, with a header being sent, at its end, and none; running and not. -/
theorem witness_IdleStepLetsOneCellPass :
    st.pending = [] ∧ st.running = true ∧ State.reset.pending = [] ∧ State.reset.running = false
    ∧ (48 : Nat) + 1 < 50 ∧ 50 ≤ (49 : Nat) + 1
    ∧ (sending .header 0).pending = [] ∧ (sending .header 0).running = true
    ∧ (sending .header 0).line.sender = .header ∧ 17 ≤ (16 : Nat) + 1 := by
  decide +kernel

theorem witness_BlocksReachLineByTelegramsOnly :
    handsTelegrams .batteryPeriod = true
    ∧ (∃ t, exec .batteryPeriod (night 0 0) = .next t) ∧ (night 0 0).boot.station = 2#4
    ∧ (∃ t, exec .batteryPeriod State.reset = .next t) ∧ State.reset.boot.station = 0#4 :=
  ⟨rfl, ⟨_, rfl⟩, rfl, ⟨_, rfl⟩, rfl⟩

theorem witness_TransmitQueueStaysInBounds :
    LineOk (sending .body 4)
    ∧ ∃ t, step { sending .body 4 with pending := [.txCollision] } = .next t :=
  ⟨by unfold LineOk; decide +kernel, ⟨_, rfl⟩⟩

theorem witness_LoadTableStaysConsistent :
    LoadsSound admitted39 ∧ ∃ t, step { admitted39 with pending := [.listenIntervalEnd] } = .next t :=
  ⟨loadsSound_of_checks _ (by decide +kernel) (by decide +kernel), ⟨_, rfl⟩⟩

/-- Light channel 2 latched on, its load ADMITTED. -/
def lampOn : State :=
  withChannel 2 (fun c => { c with latch := true, on := true }) (withLoad 2 .admitted pumping)

theorem witness_LoadsAndControllersStayInStep :
    LoadsSound lampOn ∧ LampsOk lampOn ∧ lampOn.light.channels[2].on = true
    ∧ ∃ t, step { lampOn with pending := [.pressureSwitchEdge false] } = .next t :=
  ⟨loadsSound_of_checks _ (by decide +kernel) (by decide +kernel), by unfold LampsOk; decide +kernel,
    by decide +kernel, ⟨_, rfl⟩⟩

theorem st_lightsOk : LightsOk st := by
  intro n
  refine ⟨?_, ?_, ?_⟩
  · revert n; decide +kernel
  · revert n; decide +kernel
  · intro r hr
    cases r <;> (revert n; decide +kernel)

/-- A peer without a claim, a bank or a supply, whose vehicle is in use, its step out and its grey tank full. -/
def peer5 : PeerEntry :=
  { newPeer 5#4 with vehicle := some ⟨true, false⟩, motion := some true, tanks := some true }

/-- The station that has heard both peers, its consumers told. -/
def heard : State :=
  { st with
    peers := { st.peers with
      entries := [peer4 10000, peer5], lastVehicle := .known true false, lastStepOut := true
      lastGreyFull := true }
    budget := { st.budget with
      peerBanks := [⟨4#4, .a, 575, 600⟩], supplySum := 0, supplyKnown := false, claimSums := ⟨10, 220, 0, 20⟩ }
    motion := { st.motion with vehicle := .known true false }
    water := { st.water with peerGreyFull := true }, light := { st.light with peerStepOut := true } }

theorem heard_viewOk : ViewOk heard := by unfold ViewOk; decide +kernel

theorem witness_OutputsAccountsAndTablesStaySound :
    HeatersOk heard ∧ LightsOk heard ∧ BankOk heard ∧ PeersOk heard ∧ ViewOk heard
    ∧ QuietBeforeStart heard ∧ QuietBeforeStart State.reset
    ∧ ∃ t, step { heard with pending := [.heaterWindowStep] } = .next t :=
  ⟨by unfold HeatersOk; decide +kernel, st_lightsOk, by unfold BankOk; decide +kernel,
    by unfold PeersOk; decide +kernel, heard_viewOk,
    fun h => absurd h (by decide +kernel), fun _ => ⟨rfl, rfl, rfl, rfl, rfl, rfl, rfl, rfl, rfl⟩,
    ⟨_, rfl⟩⟩

/-- The awning driven out to the end of its length, and pausing inward. -/
theorem witness_ActuatorsStaySound :
    MotionOk (driven .awning .outStop 400 (parked st)) ∧ MotionOk (pausing 300)
    ∧ ∃ t, step { driven .awning .outStop 400 (parked st) with pending := [.hallEdge .awning] } = .next t :=
  ⟨by unfold MotionOk ActuatorOk; decide +kernel, by unfold MotionOk ActuatorOk; decide +kernel, ⟨_, rfl⟩⟩

/-- A start whose read has run this long. -/
def reading (phase : BootPhase) (x : Nat) : State :=
  { State.afterReset 2#4 false Bank.reset with
    boot := { Boot.reset 2#4 false with phase := phase, readTimer := x } }

theorem reading_quiet (phase : BootPhase) (x : Nat) : QuietBeforeStart (reading phase x) :=
  fun _ => ⟨rfl, rfl, rfl, rfl, rfl, rfl, rfl, rfl, rfl⟩

/-- Both resets, on a part whose blocks run, with storage mode held, and on one that reads its record. -/
theorem witness_EitherResetLeavesListedValues :
    (∃ t, exec (.powerOnReset 3#4) (stored st) = .next t) ∧ (∃ t, exec (.resetPinReset 3#4) (stored st) = .next t)
    ∧ (stored st).running = true ∧ (reading .retryWait 10).running = false :=
  ⟨⟨_, rfl⟩, ⟨_, rfl⟩, by decide +kernel, by decide +kernel⟩

theorem witness_FailedReadsEndInTheFallbackProfile :
    (reading .reading 50).boot.readTimer ≤ 50 ∧ 50 < (reading .reading 51).boot.readTimer
    ∧ (List.replicate 255 0#8).length ≠ 256 ∧ (List.replicate 256 0#8).length = 256
    ∧ recordPasses (List.replicate 256 0#8) = false
    ∧ 10 ≤ (reading .retryWait 10).boot.readTimer ∧ 60 < (reading .retryWait 61).boot.readTimer
    ∧ (reading .retryWait 10).boot.phase = .retryWait ∧ (reading .reading 50).boot.phase = .reading
    ∧ (reading .retryWait 10).boot.station ≠ 0#4 := by
  decide +kernel

theorem witness_PassingRecordStartsEveryBlock :
    recordPasses (record 0x05#8 0x49#8) = true
    ∧ (paramsOfRecord (record 0x05#8 0x49#8)).bank.isSome = true
    ∧ (reading .reading 50).boot.readTimer ≤ 50
    ∧ (reading .retryWait 10).boot.readTimer = 10 ∧ (reading .retryWait 60).boot.readTimer ≤ 60
    ∧ State.reset.boot.phase = .reading ∧ State.reset.boot.station = 0#4 := by
  decide +kernel

/-- A read at each end of its time, with a record that hosts a bank, a zone, tanks, the pump and the frost
function; a mark that names that bank, one that does not, and none; a quiet sample below and at the rest time,
and one that is not quiet; a reading in the conversion table and one outside it. -/
theorem witness_BankZonesAndWaterStart :
    let p := paramsOfRecord litRecord
    recordPasses litRecord = true
    ∧ RecordComesIn (.recordReadComplete (.completed litRecord) inputs) litRecord inputs (reading .reading 50)
    ∧ RecordComesIn (.recordReadRetry (.completed litRecord) inputs) litRecord inputs (reading .retryWait 10)
    ∧ RecordComesIn (.recordReadRetry (.completed litRecord) inputs) litRecord inputs (reading .retryWait 60)
    ∧ QuietBeforeStart (reading .reading 50)
    ∧ p.bank.map (fun b => (b.cn, b.letter, b.restThreshold, b.restTime)) = some (10, .a, 0, 600)
    ∧ (paramsOfRecord (record 0x00#8 0x00#8)).bank = none ∧ recordPasses (record 0x00#8 0x00#8) = true
    ∧ (0 : Int).natAbs ≤ 0 ∧ ¬ (1 : Int).natAbs ≤ 0
    ∧ ¬ 600 * 1000 ≤ 599500 + 250 ∧ 600 * 1000 ≤ 599750 + 250
    ∧ p.zones[0].hosted = true ∧ p.zones[0].defaultMode = .comfort
    ∧ convertTemp p.tempTable 1280#12 = some 0 ∧ convertTemp p.tempTable 159#12 = none
    ∧ p.water.fresh.hosted = true ∧ p.water.grey.hosted = false
    ∧ rawLevel p.water.fresh.table 84#12 = some 16 ∧ rawLevel p.water.fresh.table 85#12 = none
    ∧ p.water.pump = true ∧ p.water.frost = true := by
  refine ⟨by decide +kernel, .inl ⟨rfl, by decide +kernel, by decide +kernel⟩,
    .inr ⟨rfl, by decide +kernel, by decide +kernel, by decide +kernel⟩,
    .inr ⟨rfl, by decide +kernel, by decide +kernel, by decide +kernel⟩, reading_quiet _ _, ?_⟩
  decide +kernel

/-- The stops of the awning in each of their four positions, on both of its channels. -/
theorem witness_MotionAndLightsStart :
    let p := paramsOfRecord litRecord
    recordPasses litRecord = true
    ∧ RecordComesIn (.recordReadComplete (.completed litRecord) inputs) litRecord inputs (reading .reading 50)
    ∧ QuietBeforeStart (reading .reading 50)
    ∧ p.awning.hosted = true ∧ p.awning.inSense = .rising ∧ p.step.hosted = false ∧ p.wind.hosted = true
    ∧ ([(true, true), (true, false), (false, true), (false, false)].map fun x =>
        (after (.recordReadComplete (.completed litRecord)
          { inputs with awningIn := x.1, awningOut := x.2 }) (reading .reading 50)).motion.awning.state)
      = [.fault, .stowed, .extended, .stoppedMid]
    ∧ p.channels[0].hosted = true ∧ p.channels[0].courtesy = true ∧ p.channels[0].truth.getLsbD 0 = true
    ∧ p.channels[1].hosted = true ∧ p.channels[1].courtesy = false ∧ p.channels[1].truth.getLsbD 0 = true
    ∧ (reading .reading 50).boot.storage = false :=
  ⟨by decide +kernel, .inl ⟨rfl, by decide +kernel, by decide +kernel⟩, reading_quiet _ _,
    by decide +kernel⟩

theorem witness_ParametersLieInTheirRanges :
    (paramsOfRecord (record 0x05#8 0x49#8)).bank.isSome = true
    ∧ (paramsOfRecord (record 0x05#8 0x49#8)).wind.hosted = true
    ∧ (paramsOfRecord (record 0x05#8 0x49#8)).wind.kw = 1
    ∧ (paramsOfRecord (record 0x05#8 0x49#8)).wind.threshold = 1
    ∧ (paramsOfRecord (record 0x05#8 0x49#8)).water.pump = true
    ∧ (paramsOfRecord (record 0x05#8 0x59#8)).water.frost = true
    ∧ (paramsOfRecord litRecord).water.fresh.hosted = true
    ∧ (paramsOfRecord litRecord).water.fresh.table ≠ [] := by
  decide +kernel

/-- The listen interval at its end, with a record that passed or not, at this station number. -/
def listening (passed : Bool) (n : Station) : State :=
  { st with boot := { st.boot with
      stage := .listen, listenTimer := 3000, passed := passed, station := n } }

theorem witness_ListenIntervalEndOpensGate :
    (listening true 2#4).running = true ∧ (listening true 2#4).boot.stage = .listen
    ∧ 3000 ≤ (listening true 2#4).boot.listenTimer
    ∧ (listening true 2#4).boot.passed = true ∧ (listening true 2#4).boot.station ≠ 0#4
    ∧ (listening false 2#4).boot.passed = false ∧ (listening true 0#4).boot.station = 0#4 := by
  decide +kernel

/-- The station without some of its functions: pump and frost, the awning, or the odd channels. -/
def without : State :=
  { st with params := { st.params with
      water := { st.params.water with pump := false, frost := false }
      awning := ActuatorParams.absent, wind := WindParams.absent
      channels := Vector.ofFn fun n : Fin 8 =>
        if n.val % 2 = 1 then ChannelParams.absent else { channelP n with sense := .rising } } }

theorem without_loadsSound : LoadsSound without :=
  loadsSound_of_checks _ (by decide +kernel) (by decide +kernel)

/-- The awning still in this state, its in-stop active or not. -/
def still (x : ActState) (inActive : Bool) : State :=
  let s := withAct .awning (fun r => { r with state := x, position := if x = .stowed then 0 else 9 }) (parked st)
  { s with motion := { s.motion with pins := { s.motion.pins with awningIn := inActive } } }

/-- Storage mode held, with one zone's mode saved. -/
def layUp : State :=
  let s := stored st
  { s with zone := { s.zone with
      zones := (s.zone.zones.set 0 { Zone.reset with mode := .frostGuard, saved := some .off }).set 1
        { Zone.reset with mode := .frostGuard, saved := some .eco } } }

theorem layUp_loadsSound : LoadsSound layUp :=
  loadsSound_of_checks _ (by decide +kernel) (by decide +kernel)

/-- The awning out and held, the awning in FAULT, and storage mode held with the pump's demand set. -/
def heldOut : State := withAct .awning (fun r => { r with hold := true }) (still .extended false)
def failed : State :=
  withAct .awning (fun r => { r with faults := { FaultSet.empty with stall := true } }) (still .fault false)
def layUpThirsty : State :=
  layUp.setWater { layUp.water with pump := { layUp.water.pump with demand := true } }

/-- The motion controller at each entry of R136's table without override, hosted or not. -/
theorem entry_sound :
    (∀ x ∈ [still .stowed true, still .extended true, still .extended false, still .stoppedMid false, heldOut,
        failed, driven .awning .outStop 9 (parked st), driven .awning .inStop 9 (parked st), parked without],
      takesRequests x = true ∧ x.boot.storage = false ∧ MotionOk x) := by
  unfold MotionOk ActuatorOk
  decide +kernel

theorem entry_loadsSound :
    LoadsSound (still .extended false) ∧ LoadsSound (driven .awning .outStop 9 (parked st))
    ∧ LoadsSound (parked without) ∧ LoadsSound layUpThirsty := by
  refine ⟨?_, ?_, ?_, ?_⟩ <;> exact loadsSound_of_checks _ (by decide +kernel) (by decide +kernel)

/-- Storage mode with no zone's mode saved, with two saved, and with the pump to be asked for at the exit. -/
theorem witness_StorageSetHandsTheModeOn :
    takesRequests st = true ∧ st.boot.storage = false ∧ 2 ≤ (2#8 : Byte).toNat
    ∧ (0#8 : Byte) = bitOf 0 st.boot.storage ∧ LoadsSound st
    ∧ (∀ x ∈ [still .extended false, driven .awning .outStop 9 (parked st), parked without],
        LoadsSound x ∧ takesRequests x = true ∧ x.boot.storage = false ∧ MotionOk x)
    ∧ takesRequests layUp = true ∧ layUp.boot.storage = true ∧ LoadsSound layUp
    ∧ LoadsSound layUpThirsty ∧ takesRequests layUpThirsty = true ∧ layUpThirsty.boot.storage = true
    ∧ ((act heldOut.motion .awning).hold = true ∧ (act heldOut.motion .awning).state = .extended
      ∧ (act failed.motion .awning).state = .fault
      ∧ (act (still .stowed true).motion .awning).state = .stowed
      ∧ (act (still .stoppedMid false).motion .awning).state = .stoppedMid
      ∧ (act (driven .awning .outStop 9 (parked st)).motion .awning).state = .extending
      ∧ (act (driven .awning .inStop 9 (parked st)).motion .awning).state = .retracting
      ∧ stopActive (still .extended true) .awning .inStop = true
      ∧ stopActive (still .extended false) .awning .inStop = false
      ∧ (without.params.actuator .awning).hosted = false
      ∧ (parked without).budget.loads[motorLoad .awning].state = .off)
    ∧ (layUp.zone.zones[0].saved = some .off ∧ layUp.zone.zones[1].saved = some .eco
      ∧ layUp.params.zones[0].hosted = true ∧ layUp.params.zones[1].hosted = true)
    ∧ (layUpThirsty.params.water.pump = true ∧ layUp.water.pump.demand = false
      ∧ layUpThirsty.water.pump.demand = true ∧ layUpThirsty.water.pump.disabled = false
      ∧ layUpThirsty.water.pump.dryLock = false ∧ layUpThirsty.water.fresh.state ≠ .empty
      ∧ layUpThirsty.water.grey.state ≠ .full ∧ layUpThirsty.water.peerGreyFull = false
      ∧ layUpThirsty.water.frost.valveOpen = false) :=
  ⟨by decide +kernel, by decide +kernel, by decide, by decide +kernel, st_loadsSound,
    by
      simp only [List.mem_cons, List.not_mem_nil, or_false, forall_eq_or_imp, forall_eq]
      exact ⟨⟨entry_loadsSound.1, entry_sound _ (by simp)⟩,
        ⟨entry_loadsSound.2.1, entry_sound _ (by simp)⟩, entry_loadsSound.2.2.1, entry_sound _ (by simp)⟩,
    by decide +kernel, by decide +kernel, layUp_loadsSound, entry_loadsSound.2.2.2, by decide +kernel,
    by decide +kernel, by decide +kernel, by decide +kernel, by decide +kernel⟩

/-- At the clamp of 320 A, and at a rest one sample from the rest time and one more. -/
theorem witness_BankSampleCountsChargeAndResyncs :
    (night 0 0).running = true ∧ (night 0 0).params.bank = some bankA
    ∧ 250 ≤ (night 0 0).bank.sampleTimer
    ∧ max (-32000) (min 32000 (-32001 : Int)) = -32000
    ∧ ((0 : Nat) : Int) = max 0 (min ((night 0 0).bank.ceff : Int) (0 + (-32000) * 256))
    ∧ ¬ (decide ((-32000 : Int).natAbs ≤ bankA.restThreshold) = true ∧ bankA.restTime * 1000 ≤ 0)
    ∧ decide ((50 : Int).natAbs ≤ bankA.restThreshold) = true
    ∧ ¬ bankA.restTime * 1000 ≤ 599500 + 250 ∧ bankA.restTime * 1000 ≤ 599750 + 250
    ∧ ((620 : Nat) : Int) = max 0 (min 1000 (lookup bankA.ocv (min 12520 65535 : Nat))) := by
  decide +kernel

theorem witness_DerateEvaluationFollowsTemperature :
    (night 0 0).running = true ∧ (night 0 0).params.bank = some bankA
    ∧ 10000 ≤ (night 0 0).bank.derateTimer
    ∧ (-100 : Int) = (convertTemp (night 0 0).params.tempTable 1000#12).getD (night 0 0).bank.temp
    ∧ ((819 : Nat) : Int) = max 1 (min 1024 (lookup bankA.derate (-100)))
    ∧ 819 ≠ (night 0 0).bank.derate
    ∧ (250 : Int) = (convertTemp (night 0 0).params.tempTable 4095#12).getD (night 0 0).bank.temp
    ∧ ((1024 : Nat) : Int) = max 1 (min 1024 (lookup bankA.derate 250))
    ∧ 1024 = (night 0 0).bank.derate := by
  decide +kernel

theorem witness_SilentPeersAgeAndLeave :
    heard.running = true ∧ findPeer 4#4 heard.peers.entries = some (peer4 10000)
    ∧ 10000 ≤ (peer4 10000).silence ∧ (peer4 10000).claim.isSome = true ∧ ViewOk heard
    ∧ findPeer 5#4 [newPeer 5#4] = some (newPeer 5#4)
    ∧ (newPeer 5#4).claim = none ∧ (newPeer 5#4).battery = none
    ∧ (newPeer 5#4).supply = none ∧ (newPeer 5#4).vehicle = none :=
  ⟨by decide +kernel, by decide +kernel, by decide, by decide, heard_viewOk, by decide, by decide⟩

/-- The peer table with its 14 places taken, station 15 among them. -/
def fullTable : List PeerEntry :=
  ([1, 3, 4, 5, 6, 7, 8, 9, 10, 11, 12, 13, 14, 15] : List Station).map newPeer

/-- An unconfigured station with its table full of stations 1 to 14, of which two may be STALE for as long. -/
def crowded (stale parts : Bool) : State :=
  hearing { st with
    boot := { st.boot with station := 0#4 }
    peers := { st.peers with entries :=
      ([1, 2, 3, 4, 5, 6, 7, 8, 9, 10, 11, 12, 13, 14] : List Station).map fun n =>
        { newPeer n with
          stale := stale && (n == 3#4 || n == 9#4), silence := 5000
          claim := if parts then some ⟨10, 220, 0, 20⟩ else none } } }

/-- A VEHICLE, a SCENE, a STOW and a REQUEST; a table with a place, one that holds the origin, and one without
either, with and without a STALE entry. -/
theorem witness_ValidFrameIsHeardByThePeerTable :
    (hearing st).running = true ∧ (hearing st).line.idle = false
    ∧ (hearing st).line.receiver = .receiving ∧ (hearing st).line.sender = .idle
    ∧ badForm 0x05F2#16 [0#8, 0#8] = false ∧ headerOrigin 0x05F2#16 ≠ 0#4
    ∧ headerOrigin 0x05F2#16 ≠ (hearing st).boot.station
    ∧ (hearing st).peers.entries.length < 14
    ∧ fullTable.length = 14 ∧ (findPeer (headerOrigin 0x05F2#16) fullTable).isSome = true
    ∧ badForm (headerOf .scene 15#4 1) [0#8] = false
    ∧ kindOfCode (headerKind (headerOf .scene 15#4 1)) = some .scene
    ∧ badForm (headerOf .stow 15#4 1) [1#8] = false
    ∧ kindOfCode (headerKind (headerOf .stow 15#4 1)) = some .stow
    ∧ badForm (headerOf .request 15#4 3) [2#8, 7#8, 8#8] = false
    ∧ kindOfCode (headerKind (headerOf .request 15#4 3)) = some .request
    ∧ headerOrigin (headerOf .scene 15#4 1) = 15#4
    ∧ (crowded true true).running = true ∧ (crowded true true).line.receiver = .receiving
    ∧ (crowded true true).boot.station = 0#4 ∧ PeersOk (crowded true true)
    ∧ (crowded true true).peers.entries.length = 14
    ∧ findPeer 15#4 (crowded true true).peers.entries = none
    ∧ IsLongestStale (crowded true true).peers.entries
        { newPeer 3#4 with stale := true, silence := 5000, claim := some ⟨10, 220, 0, 20⟩ }
    ∧ PeersOk (crowded true false)
    ∧ IsLongestStale (crowded true false).peers.entries
        { newPeer 3#4 with stale := true, silence := 5000 }
    ∧ PeersOk (crowded false true)
    ∧ (∀ e ∈ (crowded false true).peers.entries, e.stale = false) := by
  unfold PeersOk IsLongestStale
  decide +kernel

/-- Class 1, whose levels are 200 and 300, at this governing SoC, its shed flag set or clear. -/
def governed (g : Option Nat) (flag : Bool) : State :=
  { st with budget := { st.budget with governing := g, shed := ⟨false, flag, false, false⟩ } }

/-- Class 1 at its pause level and one above it, at its resume level and one below it, and without a governing
SoC, its flag clear and set (R42); and in the fallback profile (R188). -/
theorem witness_HandoversSetBudgetAndShedFlags :
    st.params.levelShedding = true ∧ LoadClass.c1 ≠ .c0
    ∧ perClass st.params.pause .c1 = 200 ∧ perClass st.params.resume .c1 = 300
    ∧ ([some 200, some 201, some 299, some 300, none].map fun g =>
        perClass (evalShedFlags (governed g false)).budget.shed .c1) = [true, false, false, false, false]
    ∧ ([some 200, some 201, some 299, some 300, none].map fun g =>
        perClass (evalShedFlags (governed g true)).budget.shed .c1) = [true, true, true, false, false]
    ∧ ([200, 201].map fun g =>
        perClass (handOwnBank ⟨.a, g, 600⟩ (governed none false)).budget.shed .c1) = [true, false]
    ∧ ([299, 300].map fun g => perClass
        (handQuantities [⟨4#4, .a, g, 600⟩] 35 true ⟨10, 300, 40, 20⟩ (governed none true)).budget.shed .c1)
      = [true, false]
    ∧ ({ governed (some 200) false with params := Params.fallback } : State).params.levelShedding = false
    ∧ knownBanks Budget.reset = [] ∧ Budget.reset.supplyKnown = false := by
  decide +kernel

theorem witness_ClassCapsFollowBudget :
    recordPasses (record 0x05#8 0x49#8) = true ∧ par.share.c0 = 256 ∧ par.share.c1 ≤ 256
    ∧ par.share.c2 ≤ par.share.c1 ∧ par.share.c3 ≤ par.share.c2 := by
  decide +kernel

/-- Loads of class 3 in these states, with its shed flag as given. -/
def class3 (flag : Bool) (i : Fin 17) (l : LoadState) : State :=
  withLoad i l { st with budget := { st.budget with shed := ⟨false, false, false, flag⟩ } }

theorem class3_loadsSound :
    LoadsSound (class3 false 2 .admitted) ∧ LoadsSound (class3 false 2 .waiting)
    ∧ LoadsSound (class3 false 2 (.reduced .budget)) ∧ LoadsSound (class3 false 2 (.shed .budget))
    ∧ LoadsSound (class3 true 2 (.reduced .level)) ∧ LoadsSound (class3 true 2 (.shed .level))
    ∧ LoadsSound (class3 true 2 .off) := by
  refine ⟨?_, ?_, ?_, ?_, ?_, ?_, ?_⟩ <;>
    exact loadsSound_of_checks _ (by decide +kernel) (by decide +kernel)

theorem witness_ShedFlagChangesTreatTheirClass :
    LoadsSound (class3 false 2 .admitted) ∧ LoadClass.c3 ≠ .c0
    ∧ LoadsSound (class3 true 2 (.reduced .level)) ∧ LoadsSound (class3 true 2 (.shed .level))
    ∧ (class3 true 2 (.reduced .level)).budget.loads[2].cls = .c3
    ∧ (class3 true 2 (.reduced .level)).budget.loads[2].state = .reduced .level
    ∧ (class3 true 2 (.shed .level)).budget.loads[2].state = .shed .level :=
  ⟨class3_loadsSound.1, by decide, class3_loadsSound.2.2.2.2.1, class3_loadsSound.2.2.2.2.2.1,
    by decide +kernel, by decide +kernel, by decide +kernel⟩

theorem witness_AskIsAnsweredByClassAndFlag :
    LoadsSound st ∧ st.budget.loads[0].cls = .c0 ∧ st.budget.loads[0].state = .off
    ∧ st.budget.loads[2].cls ≠ .c0 ∧ st.budget.loads[2].state = .off
    ∧ perClass st.budget.shed st.budget.loads[2].cls = false
    ∧ LoadsSound (class3 true 2 .off)
    ∧ perClass (class3 true 2 .off).budget.shed (class3 true 2 .off).budget.loads[2].cls = true
    ∧ (class3 false 2 .waiting).budget.loads[2].state ≠ .off :=
  ⟨st_loadsSound, by decide +kernel, by decide +kernel, by decide +kernel, by decide +kernel,
    by decide +kernel, class3_loadsSound.2.2.2.2.2.2, by decide +kernel, by decide +kernel⟩

/-- The pump waits, and behind it light channel 2, which no longer passes its test when the pump is in. -/
def twoWaiting : State := withLoad 2 .waiting (withLoad 13 .waiting (st.setWater
  { st.water with pump := { st.water.pump with demand := true } }))

theorem witness_PassAdmitsUntilFirstFailure :
    LoadsSound twoWaiting ∧ twoWaiting.budget.retry = [13, 2]
    ∧ (admissionPass twoWaiting).budget.retry = [2]
    ∧ LoadsSound (class3 false 2 .waiting) ∧ (class3 false 2 .waiting).budget.gateOpen = true
    ∧ (class3 false 2 .waiting).budget.retry = [2]
    ∧ BudgetOk State.reset ∧ State.reset.budget.gateOpen = false :=
  ⟨loadsSound_of_checks _ (by decide +kernel) (by decide +kernel), by decide +kernel, by decide +kernel,
    class3_loadsSound.2.1, by decide +kernel, by decide +kernel, budgetOk_of_check _ (by decide +kernel),
    by decide +kernel⟩

/-- The budget 0 overdrawn by one load, the dwell of station 2 at its end. -/
def overdrawn (i : Fin 17) (l : LoadState) : State :=
  let s := withLoad i l st
  { s with budget := { s.budget with budget := 0, caps := ⟨0, 0, 0, 0⟩, dwell := some 1500 } }

/-- The hold of light channel 2 at its end, under its shed flag or not. -/
def held (flag : Bool) : State :=
  let s := withLoad 2 (.shed .budget) st
  { s with budget := { s.budget with
      shed := ⟨false, false, false, flag⟩
      loads := s.budget.loads.set 2 { s.budget.loads[2] with hold := some 30000 } } }

theorem overdrawn_isVictim :
    IsVictim (overdrawn 8 .admitted).budget 8 ∧ IsVictim (overdrawn 2 .admitted).budget 2
    ∧ IsVictim (overdrawn 2 (.reduced .budget)).budget 2 := by
  refine ⟨⟨[], [], ?_, ?_, ?_, ?_⟩, ⟨[], [], ?_, ?_, ?_, ?_⟩, ⟨[], [], ?_, ?_, ?_, ?_⟩⟩ <;>
    first
    | (unfold qualifies; decide +kernel)
    | decide +kernel

theorem witness_OverBudgetWatchShedsAndReturns :
    LoadsSound (overdrawn 8 .admitted) ∧ LoadsSound (overdrawn 2 .admitted)
    ∧ LoadsSound (overdrawn 2 (.reduced .budget))
    ∧ (∀ n : Fin 8, st.params.channels[n].ceiling ≤ 255)
    ∧ (overdrawn 2 .admitted).budget.dwell = some 1500
    ∧ 1000 + 250 * st.boot.station.toNat ≤ 1500
    ∧ (overdrawn 2 .admitted).budget.caps.c3 ≤ (overdrawn 2 .admitted).budget.budget
    ∧ (overdrawn 2 .admitted).budget.budget < totalAll (overdrawn 2 .admitted).budget
    ∧ (overdrawn 14 .off).budget.admitted = []
    ∧ LoadsSound (held false) ∧ LoadsSound (held true)
    ∧ (held true).budget.loads[2].hold = some 30000
    ∧ perClass (held true).budget.shed (held true).budget.loads[2].cls = true
    ∧ perClass (held false).budget.shed (held false).budget.loads[2].cls = false := by
  refine ⟨?_, ?_, ?_, ?_, ?_, ?_, ?_, ?_, ?_, ?_, ?_, ?_, ?_, ?_⟩ <;>
    first
    | exact loadsSound_of_checks _ (by decide +kernel) (by decide +kernel)
    | decide +kernel

/-- Zone 3 in mode OFF, zone 2 not hosted. -/
def zonesMixed : State :=
  let s := zone45 75 51
  { s with
    params := { s.params with zones := s.params.zones.set 2 ZoneParams.absent }
    zone := { s.zone with zones := s.zone.zones.set 3 { Zone.reset with mode := .off } } }

/-- The same zones on an unconfigured station, and a station that hosts none. -/
def zonesUnnamed : State := { zonesMixed with boot := { zonesMixed.boot with station := 0#4 } }
def zonesNone : State :=
  { zonesMixed with params := { zonesMixed.params with zones := Vector.replicate 4 ZoneParams.absent } }

theorem witness_ZonesComputeAndDriveTheirDuty :
    LoadsSound zonesMixed ∧ zonesMixed.boot.station ≠ 0#4
    ∧ LoadsSound zonesUnnamed ∧ zonesUnnamed.boot.station = 0#4
    ∧ LoadsSound zonesNone ∧ (∀ n : Fin 4, zonesNone.params.zones[n].hosted = false)
    ∧ zonesMixed.running = true ∧ 10000 ≤ zonesMixed.zone.periodTimer
    ∧ 250 ≤ zonesMixed.zone.windowTimer
    ∧ zonesMixed.params.zones[2].hosted = false ∧ zonesMixed.params.zones[1].hosted = true
    ∧ zonesMixed.zone.zones[1].mode ≠ .off ∧ zonesMixed.zone.zones[3].mode = .off
    ∧ convertTemp zonesMixed.params.tempTable 159#12 = none
    ∧ convertTemp zonesMixed.params.tempTable 160#12 = some (-400)
    ∧ convertTemp zonesMixed.params.tempTable 3840#12 = some 1250
    ∧ zonesMixed.zone.zones[1].faulted = false :=
  ⟨loadsSound_of_checks _ (by decide +kernel) (by decide +kernel), by decide +kernel,
    loadsSound_of_checks _ (by decide +kernel) (by decide +kernel), by decide +kernel,
    loadsSound_of_checks _ (by decide +kernel) (by decide +kernel), by decide +kernel⟩

theorem witness_ZoneSetIsDecidedInOrder :
    takesRequests zonesMixed = true ∧ 4 ≤ (4#8 : Byte).toNat ∧ (3#8 : Byte) = (modeCode .comfort).setWidth 8
    ∧ (0#8 : Byte) = (modeCode .off).setWidth 8
    ∧ (50 : Int) = max 50 (min 300 (49#16).toInt) ∧ (300 : Int) = max 50 (min 300 (300#16).toInt)
    ∧ zonesMixed.params.zones[2].hosted = false ∧ zonesMixed.params.zones[3].hosted = true
    ∧ zonesMixed.boot.storage = false ∧ LoadsSound zonesMixed
    ∧ layUp.boot.storage = true ∧ LoadsSound layUp :=
  ⟨by decide +kernel, by decide, by decide, by decide, by decide, by decide, by decide +kernel,
    by decide +kernel, by decide +kernel, loadsSound_of_checks _ (by decide +kernel) (by decide +kernel),
    by decide +kernel, layUp_loadsSound⟩

/-- At the ends of the range, at the difference that rests, and at each threshold. -/
theorem witness_TankFilterAndStatesFollowTheLevel :
    (0 : Nat) ≤ 1000 ∧ (1000 : Nat) ≤ 1000 ∧ filterAfter false 1000 (some 993) = 993
    ∧ filterAfter false 1000 (some 992) = 993 ∧ filterAfter false 0 (some 1) = 0
    ∧ [29, 30, 49, 50, 149, 150, 169, 170].map (fun n => deriveFresh n .empty)
      = [.empty, .empty, .empty, .low, .low, .low, .low, .normal]
    ∧ [780, 781, 800, 801, 930, 931, 950, 951].map (fun n => deriveWaste n .full)
      = [.normal, .high, .high, .high, .high, .full, .full, .full] := by
  decide

/-- A period at its end, with the black tank and the frost function hosted or not. -/
def period (hosted : Bool) : State :=
  { st with
    params := { st.params with water := { st.params.water with
      black := if hosted then tankP else TankParams.absent, frost := hosted } }
    water := { st.water with periodTimer := 1000, moving := hosted } }

/-- The fresh tank read EMPTY and read as it was, with and without the pump. -/
theorem witness_TankPeriodReadsTanksAndFrost :
    LoadsSound (period false) ∧ LoadsSound (period true)
    ∧ (after (.tankPeriod 100#12 2000#12 2000#12 1280#12) (period false)).water.fresh.state
      ≠ (period false).water.fresh.state
    ∧ (after (.tankPeriod 2000#12 2000#12 2000#12 1280#12) (period false)).water.fresh.state
      = (period false).water.fresh.state
    ∧ (period false).params.water.pump = true ∧ (period true).params.water.frost = true
    ∧ (period true).running = true ∧ 1000 ≤ (period true).water.periodTimer
    ∧ (period true).params.water.fresh.hosted = true ∧ (period false).params.water.black.hosted = false
    ∧ rawLevel tankP.table 4020#12 = some 1000 ∧ rawLevel tankP.table 4021#12 = none
    ∧ (period true).params.water.frost = true ∧ (period false).params.water.frost = false
    ∧ convertTemp (period true).params.tempTable 4095#12 = none
    ∧ convertTemp (period true).params.tempTable 1323#12 = some 10
    ∧ convertTemp (period true).params.tempTable 1408#12 = some 30
    ∧ convertTemp (period true).params.tempTable 1536#12 = some 60 :=
  ⟨loadsSound_of_checks _ (by decide +kernel) (by decide +kernel),
    loadsSound_of_checks _ (by decide +kernel) (by decide +kernel), by decide +kernel⟩

/-- The pump at the end of its run. -/
def ranDry : State :=
  pumping.setWater { pumping.water with pump := { pumping.water.pump with runTimer := 120000 } }

theorem pump_loadsSound : LoadsSound pumping ∧ LoadsSound ranDry := by
  refine ⟨?_, ?_⟩ <;> exact loadsSound_of_checks _ (by decide +kernel) (by decide +kernel)

/-- A closed and an empty station refuse the demand; an open one takes it. -/
theorem witness_PumpFollowsDemandBlocksAndDryLock :
    LoadsSound pumping ∧ LoadsSound ranDry ∧ LoadsSound st ∧ LoadsSound layUp
    ∧ st.params.water.pump = true ∧ st.water.pump.demand = false ∧ pumpBlocked st = false
    ∧ pumpBlocked layUp = true ∧ layUp.boot.storage = true
    ∧ pumping.water.pump.demand = true ∧ without.params.water.pump = false
    ∧ ranDry.water.pump.output = true ∧ 120000 ≤ ranDry.water.pump.runTimer
    ∧ takesRequests pumping = true ∧ 2 ≤ (2#8 : Byte).toNat ∧ (1#8 : Byte).toNat < 2
    ∧ pumping.water.fresh.state ≠ .empty ∧ anyGreyFull pumping = false
    ∧ pumping.water.frost.valveOpen = false :=
  ⟨pump_loadsSound.1, pump_loadsSound.2, st_loadsSound, layUp_loadsSound, by decide +kernel⟩

theorem frosty_loadsSound :
    LoadsSound (frosty 8 (some 600000) false) ∧ LoadsSound (frosty 51 none true) := by
  refine ⟨?_, ?_⟩ <;> exact loadsSound_of_checks _ (by decide +kernel) (by decide +kernel)

/-- The valve at 5.0 and at 5.1 degrees, its sensor faulted, and closed. -/
theorem witness_DumpValveOpensOnFrostAndClosesWarm :
    LoadsSound (frosty 8 (some 600000) false) ∧ LoadsSound (frosty 51 none true)
    ∧ (frosty 8 (some 600000) false).water.frost.dwell = some 600000
    ∧ takesRequests st = true ∧ without.params.water.frost = false ∧ st.params.water.frost = true
    ∧ st.water.frost.valveOpen = false ∧ (frosty 50 none true).water.frost.valveOpen = true
    ∧ (frosty 50 none true).water.frost.temp = some 50 ∧ (50 : Int) ≤ 50
    ∧ (frosty 51 none true).water.frost.temp = some 51 ∧ (50 : Int) < 51
    ∧ (frosty 51 none true).water.frost.faulted = false ∧ otherPumpBlock (frosty 51 none false) = false :=
  ⟨frosty_loadsSound.1, frosty_loadsSound.2, by decide +kernel⟩

theorem witness_AutoRetractionActsByState :
    (still .extended true).budget.loads[motorLoad .awning].state = .off
    ∧ (act (still .extended true).motion .awning).state = .extended
    ∧ stopActive (still .extended true) .awning .inStop = true
    ∧ stopActive (still .stoppedMid false) .awning .inStop = false
    ∧ isMoving (act (driven .awning .outStop 9 st).motion .awning).state = true
    ∧ isMoving (act (driven .awning .inStop 9 st).motion .awning).state = true
    ∧ (act (still .stowed true).motion .awning).state = .stowed
    ∧ (act (still .fault false).motion .awning).state = .fault := by
  decide +kernel

/-- A rise and an interlock without one, on an awning in each of its states. -/
theorem witness_InterlockBringsActuatorsIn :
    inUse par (.known true false) = true ∧ inUse par (still .extended false).motion.vehicle = false
    ∧ interlockActive par (.known true false) = true ∧ interlockActive par (.known false false) = false
    ∧ inUse par .unknown = false ∧ interlockActive par .unknown = true
    ∧ inUse par heard.motion.vehicle = true
    ∧ (par.actuator .awning).hosted = true ∧ (without.params.actuator .awning).hosted = false
    ∧ (act (still .extended false).motion .awning).state = .extended
    ∧ stopActive (still .extended true) .awning .inStop = true
    ∧ (act (driven .awning .outStop 9 st).motion .awning).state = .extending
    ∧ (act (driven .awning .inStop 9 st).motion .awning).state = .retracting
    ∧ (act (still .stowed true).motion .awning).state = .stowed
    ∧ (act (still .fault false).motion .awning).state = .fault := by
  decide +kernel

/-- Both stops of an awning active, driven or in FAULT, and the vehicle in use. -/
def inConflict (s : State) : State :=
  { s with motion := { s.motion with pins := ⟨true, true, false, false⟩, vehicle := .known true false } }

theorem witness_EndStopsActByState :
    (still .extended true).running = true ∧ ((still .extended true).params.actuator .awning).hosted = true
    ∧ stopActive (inConflict st) .awning .outStop = true ∧ stopActive st .awning .outStop = false
    ∧ (act (driven .awning .inStop 0 st).motion .awning).state = .retracting
    ∧ isMoving (act (inConflict (driven .awning .inStop 0 st)).motion .awning).state = true
    ∧ (act (driven .awning .outStop 400 st).motion .awning).state = .extending
    ∧ (act (still .stoppedMid false).motion .awning).state = .stoppedMid
    ∧ (act (still .fault false).motion .awning).state = .fault
    ∧ stopSense (par.actuator .awning) .outStop = .both
    ∧ stopSense ActuatorParams.absent .outStop ≠ .both
    ∧ inUse par (still .extended false).motion.vehicle = false
    ∧ inUse par (inConflict (still .extended false)).motion.vehicle = true
    ∧ stopActive (inConflict (still .extended false)) .awning .inStop = true := by
  decide +kernel

/-- At the bounds of the position, at the limit of 60 and one above it. -/
theorem witness_DrivenMotorTakesEdgesAndCurrent :
    (driven .awning .inStop 0 st).running = true
    ∧ (act (driven .awning .inStop 0 st).motion .awning).motor = .inward
    ∧ (act (driven .awning .outStop 400 st).motion .awning).motor = .outward
    ∧ (act st.motion .awning).motor = .off ∧ (act st.motion .awning).latched = none
    ∧ (act (driven .awning .inStop 0 st).motion .awning).latched = some ⟨.inward, 60, 40⟩
    ∧ (⟨.inward, 60, 40⟩ : Latched).limit < 61 ∧ 60 ≤ (⟨.inward, 60, 40⟩ : Latched).limit
    ∧ (act (driven .awning .inStop 0 st).motion .awning).overTimer = none
    ∧ (act (withAct .awning (fun r => { r with overTimer := some 9 }) st).motion .awning).overTimer
      = some 9 := by
  decide +kernel

/-- A driven awning with its timers at their ends. -/
def expired (e : StopEnd) : State :=
  withAct .awning (fun r => { r with
    travelTimer := some 40000, stallTimer := some 500, overTimer := some 200 }) (driven .awning e 9 st)

theorem witness_TravelTimersEndTheTravel :
    (expired .inStop).running = true ∧ isMoving (act (expired .inStop).motion .awning).state = true
    ∧ (act (expired .inStop).motion .awning).latched = some ⟨.inward, 60, 40⟩
    ∧ (act (expired .inStop).motion .awning).travelTimer = some 40000
    ∧ (⟨.inward, 60, 40⟩ : Latched).timeout * 1000 ≤ 40000
    ∧ (act (expired .inStop).motion .awning).stallTimer = some 500
    ∧ (act (expired .inStop).motion .awning).overTimer = some 200
    ∧ (act (expired .inStop).motion .awning).motor = .inward
    ∧ (act (expired .inStop).motion .awning).cause = none ∧ (act (pausing 1).motion .awning).cause ≠ none
    ∧ (act (expired .outStop).motion .awning).state = .extending
    ∧ (act (expired .outStop).motion .awning).motor = .outward := by
  decide +kernel

/-- A pause toward extension at its end. -/
def pausingOut : State :=
  withAct .awning (fun r => { reversing r .extending false none with pauseTimer := some 300 })
    (driven .awning .outStop 160 st)

theorem witness_PauseEndDrivesOrEndsTheTravel :
    (pausing 300).running = true ∧ (act (pausing 300).motion .awning).pauseTimer = some 300
    ∧ (act (pausing 300).motion .awning).state = .retracting
    ∧ stopActive (pausing 300) .awning .inStop = false
    ∧ stopActive (inConflict (pausing 300)) .awning .inStop = true
    ∧ (act pausingOut.motion .awning).state = .extending
    ∧ (act pausingOut.motion .awning).pauseTimer = some 300
    ∧ stopActive pausingOut .awning .outStop = false
    ∧ stopActive (inConflict pausingOut) .awning .outStop = true := by
  decide +kernel

/-- At the second and the third high speed, at a period of 0 ms, and at the end of the silence. -/
theorem witness_WindEdgesGiveSpeedAndGusts :
    (windy 1 st).running = true ∧ (windy 1 st).params.wind.hosted = true
    ∧ st.motion.wind.lastCapture = none ∧ (windy 1 st).motion.wind.lastCapture = some 1000
    ∧ 160 = (windy 1 st).params.wind.kw / (if (windy 1 st).clock - 1000 = 0 then 1
        else (windy 1 st).clock - 1000)
    ∧ 24000 = (windy 1 st).params.wind.kw / (if 1000 - 1000 = 0 then 1 else 1000 - 1000)
    ∧ (windy 1 st).motion.wind.gusts + 1 < 3 ∧ 3 ≤ (windy 2 st).motion.wind.gusts + 1
    ∧ (windy 2 (still .extended false)).motion.awning.state ∈ [ActState.extending, .extended, .stoppedMid]
    ∧ (windy 2 st).motion.awning.state ∈ [ActState.stowed, .retracting, .fault]
    ∧ ({ st.motion.wind with silence := some 2000 } : WindMeter).silence = some 2000 := by
  decide +kernel

theorem witness_MoveIsRefusedInOrder :
    takesRequests st = true ∧ 2 ≤ (2#8 : Byte).toNat ∧ (1#8 : Byte).toNat < 2
    ∧ takesRequests without = true ∧ (without.params.actuator .awning).hosted = false
    ∧ (act (still .fault false).motion .awning).state = .fault
    ∧ (act (still .extended false).motion .awning).state = .extended
    ∧ (act (still .stowed true).motion .awning).state = .stowed
    ∧ (act (withAct .awning (fun r => { r with hold := true }) (still .stoppedMid false)).motion .awning).hold
      = true
    ∧ (act (still .stoppedMid false).motion .awning).hold = false
    ∧ (stored st).motion.storage = true ∧ st.motion.storage = false
    ∧ interlockActive (inConflict st).params (inConflict st).motion.vehicle = true
    ∧ (still .stowed true).params.wind.threshold ≤ (windy 0 (still .stowed true)).motion.wind.speed := by
  decide +kernel

/-- The class 2 cap exactly full with the awning's 70, and one unit short. -/
def capped (room : Nat) (s : State) : State :=
  { s with budget := { s.budget with caps := ⟨574, 538, 350 + room, 358⟩ } }

theorem witness_MoveDrivesTheActuator :
    takesRequests (still .stowed true) = true ∧ (act (still .stowed true).motion .awning).hold = false
    ∧ (still .stowed true).motion.storage = false
    ∧ interlockActive (still .stowed true).params (still .stowed true).motion.vehicle = false
    ∧ (still .stowed true).motion.wind.speed < (still .stowed true).params.wind.threshold
    ∧ (still .stowed true).budget.loads[motorLoad .awning].state = .off
    ∧ stopActive (still .stowed true) .awning .outStop = false
    ∧ stopActive (inConflict (still .stoppedMid false)) .awning .outStop = true
    ∧ sumUpTo (totals (capped 70 st).budget) .c2 + (capped 70 st).budget.loads[motorLoad .awning].rated
      ≤ (capped 70 st).budget.caps.c2
    ∧ (capped 69 st).budget.caps.c2
      < sumUpTo (totals (capped 69 st).budget) .c2 + (capped 69 st).budget.loads[motorLoad .awning].rated
    ∧ (capped 70 st).budget.gateOpen = true ∧ (capped 70 st).budget.shed.c2 = false
    ∧ (act (driven .awning .inStop 9 (parked st)).motion .awning).state = .retracting
    ∧ ([70, 69].map fun n => sumUpTo (totals (release (motorLoad .awning)
        (capped n (driven .awning .inStop 9 (parked st)))).budget) .c2 + 70) = [420, 420]
    ∧ ([70, 69].map fun n => (capped n (driven .awning .inStop 9 (parked st))).budget.caps.c2) = [420, 419]
    ∧ (driven .awning .inStop 9 (parked st)).budget.loads[motorLoad .awning].rated = 70
    ∧ (act (driven .awning .outStop 9 (parked st)).motion .awning).state = .extending
    ∧ stopActive (still .extended false) .awning .inStop = false
    ∧ stopActive (still .extended true) .awning .inStop = true := by
  decide +kernel

theorem witness_HaltAndHoldEndTravels :
    takesRequests (driven .awning .outStop 9 st) = true ∧ 2 ≤ (2#8 : Byte).toNat
    ∧ (without.params.actuator .awning).hosted = false ∧ (par.actuator .awning).hosted = true
    ∧ isMoving (act (driven .awning .outStop 9 st).motion .awning).state = true
    ∧ isMoving (act st.motion .awning).state = false
    ∧ (act (driven .awning .outStop 9 st).motion .awning).state = .extending
    ∧ (act st.motion .awning).state ≠ .extending := by
  decide +kernel

theorem witness_FaultClearReadsTheStops :
    takesRequests (still .fault false) = true ∧ (act (still .fault false).motion .awning).state = .fault
    ∧ (without.params.actuator .awning).hosted = false
    ∧ stopActive (inConflict (still .fault false)) .awning .inStop = true
    ∧ stopActive (inConflict (still .fault false)) .awning .outStop = true
    ∧ stopActive (still .fault false) .awning .inStop = false
    ∧ (act (still .stowed true).motion .awning).state ≠ .fault := by
  decide +kernel

theorem witness_StowBringsActuatorsIn :
    (still .extended true).running = true
    ∧ ((List.all [Actuator.awning, .step]) fun a =>
      (still .extended true).budget.loads[motorLoad a].state == .off
      && (driven .step .outStop 9 (still .extended true)).budget.loads[motorLoad .awning].state == .off) = true
    ∧ (act (withAct .awning (fun r => { r with hold := true }) (still .extended false)).motion .awning).hold
      = true
    ∧ (act (driven .step .outStop 9 (still .extended true)).motion .step).state = .extending
    ∧ (act (driven .step .inStop 9 (still .extended true)).motion .step).state = .retracting
    ∧ (act (still .stowed true).motion .awning).state = .stowed
    ∧ (act (still .fault false).motion .awning).state = .fault
    ∧ inSet (after (.stow false) (withAct .awning (fun r => { r with hold := true }) failed)).event.flags
        .stowFailed = false
    ∧ inSet (after (.stow true) (withAct .awning (fun r => { r with hold := true }) failed)).event.flags
        .stowFailed = true
    ∧ (without.params.actuator .awning).hosted = false := by
  decide +kernel

theorem witness_MotionHeartbeatCarriesTheActuators :
    (parked st).running = true ∧ (parked st).boot.station ≠ 0#4 ∧ 2000 ≤ (parked st).motion.motionTimer
    ∧ (parked st).params.awning.hosted = true ∧ (parked without).params.awning.hosted = false
    ∧ (parked without).params.step.hosted = true ∧ (parked without).params.wind.hosted = false := by
  decide +kernel

/-- Each index of the truth table is met by some channel: with and without its latch and its scene. -/
theorem witness_SwitchEdgeTogglesTheLatch :
    st.running = true ∧ without.params.channels[1].hosted = false ∧ layUp.light.forcedOff = true
    ∧ without.params.channels[2].sense = .rising ∧ st.params.channels[2].sense = .both
    ∧ st.params.channels[2].hosted = true ∧ st.light.forcedOff = false
    ∧ LoadsSound st ∧ LoadsSound without
    ∧ st.light.channels[2].latch = false ∧ st.light.channels[2].scene = false
    ∧ ((0xEE#8 : Byte).getLsbD 1, (0xEE#8 : Byte).getLsbD 7, (0xEE#8 : Byte).getLsbD 0) = (true, true, false) :=
  ⟨by decide +kernel, by decide +kernel, by decide +kernel, by decide +kernel, by decide +kernel,
    by decide +kernel, by decide +kernel, st_loadsSound, without_loadsSound, by decide +kernel⟩

theorem witness_SceneRecallsBitsAndLevels :
    LoadsSound st ∧ st.running = true ∧ 8 ≤ (8#8 : Byte).toNat ∧ (7#8 : Byte).toNat = (7 : Fin 8).val
    ∧ st.light.forcedOff = false ∧ layUp.light.forcedOff = true
    ∧ st.params.scenes[7].members.getLsbD 0 = true ∧ st.params.scenes[7].members.getLsbD 2 = false
    ∧ st.params.scenes[7].levels[0] ≠ 0 ∧ without.params.channels[1].hosted = false :=
  ⟨st_loadsSound, by decide +kernel⟩

theorem witness_LightSetAnswersWithTheChannel :
    LoadsSound st ∧ takesRequests st = true ∧ 8 ≤ (8#8 : Byte).toNat ∧ 2 ≤ (2#8 : Byte).toNat
    ∧ (7#8 : Byte).toNat = (7 : Fin 8).val ∧ (1#8 : Byte).toNat < 2
    ∧ without.params.channels[7].hosted = false ∧ takesRequests without = true
    ∧ st.params.channels[7].hosted = true ∧ layUp.light.forcedOff = true ∧ st.light.forcedOff = false :=
  ⟨st_loadsSound, by decide +kernel⟩

theorem witness_FadeAndPwmDriveTheChannels :
    let s := withChannel 2 (fun c => { c with current := 64, duty := 16 })
      (withChannel 3 (fun c => { c with target := 7 }) without)
    let t : State := { s with light := { s.light with fadeTimer := 20 } }
    t.running = true ∧ 20 ≤ t.light.fadeTimer ∧ t.params.channels[2].hosted = true
    ∧ t.light.channels[2].target < t.light.channels[2].current
    ∧ t.params.channels[3].hosted = false := by
  decide +kernel

theorem witness_EventsAndCountersAreAnswered :
    st.boot.station ≠ 0#4 ∧ takesRequests st = true ∧ inSet st.event.flags .socLow = false
    ∧ inSet st.event.mask .socLow = false ∧ inSet st.event.mask .peerLost = true
    ∧ inSet (raiseEvent .peerLost st).event.flags .peerLost = true
    ∧ 3 ≤ (3#8 : Byte).toNat := by
  decide +kernel

theorem witness_RequestsReachTheirOwners :
    takesRequests st = true ∧ (2#8 : Byte).toNat = st.boot.station.toNat
    ∧ (3#8 : Byte).toNat ≠ st.boot.station.toNat ∧ takesRequests State.reset = false
    ∧ 0x0B < (0x0C#8 : Byte).toNat
    ∧ ((11#8 : Byte).toNat, ([] : List Byte).length) ∉ [(1, 4), (2, 3), (3, 2), (4, 1), (5, 2), (6, 1),
      (7, 1), (8, 0), (9, 2), (10, 1), (11, 1)]
    ∧ ((8#8 : Byte).toNat, ([] : List Byte), Instr.valveClose rq) ∈
      [(7, [0#8], Instr.pumpSet rq 0#8), (8, [], Instr.valveClose rq)] := by
  decide +kernel

theorem witness_DueTelegramsCarryTheFigures :
    let c : State := { st with budget := { st.budget with claimDue := true, claimTimer := 200 } }
    let d : State := { st with budget := { st.budget with claimTimer := 2000 } }
    let w := st.setWater { st.water with tanksTimer := 200, tanksDue := true }
    let x := without.setWater { without.water with tanksTimer := 5000 }
    (night 0 0).running = true ∧ (night 0 0).params.bank = some bankA
    ∧ 1000 ≤ (night 0 0).bank.batteryTimer ∧ (night 0 0).boot.station ≠ 0#4
    ∧ (listening true 0#4).params.bank = some bankA ∧ (listening true 0#4).boot.station = 0#4
    ∧ c.running = true ∧ c.boot.station ≠ 0#4 ∧ c.budget.claimDue = true ∧ 200 ≤ c.budget.claimTimer
    ∧ d.running = true ∧ d.boot.station ≠ 0#4 ∧ 2000 ≤ d.budget.claimTimer
    ∧ w.running = true ∧ w.boot.station ≠ 0#4 ∧ w.params.water.pump = true
    ∧ w.water.tanksDue = true ∧ 200 ≤ w.water.tanksTimer
    ∧ x.running = true ∧ x.params.water.fresh.hosted = true ∧ 5000 ≤ x.water.tanksTimer := by
  decide +kernel

/-- The station with the spacing of both telegrams not over, or just over. -/
def spaced (n : Nat) : State :=
  parked { st with
    budget := { st.budget with claimTimer := n }, water := { st.water with tanksTimer := n } }

/-- A MOVE moves the awning and its claim, and the pump comes on, 199 and 200 ms after the last telegram. -/
theorem witness_ChangesAreReported :
    (spaced 199).running = true ∧ (spaced 200).boot.station ≠ 0#4
    ∧ (∃ t, exec (.move rq 0#8 1#8) (spaced 200) = .next t ∧ t.running = true)
    ∧ ((spaced 200).params.actuator .awning).hosted = true ∧ hostsWater (spaced 200).params = true
    ∧ trackedAct (after (.move rq 0#8 1#8) (spaced 200)) .awning ≠ trackedAct (spaced 200) .awning
    ∧ (after (.move rq 0#8 1#8) (spaced 200)).budget.own ≠ (spaced 200).budget.own
    ∧ trackedWater (after (.pressureSwitchEdge true) (spaced 200)) ≠ trackedWater (spaced 200)
    ∧ (spaced 199).budget.claimTimer < 200 ∧ 200 ≤ (spaced 200).budget.claimTimer
    ∧ (spaced 199).water.tanksTimer < 200 ∧ 200 ≤ (spaced 200).water.tanksTimer
    ∧ kindOfCode (headerKind (headerOf .vehicle 9#4 1)) ≠ some .request :=
  ⟨by decide +kernel, by decide +kernel, ⟨_, rfl, by decide +kernel⟩, by decide +kernel⟩

theorem witness_LineAndReceiverFollowTheLine :
    let s : State := hearing { st with line := { st.line with queue := queueOf [.claim, .reply, .reply] } }
    s.running = true ∧ s.line.sender = .idle ∧ s.line.register = none ∧ s.line.queue ≠ []
    ∧ s.line.receiver = .receiving ∧ s.line.idle = false ∧ st.line.queue = []
    ∧ ({ s.line with idle := true } : Line).idle = true := by
  decide +kernel

/-- A SCENE of station 1, of station 0 and of the own number; a wrong urgency; a REQUEST of 2 bytes. -/
theorem witness_BadFramesAreCountedAndDropped :
    (hearing st).running = true ∧ (hearing st).line.receiver = .receiving
    ∧ (hearing st).line.sender = .idle ∧ ([7#8] : List Byte).length = ((0x5A11#16 : Word).extractLsb' 0 4).toNat
    ∧ checkByte 0x5A11#16 [7#8] ≠ checkByte 0x5A11#16 [7#8] + 1#8
    ∧ (0x1A11#16 : Word).extractLsb' 14 2 ≠ (0x1A11#16 : Word).extractLsb' 12 2
    ∧ ([0#8, 0#8] : List Byte).length = ((0x5812#16 : Word).extractLsb' 0 4).toNat
    ∧ (0x18#6, 2) ∉ ([0x18#6, 0x19#6].product [3, 4, 5, 6, 7, 8, 9, 10, 11, 12])
    ∧ (0x5A01#16 : Word).extractLsb' 4 4 = 0#4 ∧ badForm 0x5A21#16 [7#8] = false
    ∧ (0x5A21#16 : Word).extractLsb' 4 4 = (hearing st).boot.station := by
  decide +kernel

theorem witness_SenderEndsItsFrame :
    (sending .header 4).running = true ∧ (sending .header 4).line.sender = .header
    ∧ ((sending .header 3).line.register.map TxEntry.attempts) = some 3
    ∧ ((sending .body 4).line.register.map TxEntry.attempts) = some 4
    ∧ (sending .body 4).line.sender ≠ .idle ∧ (sending .body 4).line.sender ≠ .header := by
  decide +kernel

/-- The queue at 5, 6, 7 and 8, with and without a status entry. -/
theorem witness_TransmitQueueFollowsItsTable :
    (queueOf [.climate, .claim, .reply, .reply, .reply]).length < 6
    ∧ 6 ≤ (queueOf [.climate, .claim, .reply, .reply, .reply, .reply]).length
    ∧ (queueOf [.climate, .claim, .reply, .reply, .reply, .reply, .reply]).length < 8
    ∧ 8 ≤ (queueOf [.climate, .claim, .reply, .reply, .reply, .reply, .reply, .reply]).length
    ∧ (∃ e ∈ queueOf [.climate, .claim, .reply, .reply, .reply, .reply, .reply, .reply],
      isStatus e.telegram.kind = true)
    ∧ (∃ e ∈ queueOf [.climate, .claim], e.telegram.kind = .claim)
    ∧ (∀ e ∈ queueOf [.battery, .claim, .reply, .reply, .reply, .reply, .reply, .reply],
      isStatus e.telegram.kind = false)
    ∧ (∀ k ∈ singleKinds, countKind (queueOf [.battery, .claim, .reply, .reply, .reply]) k ≤ 1) := by
  decide +kernel

end Sys2Proof.Tests
end

/-! The class caps (R44): a re-evaluation leaves them at the shares of the budget it computed, the shares of
a record lie between 0 and 256, and shares that do not rise give caps that do not rise. -/

namespace Sys2Proof.Machine

/-! ## Bringing a share into its range -/

/-- Clipping as a maximum of a minimum, where the range is not empty. -/
theorem clipNat_eq_max_min {lo hi : Nat} (h : lo ≤ hi) (n : Nat) :
    clipNat lo hi n = max lo (min hi n) := by
  unfold clipNat
  split
  · omega
  · split <;> omega

theorem clipNat_le {lo hi : Nat} (h : lo ≤ hi) (n : Nat) : clipNat lo hi n ≤ hi := by
  rw [clipNat_eq_max_min h]
  exact max_le h (min_le_left hi n)

theorem clipNat_mono {lo hi m n : Nat} (h : lo ≤ hi) (hmn : m ≤ n) :
    clipNat lo hi m ≤ clipNat lo hi n := by
  rw [clipNat_eq_max_min h, clipNat_eq_max_min h]
  exact max_le_max_left lo (min_le_min_left hi hmn)

/-! ## The caps of a budget -/

/-- The caps class by class (R44). -/
theorem perClass_capsOf (p : Params) (b : Nat) (c : LoadClass) :
    perClass (capsOf p b) c = b * perClass p.share c / 256 := by
  cases c <;> rfl

/-- A share of all 256 parts is the whole budget. -/
theorem capsOf_c0 (p : Params) (b : Nat) (h : p.share.c0 = 256) : (capsOf p b).c0 = b := by
  simp [capsOf, h]

/-- A class with no greater share has no greater cap. -/
theorem perClass_capsOf_mono (p : Params) (b : Nat) {c d : LoadClass}
    (h : perClass p.share c ≤ perClass p.share d) :
    perClass (capsOf p b) c ≤ perClass (capsOf p b) d := by
  rw [perClass_capsOf, perClass_capsOf]
  exact Nat.div_le_div_right (Nat.mul_le_mul_left b h)

/-! ## The caps after a handover -/

/-- The caps of a state are those of its budget. -/
def CapsFollow (s : State) : Prop := s.budget.caps = capsOf s.params s.budget.budget

theorem capsFollow_computeBudget (s : State) : CapsFollow (computeBudget s) := rfl

/-- No move of the budget unit writes the budget, the caps or the shares. -/
theorem LoadSteps.capsFollow {s t : State} (h : LoadSteps s t) (hs : CapsFollow s) : CapsFollow t := by
  obtain ⟨_, _, _, _, _, _, hbudget, hcaps, _⟩ := h.frame.basis
  unfold CapsFollow
  rw [hcaps, hbudget, h.frame.params]
  exact hs

theorem capsFollow_reevaluate (b : Budget) (s : State) : CapsFollow (reevaluate b s) :=
  (loadSteps_reevaluate b s).capsFollow (capsFollow_computeBudget s)

@[simp] theorem reevaluate_params (b : Budget) (s : State) : (reevaluate b s).params = s.params :=
  (loadSteps_reevaluate b s).frame.params

/-- After a re-evaluation each cap is the class's share of the budget (R40, R44). -/
theorem reevaluate_caps (b : Budget) (s : State) (c : LoadClass) :
    perClass (reevaluate b s).budget.caps c
      = (reevaluate b s).budget.budget * perClass s.params.share c / 256 := by
  rw [capsFollow_reevaluate b s, perClass_capsOf, reevaluate_params]

/-! ## The shares of a record -/

theorem paramsOfRecord_share_le (bytes : List Byte) (c : LoadClass) :
    perClass (paramsOfRecord bytes).share c ≤ 256 := by
  cases c with
  | c0 => exact le_rfl
  | c1 => exact clipNat_le (Nat.zero_le 256) _
  | c2 => exact clipNat_le (Nat.zero_le 256) _
  | c3 => exact clipNat_le (Nat.zero_le 256) _

/-- What the check of R187 asks of the stored shares. -/
theorem recShare_le_of_passes {bytes : List Byte} (h : recordPasses bytes = true) :
    recShare bytes 2 ≤ recShare bytes 1 ∧ recShare bytes 3 ≤ recShare bytes 2 := by
  simp only [recordPasses, Bool.and_eq_true] at h
  obtain ⟨_, hshares⟩ := h
  simpa [recSharesOk] using hshares

/-- Settles O24: a handover ends in a chain of moves behind `computeBudget`, which keeps the caps, the budget
and the shares; clipping to 0 to 256 and the division by 256 both keep the order of the shares. -/
theorem classCapsFollowBudget : Obligations.ClassCapsFollowBudget := by
  refine ⟨fun s o c => ?ownBank, fun s peers supply known sums c => ?quantities,
    fun bytes => ⟨rfl, paramsOfRecord_share_le bytes, fun hpass => ?shares⟩, fun p b h0 h1 h2 h3 => ?caps⟩
  case ownBank => exact reevaluate_caps _ _ c
  case quantities => exact reevaluate_caps _ _ c
  case shares =>
    obtain ⟨h21, h32⟩ := recShare_le_of_passes hpass
    exact ⟨clipNat_mono (Nat.zero_le 256) h21, clipNat_mono (Nat.zero_le 256) h32⟩
  case caps =>
    refine ⟨capsOf_c0 p b h0, ?_, ?_, ?_⟩
    · exact perClass_capsOf_mono p b (c := .c1) (d := .c0) (h1.trans h0.ge)
    · exact perClass_capsOf_mono p b (c := .c2) (d := .c1) h2
    · exact perClass_capsOf_mono p b (c := .c3) (d := .c2) h3

end Sys2Proof.Machine

/-! The switches (R145, R146): an evaluated channel's load is OFF exactly while its on condition is false, and
behind a command that leaves the actuators as they were nothing but TANKS can follow. -/

namespace Sys2Proof.Machine

/-! ## The end of a command that leaves the motion controller alone -/

/-- The end of a command for TANKS writes the line and the times of TANKS only (R108). -/
theorem tanksAfter_eq (before s : State) :
    ∃ l w, tanksAfter before s = (s.setWater w).setLine l ∧ waterFixed w = waterFixed s.water := by
  unfold tanksAfter
  split
  · exact ⟨s.line, s.water, rfl, rfl⟩
  · split
    · unfold queueTanks
      split
      · exact ⟨_, _, sendTelegram_eq _ _ _, rfl⟩
      · exact ⟨s.line, s.water, rfl, rfl⟩
    · exact ⟨s.line, { s.water with tanksDue := true }, rfl, rfl⟩

theorem ownStepOut_congr {s t : State} (hp : t.params = s.params) (hm : t.motion = s.motion) :
    ownStepOut t = ownStepOut s := by
  unfold ownStepOut
  rw [hp, hm]

theorem trackedAct_congr {s t : State} (hm : t.motion = s.motion) (a : Actuator) :
    trackedAct t a = trackedAct s a := by
  unfold trackedAct
  rw [hm]

/-- With the actuators as they were there is no step-out to hand over and no MOTION to queue (R138, R139). -/
theorem publish_eq_tanksAfter {s t : State} (hp : t.params = s.params) (hm : t.motion = s.motion) :
    publish s t = tanksAfter s t := by
  have hstep : stepOutAfter s t = t := if_pos (ownStepOut_congr hp hm)
  have hmotion : motionAfter s t = t := by
    simp [motionAfter, trackedAct_congr hm]
  simp only [publish, hstep, hmotion]

theorem publish_self (s : State) : publish s s = s := by
  rw [publish_eq_tanksAfter rfl rfl]
  exact if_pos (Or.inl rfl)

/-! ## Which loads are OFF -/

/-- The same load records are OFF in both states. -/
def SameLoadsOff (s t : State) : Prop :=
  ∀ i : Fin 17, t.budget.loads[i].state = .off ↔ s.budget.loads[i].state = .off

theorem SameLoadsOff.refl (s : State) : SameLoadsOff s s := fun _ => Iff.rfl

theorem SameLoadsOff.trans {s t u : State} (h : SameLoadsOff s t) (k : SameLoadsOff t u) :
    SameLoadsOff s u := fun i => (k i).trans (h i)

theorem sameLoadsOff_of_loads {s t : State} (h : t.budget.loads = s.budget.loads) :
    SameLoadsOff s t := fun i => by rw [h]

theorem admitLoad_state (i j : Fin 17) (s : State) :
    (admitLoad i s).budget.loads[j].state = if i = j then .admitted else s.budget.loads[j].state := by
  have h : (admitLoad i s).budget.loads[j] = _ := putLoad_loads i j _ s
  rw [h]
  split <;> rfl

theorem sameLoadsOff_admitLoad (i : Fin 17) (s : State) (h : s.budget.loads[i].state ≠ .off) :
    SameLoadsOff s (admitLoad i s) := by
  intro j
  rw [admitLoad_state]
  split
  · next hij => subst hij; exact iff_of_false nofun h
  · rfl

/-- An admission pass admits waiting records only, and so none that is OFF (R56). -/
theorem sameLoadsOff_passOver (l : List (Fin 17)) (s : State) : SameLoadsOff s (passOver l s) := by
  induction l generalizing s with
  | nil => exact .refl s
  | cons i rest ih =>
    simp only [passOver]
    split
    · next hst =>
      split
      · exact (sameLoadsOff_admitLoad i s (hst.trans_ne nofun)).trans (ih _)
      · exact .refl s
    · next hst =>
      split
      · exact (sameLoadsOff_admitLoad i s (hst.trans_ne nofun)).trans (ih _)
      · exact .refl s
    · exact .refl s

theorem sameLoadsOff_admissionPass (s : State) : SameLoadsOff s (admissionPass s) := by
  unfold admissionPass
  split
  · exact sameLoadsOff_passOver _ s
  · exact .refl s

theorem claimAfter_loads (o : PerClass Nat) (s : State) :
    (claimAfter o s).budget.loads = s.budget.loads := by
  unfold claimAfter queueClaim
  split
  · rfl
  · split
    · split
      · rfl
      · rw [sendTelegram_budget, State.setBudget_budget]
    · rfl

/-- The end of an event of the budget unit turns no load on that is OFF, and none OFF. -/
theorem sameLoadsOff_settle (o : PerClass Nat) (p : Bool) (s : State) :
    SameLoadsOff s (settle o p s) := by
  have hclaim (t : State) : SameLoadsOff t (claimAfter o t) := sameLoadsOff_of_loads (claimAfter_loads o t)
  have hover (t : State) : SameLoadsOff t (evalOver t) := sameLoadsOff_of_loads rfl
  cases p with
  | false => exact (hover s).trans (hclaim _)
  | true => exact (((hover s).trans (sameLoadsOff_admissionPass _)).trans (hover _)).trans (hclaim _)

/-! ## An asked load is not OFF, a released one is -/

theorem putLoad_state_self (i : Fin 17) (r : LoadRecord) (s : State) :
    (putLoad i r s).budget.loads[i].state = r.state := by
  rw [putLoad_loads, if_pos rfl]

theorem joinRetry_loads (i : Fin 17) (s : State) : (joinRetry i s).budget.loads = s.budget.loads := by
  unfold joinRetry
  split <;> rfl

theorem wait_state (i : Fin 17) (s : State) : (wait i s).budget.loads[i].state = .waiting := by
  unfold wait
  rw [joinRetry_loads]
  exact putLoad_state_self i _ s

theorem shedLoad_state (i : Fin 17) (r : Reason) (s : State) :
    (shedLoad i r s).budget.loads[i].state = .shed r := putLoad_state_self i _ s

theorem reduceLevel_state (i : Fin 17) (s : State) :
    (reduceLevel i s).budget.loads[i].state = .reduced .level := by
  unfold reduceLevel
  simp only
  split
  · exact putLoad_state_self i _ s
  · exact putLoad_state_self i _ s

theorem turnOff_state (i : Fin 17) (s : State) : (turnOff i s).budget.loads[i].state = .off :=
  putLoad_state_self i _ s

/-- A load asked for is admitted, reduced, shed or waiting (R51). -/
theorem ask_state_ne_off (i : Fin 17) (s : State) : (ask i s).budget.loads[i].state ≠ .off := by
  have hsettle (o : PerClass Nat) (p : Bool) {t : State} (h : t.budget.loads[i].state ≠ .off) :
      (settle o p t).budget.loads[i].state ≠ .off := mt (sameLoadsOff_settle o p t i).mp h
  unfold ask
  simp only
  split
  · assumption
  · split
    · exact hsettle _ _ ((admitLoad_state i i s).trans (if_pos rfl) |>.trans_ne nofun)
    · split
      · split
        · exact hsettle _ _ ((reduceLevel_state i s).trans_ne nofun)
        · exact hsettle _ _ ((shedLoad_state i _ s).trans_ne nofun)
      · exact hsettle _ _ ((wait_state i s).trans_ne nofun)

/-- A load released is OFF (R53), and the pass of R57 does not admit it again. -/
theorem release_state (i : Fin 17) (s : State) : (release i s).budget.loads[i].state = .off := by
  unfold release
  split
  · assumption
  · exact (sameLoadsOff_settle _ _ _ i).mpr (turnOff_state i s)

/-! ## A channel evaluated -/

theorem putChannel_channel (n m : Fin 8) (c : Channel) (s : State) :
    (putChannel n c s).light.channels[m] = if n = m then c else s.light.channels[m] :=
  vector_get_set _ n m c

theorem putChannel_channel_self (n : Fin 8) (c : Channel) (s : State) :
    (putChannel n c s).light.channels[n] = c := by
  rw [putChannel_channel, if_pos rfl]

/-- A channel with its on condition stored (R145). -/
def channelEvaluated (s : State) (n : Fin 8) : Channel :=
  { s.light.channels[n] with
    on := onCondition s.params.channels[n] s.light s.light.channels[n] }

/-- The evaluation of a hosted channel by its on condition and its load (R145). -/
theorem evalChannel_eq {s : State} {n : Fin 8} (h : s.params.channels[n].hosted = true) :
    evalChannel s n =
      if (channelEvaluated s n).on && s.light.channels[n].load == .off then
        ask (lightLoad n) (putChannel n (channelEvaluated s n) s)
      else if !(channelEvaluated s n).on && s.light.channels[n].load != .off then
        release (lightLoad n) (putChannel n (channelEvaluated s n) s)
      else putChannel n (channelEvaluated s n) s :=
  if_neg (by rw [h]; nofun)

/-- Beyond the on condition an evaluation only moves loads. -/
theorem loadSteps_evalChannel {s : State} {n : Fin 8} (h : s.params.channels[n].hosted = true) :
    LoadSteps (putChannel n (channelEvaluated s n) s) (evalChannel s n) := by
  rw [evalChannel_eq h]
  split
  · exact loadSteps_ask _ _
  · split
    · exact loadSteps_release _ _
    · exact .refl

/-- Where the channel holds its load's state, the load is OFF exactly while the on condition is false (R145). -/
theorem evalChannel_off_iff {s : State} {n : Fin 8} (h : s.params.channels[n].hosted = true)
    (hload : s.light.channels[n].load = s.budget.loads[lightLoad n].state) :
    (evalChannel s n).budget.loads[lightLoad n].state = .off ↔ (channelEvaluated s n).on = false := by
  rw [evalChannel_eq h, hload]
  cases hon : (channelEvaluated s n).on with
  | true =>
    simp only [Bool.true_and, Bool.not_true, Bool.false_and, Bool.false_eq_true, if_false, beq_iff_eq]
    split
    · exact iff_of_false (ask_state_ne_off _ _) nofun
    · next hstate => exact iff_of_false hstate nofun
  | false =>
    simp only [Bool.false_and, Bool.not_false, Bool.true_and, Bool.false_eq_true, if_false, bne_iff_ne]
    split
    · exact iff_of_true (release_state _ _) trivial
    · next hstate => exact iff_of_true (not_not.mp hstate) trivial

/-! ## An edge -/

theorem senseTakes_iff (sense : SwitchSense) (rising : Bool) :
    senseTakes sense rising = true ↔
      sense = .both ∨ sense = .rising ∧ rising = true ∨ sense = .falling ∧ rising = false := by
  cases sense <;> simp [senseTakes]

theorem senseTakes_eq_false_iff (sense : SwitchSense) (rising : Bool) :
    senseTakes sense rising = false ↔
      sense = .none ∨ sense = .rising ∧ rising = false ∨ sense = .falling ∧ rising = true := by
  cases sense <;> simp [senseTakes]

theorem switchEdgeAt_of_untaken {s : State} {n : Fin 8} {rising : Bool}
    (h : s.params.channels[n].hosted = false ∨ s.light.forcedOff = true
      ∨ senseTakes s.params.channels[n].sense rising = false) : switchEdgeAt n rising s = s := by
  rcases h with h | h | h <;> simp [switchEdgeAt, h, -Fin.getElem_fin]

/-- On a running station the command is the edge with the end of a command. -/
theorem exec_switchEdge {s : State} (n : Fin 8) (rising : Bool) (hrun : s.running = true) :
    exec (.switchEdge n rising) s = .next (publish s (switchEdgeAt n rising s)) := by
  change effectWhen true (switchEdgeAt n rising) s = _
  simp [effectWhen, hrun]

/-- The state with the latch of a channel toggled. -/
def toggleLatch (n : Fin 8) (s : State) : State :=
  putChannel n { s.light.channels[n] with latch := !s.light.channels[n].latch } s

theorem switchEdgeAt_of_taken {s : State} {n : Fin 8} {rising : Bool}
    (hhosted : s.params.channels[n].hosted = true) (hforced : s.light.forcedOff = false)
    (hsense : senseTakes s.params.channels[n].sense rising = true) :
    switchEdgeAt n rising s = evalChannel (toggleLatch n s) n := by
  simp [switchEdgeAt, toggleLatch, hhosted, hforced, hsense, -Fin.getElem_fin]

theorem toggleLatch_channel_self (n : Fin 8) (s : State) :
    (toggleLatch n s).light.channels[n]
      = { s.light.channels[n] with latch := !s.light.channels[n].latch } :=
  putChannel_channel_self _ _ _

theorem putChannel_toggleLatch (n : Fin 8) (c : Channel) (s : State) :
    putChannel n c (toggleLatch n s) = putChannel n c s := by
  simp [toggleLatch, putChannel]

/-- The truth table's index with the latch toggled, by the three bits of R145. -/
theorem truthIndex_toggled (l : LightCtl) (scene latch : Bool) :
    truthIndex (stepOutC l) scene (!latch)
      = (if l.ownStepOut = true ∨ l.peerStepOut = true then 4 else 0)
        + (if scene then 2 else 0) + (if latch then 0 else 1) := by
  simp only [truthIndex, stepOutC, Bool.toNat, Bool.cond_eq_ite, Bool.or_eq_true, mul_ite, mul_one, mul_zero]
  cases latch <;> rfl

/-- The channel after a taken edge: the latch toggled, and the on condition from its truth table (R145, R146). -/
theorem channelEvaluated_toggleLatch {s : State} {n : Fin 8} (hforced : s.light.forcedOff = false) :
    channelEvaluated (toggleLatch n s) n =
      { s.light.channels[n] with
        latch := !s.light.channels[n].latch
        on := s.params.channels[n].truth.getLsbD
          ((if s.light.ownStepOut = true ∨ s.light.peerStepOut = true then 4 else 0)
            + (if s.light.channels[n].scene then 2 else 0)
            + (if s.light.channels[n].latch then 0 else 1)) } := by
  have hindex := truthIndex_toggled s.light s.light.channels[n].scene s.light.channels[n].latch
  unfold channelEvaluated
  rw [toggleLatch_channel_self, ← hindex]
  simp [onCondition, toggleLatch, putChannel, stepOutC, hforced]

/-! ## The frame of an evaluated channel, in the words of the statements -/

theorem waterFixed_of_waterCore {v w : Water} (h : waterCore v = waterCore w) :
    waterFixed v = waterFixed w := by
  simp only [waterCore, waterFixed, Prod.mk.injEq] at h ⊢
  obtain ⟨htanks, hpump, hfrost, _, _, hdumps⟩ := h
  exact ⟨htanks, hpump, hfrost, hdumps⟩

theorem LoadFrame.budgetSame {s t : State} (h : LoadFrame s t) : budgetSame s t := by
  refine ⟨?_, h.rated⟩
  obtain ⟨hown, hpeers, hsupply, hknown, hsums, hgoverning, hbudget, hcaps, hgate⟩ := h.basis
  simp only [budgetFixed, hown, hpeers, hsupply, hknown, hsums, hgoverning, hbudget, hcaps, hgate]

/-- A channel written and then moves of the budget unit: the channel's own fields are those written. -/
theorem LoadFrame.channelFixed_written {s t : State} {n : Fin 8} {c : Channel}
    (h : LoadFrame (putChannel n c s) t) : channelFixed t.light.channels[n] = channelFixed c :=
  (h.channels n).trans (congrArg channelCore (putChannel_channel_self n c s))

theorem LoadFrame.otherChannelsSame {s t : State} {n : Fin 8} {c : Channel}
    (h : LoadFrame (putChannel n c s) t) : otherChannelsSame s t (· = n) := by
  intro m hm
  have hm' : (putChannel n c s).light.channels[m] = s.light.channels[m] := by
    rw [putChannel_channel, if_neg (Ne.symm hm)]
  exact (h.channels m).trans (congrArg channelCore hm')

/-- Settles O48: an untaken edge leaves the state, and a taken one toggles the latch and evaluates the channel,
which beyond the on condition is a chain of moves of the budget unit with its frame. -/
theorem switchEdgeTogglesTheLatch : Obligations.SwitchEdgeTogglesTheLatch := by
  intro s n rising hrun
  refine ⟨fun huntaken => ?untaken, fun hhosted hforced hsense _ hmirror index on hindex hon => ?taken⟩
  case untaken =>
    rw [← senseTakes_eq_false_iff] at huntaken
    rw [exec_switchEdge n rising hrun, switchEdgeAt_of_untaken huntaken, publish_self]
  case taken =>
    subst hindex hon
    rw [← senseTakes_iff] at hsense
    have hload : (toggleLatch n s).light.channels[n].load = s.budget.loads[lightLoad n].state := by
      rw [toggleLatch_channel_self]
      exact hmirror.1 n
    have hoff := evalChannel_off_iff (s := toggleLatch n s) hhosted hload
    have hframe := (loadSteps_evalChannel (s := toggleLatch n s) hhosted).frame
    rw [channelEvaluated_toggleLatch hforced] at hoff hframe
    rw [putChannel_toggleLatch] at hframe
    obtain ⟨l, w, htanks, hwater⟩ := tanksAfter_eq s (evalChannel (toggleLatch n s) n)
    rw [exec_switchEdge n rising hrun, switchEdgeAt_of_taken hhosted hforced hsense,
      publish_eq_tanksAfter (s := s) hframe.params hframe.motion, htanks]
    exact ⟨_, rfl, hframe.channelFixed_written, hoff, hframe.otherChannelsSame,
      ⟨hframe.zones, hframe.zoneTimer⟩, hwater.trans (waterFixed_of_waterCore hframe.water),
      hframe.budgetSame⟩

end Sys2Proof.Machine

/-! The event flags and the diagnostic counters (R179 to R182): raising an event sets its own flag and no other,
and EVENTS_CLEAR and DIAG_QUERY, which write nothing that a status telegram reports, are answered on the state
they leave. -/

namespace Sys2Proof.Machine

/-! ## The flags of the events -/

theorem eventIndex_lt (e : Event) : eventIndex e < 16 := by
  cases e <;> decide

/-- Events are numbered in the order of their constructors. -/
theorem ofNat_eventIndex : Function.LeftInverse Event.ofNat eventIndex := by
  intro e
  cases e <;> rfl

theorem eventIndex_inj {k e : Event} : eventIndex k = eventIndex e ↔ k = e :=
  ofNat_eventIndex.injective.eq_iff

@[simp] theorem inSet_eventBit (e k : Event) : inSet (eventBit e) k = decide (k = e) :=
  calc inSet (eventBit e) k
    _ = (decide (eventIndex e < 16) && decide (eventIndex e = eventIndex k)) :=
      BitVec.getLsbD_twoPow _ _
    _ = decide (k = e) := by simp [eventIndex_lt e, eventIndex_inj, eq_comm]

@[simp] theorem inSet_or (v w : Word) (k : Event) : inSet (v ||| w) k = (inSet v k || inSet w k) :=
  BitVec.getLsbD_or

/-! ## Raising an event -/

/-- The event unit with the flag of an event set (R179). -/
def flagSet (e : Event) (u : EventUnit) : EventUnit := { u with flags := u.flags ||| eventBit e }

theorem inSet_flagSet (e k : Event) (u : EventUnit) :
    inSet (flagSet e u).flags k = (decide (k = e) || inSet u.flags k) := by
  simp [flagSet, Bool.or_comm]

theorem raiseEvent_of_set {e : Event} {s : State} (h : inSet s.event.flags e = true) :
    raiseEvent e s = s := if_pos h

/-- A clear flag becomes set, and an ALERT is formed unless the event is masked (R179, R180). -/
theorem raiseEvent_of_clear {e : Event} {s : State} (h : inSet s.event.flags e = false) :
    raiseEvent e s = if inSet s.event.mask e then s.setEvent (flagSet e s.event)
      else sendAlert (s.setEvent (flagSet e s.event)) :=
  if_neg (by rw [h]; nofun)

theorem sendAlert_event (s : State) : (sendAlert s).event = s.event := sendTelegram_event _ _ s

theorem raiseEvent_event_of_clear {e : Event} {s : State} (h : inSet s.event.flags e = false) :
    (raiseEvent e s).event = flagSet e s.event := by
  rw [raiseEvent_of_clear h]
  split
  · rfl
  · exact sendAlert_event _

/-- A configured station's line takes every telegram handed over (R166, R172). -/
theorem sendTelegram_of_configured {s : State} (h : s.boot.station ≠ 0#4) (k : Kind) (p : List Byte) :
    sendTelegram k p s = s.setLine (beginFrame (takeTelegram s.line (telegramOf k s.boot.station p))) :=
  if_neg h

theorem raiseEvent_line_of_masked {e : Event} {s : State} (h : inSet s.event.flags e = false)
    (hmask : inSet s.event.mask e = true) : (raiseEvent e s).line = s.line := by
  rw [raiseEvent_of_clear h, if_pos hmask, State.setEvent_line]

theorem raiseEvent_line_of_unmasked {e : Event} {s : State} (hstation : s.boot.station ≠ 0#4)
    (h : inSet s.event.flags e = false) (hmask : inSet s.event.mask e = false) :
    (raiseEvent e s).line = beginFrame (takeTelegram s.line (telegramOf .alert s.boot.station
      (wordBytes ((flagSet e s.event).flags &&& ~~~s.event.mask)))) := by
  have hunmasked : ¬ inSet s.event.mask e = true := by rw [hmask]; nofun
  have hstation' : (s.setEvent (flagSet e s.event)).boot.station ≠ 0#4 := hstation
  rw [raiseEvent_of_clear h, if_neg hunmasked, sendAlert, sendTelegram_of_configured hstation']
  rfl

/-! ## A request that changes nothing a status telegram reports -/

/-- The end of a command leaves the state where the own step-out, the actuators' tracked states and the
tracked water states are as before (R108, R138, R139). -/
theorem publish_of_untracked {s t : State} (hstep : ownStepOut t = ownStepOut s)
    (hact : ∀ a, trackedAct t a = trackedAct s a) (hwater : trackedWater t = trackedWater s) :
    publish s t = t := by
  have hlights : stepOutAfter s t = t := if_pos hstep
  have hmotion : motionAfter s t = t := by simp [motionAfter, hact]
  have htanks : tanksAfter s t = t := if_pos (Or.inl hwater)
  simp only [publish, hlights, hmotion, htanks]

theorem station_ne_zero_of_takesRequests {s : State} (h : takesRequests s = true) :
    s.boot.station ≠ 0#4 := by
  simp only [takesRequests, Bool.and_eq_true, bne_iff_ne] at h
  obtain ⟨_, hstation⟩ := h
  exact hstation

/-- A request whose decision leaves nothing to publish is answered on the state decided (R177). -/
theorem takeRequest_eq_answered {s t : State} {rq : Requester} {a : Answer}
    {decision : State → State × Answer} (htakes : takesRequests s = true) (hdec : decision s = (t, a))
    (hboot : t.boot = s.boot) (hpublish : publish s t = t) :
    takeRequest rq decision s = answered t rq a.outcome a.data := by
  have hstation : t.boot.station ≠ 0#4 := hboot ▸ station_ne_zero_of_takesRequests htakes
  rw [takeRequest, if_pos htakes, hdec, reply, hpublish, sendTelegram_of_configured hstation]
  rfl

/-! ## EVENTS_CLEAR -/

theorem publish_setEvent (s : State) (u : EventUnit) : publish s (s.setEvent u) = s.setEvent u :=
  publish_of_untracked rfl (fun _ => rfl) rfl

theorem exec_eventsClear (rq : Requester) (set : Word) (s : State) :
    exec (.eventsClear rq set) s = .next (takeRequest rq (decideEventsClear set) s) := rfl

/-- The flags named are cleared, and the REPLY carries those left (R181). -/
theorem exec_eventsClear_of_takesRequests {s : State} (rq : Requester) (set : Word)
    (h : takesRequests s = true) :
    exec (.eventsClear rq set) s = .next (answered
      (s.setEvent { s.event with flags := s.event.flags &&& ~~~set }) rq .done
      (wordBytes (s.event.flags &&& ~~~set))) := by
  rw [exec_eventsClear, takeRequest_eq_answered h rfl (State.setEvent_boot _ _) (publish_setEvent _ _)]

/-! ## DIAG_QUERY -/

@[simp] theorem clearPage_boot (page : Nat) (s : State) : (clearPage page s).boot = s.boot := by
  unfold clearPage
  split
  · rfl
  · split <;> rfl

/-- No diagnostic counter is reported by a status telegram. -/
theorem publish_clearPage (page : Nat) (s : State) : publish s (clearPage page s) = clearPage page s := by
  unfold clearPage
  split
  · exact publish_of_untracked rfl (fun _ => rfl) rfl
  · split
    · exact publish_of_untracked rfl (fun _ => rfl) rfl
    · exact publish_of_untracked rfl (fun a => by cases a <;> rfl) rfl

theorem exec_diagQuery (rq : Requester) (page : Byte) (s : State) :
    exec (.diagQuery rq page) s = .next (takeRequest rq (decideDiagQuery page) s) := rfl

/-- A page past the last is refused (R182). -/
theorem exec_diagQuery_of_badPage {s : State} (rq : Requester) {page : Byte} (h : takesRequests s = true)
    (hpage : 3 ≤ page.toNat) : exec (.diagQuery rq page) s = .next (answered s rq .badRequest []) := by
  have hdec : decideDiagQuery page s = (s, .bare .badRequest) := if_pos hpage
  rw [exec_diagQuery, takeRequest_eq_answered h hdec rfl (publish_self s)]
  rfl

/-- A page is answered with its number and its counters, on the state where these are cleared (R182). -/
theorem exec_diagQuery_of_page {s : State} (rq : Requester) {page : Byte} (h : takesRequests s = true)
    (hpage : page.toNat < 3) :
    exec (.diagQuery rq page) s = .next (answered (clearPage page.toNat s) rq .done
      (page :: (pageCounters page.toNat s).flatMap natBytes)) := by
  have hdec : decideDiagQuery page s = (clearPage page.toNat s,
      { outcome := .done, data := page :: (pageCounters page.toNat s).flatMap natBytes }) :=
    if_neg hpage.not_ge
  rw [exec_diagQuery, takeRequest_eq_answered h hdec (clearPage_boot _ s) (publish_clearPage _ s)]

/-- The reply data of a page of four counters, each field written out. -/
theorem cons_flatMap_natBytes (page : Byte) (a b c d : Nat) :
    page :: [a, b, c, d].flatMap natBytes
      = [page] ++ natBytes a ++ natBytes b ++ natBytes c ++ natBytes d := by
  simp

/-- Settles O52: raising an event sets its flag and hands over the ALERT, and the two requests write only flags
or counters, which no status telegram reports, so that the REPLY alone goes to the line. -/
theorem eventsAndCountersAreAnswered : Obligations.EventsAndCountersAreAnswered := by
  refine ⟨fun s e hstation => ⟨raiseEvent_of_set, fun hclear => ?raised⟩,
    fun s rq set htakes => exec_eventsClear_of_takesRequests rq set htakes,
    fun s rq page htakes => ⟨exec_diagQuery_of_badPage rq htakes, ?page0, ?page1, ?page2⟩⟩
  case raised =>
    rw [raiseEvent_event_of_clear hclear]
    exact ⟨fun k => inSet_flagSet e k s.event, rfl, raiseEvent_line_of_masked hclear,
      raiseEvent_line_of_unmasked hstation hclear⟩
  case page0 | page1 | page2 =>
    rintro rfl
    rw [exec_diagQuery_of_page rq htakes (by decide), ← cons_flatMap_natBytes]
    rfl

end Sys2Proof.Machine

/-! What a command is made of. Every command but the resets, the reads of the record and the line's own events is a
chain of acts: a telegram handed over, an event raised, an event of the budget unit, the diagnostic counters of a
page cleared, or some controllers' blocks written with their load states as they were. The chain's effects name what
may happen in it, and give its frame (`mayTouch`, `mayRaise`). -/

namespace Sys2Proof.Machine

-- As in the tests, so that no command needs threads of its own.
set_option Elab.async false

/-! ## Which events the budget unit raises -/

/-- Of the event flags only these can have changed. -/
def RaisesOnly (l : List Event) (s t : State) : Prop :=
  ∀ e : Event, e ∉ l → inSet t.event.flags e = inSet s.event.flags e

theorem RaisesOnly.refl (l : List Event) (s : State) : RaisesOnly l s s := fun _ _ => rfl

theorem RaisesOnly.trans {l : List Event} {s t u : State} (h : RaisesOnly l s t) (k : RaisesOnly l t u) :
    RaisesOnly l s u := fun e he => (k e he).trans (h e he)

theorem RaisesOnly.mono {l m : List Event} {s t : State} (h : RaisesOnly l s t) (hlm : ∀ e ∈ l, e ∈ m) :
    RaisesOnly m s t := fun e he => h e (fun h' => he (hlm e h'))

theorem raisesOnly_of_event {l : List Event} {s t : State} (h : t.event = s.event) : RaisesOnly l s t :=
  fun _ _ => by rw [h]

theorem raisesOnly_raiseEvent (e : Event) (s : State) : RaisesOnly [e] s (raiseEvent e s) := by
  intro k hk
  cases h : inSet s.event.flags e with
  | true => rw [raiseEvent_of_set h]
  | false =>
    rw [raiseEvent_event_of_clear h, inSet_flagSet]
    simp only [List.mem_singleton] at hk
    simp [hk]

@[simp] theorem handLoad_event (i : Fin 17) (ld : LoadState) (s : State) :
    (handLoad i ld s).event = s.event := by
  unfold handLoad
  split
  · rfl
  · split
    · rfl
    · split
      · rfl
      · split <;> rfl

@[simp] theorem putLoad_event (i : Fin 17) (r : LoadRecord) (s : State) :
    (putLoad i r s).event = s.event := by
  simp only [putLoad, handLoad_event, State.setBudget_event]

@[simp] theorem admitLoad_event (i : Fin 17) (s : State) : (admitLoad i s).event = s.event :=
  putLoad_event i _ s

@[simp] theorem turnOff_event (i : Fin 17) (s : State) : (turnOff i s).event = s.event :=
  putLoad_event i _ s

@[simp] theorem shedLoad_event (i : Fin 17) (r : Reason) (s : State) : (shedLoad i r s).event = s.event :=
  putLoad_event i _ s

@[simp] theorem setReduced_event (i : Fin 17) (r : Reason) (s : State) :
    (setReduced i r s).event = s.event := putLoad_event i _ s

@[simp] theorem setWaiting_event (i : Fin 17) (s : State) : (setWaiting i s).event = s.event :=
  putLoad_event i _ s

@[simp] theorem joinRetry_event (i : Fin 17) (s : State) : (joinRetry i s).event = s.event := by
  unfold joinRetry; split <;> rfl

@[simp] theorem wait_event (i : Fin 17) (s : State) : (wait i s).event = s.event := by simp [wait]

@[simp] theorem reduceLevel_event (i : Fin 17) (s : State) : (reduceLevel i s).event = s.event := by
  unfold reduceLevel
  simp only
  split
  · exact putLoad_event i _ s
  · exact putLoad_event i _ s

@[simp] theorem queueClaim_event (s : State) : (queueClaim s).event = s.event := by
  unfold queueClaim
  split
  · rfl
  · exact sendTelegram_event _ _ _

@[simp] theorem claimAfter_event (o : PerClass Nat) (s : State) : (claimAfter o s).event = s.event := by
  unfold claimAfter
  split
  · rfl
  · split
    · exact queueClaim_event s
    · rfl

@[simp] theorem passOver_event (l : List (Fin 17)) (s : State) : (passOver l s).event = s.event := by
  induction l generalizing s with
  | nil => rfl
  | cons i rest ih =>
    simp only [passOver]
    split
    · split
      · rw [ih, admitLoad_event]
      · rfl
    · split
      · rw [ih, admitLoad_event]
      · rfl
    · rfl

@[simp] theorem admissionPass_event (s : State) : (admissionPass s).event = s.event := by
  unfold admissionPass; split <;> simp

@[simp] theorem evalOver_event (s : State) : (evalOver s).event = s.event := rfl

@[simp] theorem settle_event (o : PerClass Nat) (p : Bool) (s : State) :
    (settle o p s).event = s.event := by
  cases p <;> simp [settle]

@[simp] theorem ask_event (i : Fin 17) (s : State) : (ask i s).event = s.event := by
  unfold ask
  simp only
  split
  · rfl
  · split
    · simp
    · split
      · split <;> simp
      · simp

@[simp] theorem release_event (i : Fin 17) (s : State) : (release i s).event = s.event := by
  unfold release
  split <;> simp

@[simp] theorem setMotorClass_event (i : Fin 17) (c : LoadClass) (s : State) :
    (setMotorClass i c s).event = s.event := rfl

@[simp] theorem askRetraction_event (i : Fin 17) (s : State) : (askRetraction i s).event = s.event := by
  unfold askRetraction
  split <;> simp

@[simp] theorem askExtension_event (i : Fin 17) (s : State) : (askExtension i s).event = s.event := by
  unfold askExtension
  split
  · rfl
  · split <;> simp

@[simp] theorem shedOne_event (c : LoadClass) (s : State) (i : Fin 17) :
    (shedOne c s i).event = s.event := by
  unfold shedOne
  simp only
  split
  · split
    · rfl
    · rfl
    · rfl
    · split <;> simp
    · split <;> simp
    · split <;> simp
    · simp
  · rfl

@[simp] theorem restoreLight_event (c : LoadClass) (s : State) (i : Fin 17) :
    (restoreLight c s i).event = s.event := by
  unfold restoreLight
  simp only
  split
  · split <;> simp
  · rfl

@[simp] theorem restoreShed_event (c : LoadClass) (s : State) (i : Fin 17) :
    (restoreShed c s i).event = s.event := by
  unfold restoreShed
  simp only
  split <;> simp

@[simp] theorem joinRestored_event (c : LoadClass) (s : State) (i : Fin 17) :
    (joinRestored c s i).event = s.event := by
  unfold joinRestored
  simp only
  split <;> simp

/-- A fold of steps that keep some part of the state keeps it. -/
theorem foldl_keeps {α β : Type} (view : State → β) (f : State → α → State)
    (h : ∀ s a, view (f s a) = view s) (l : List α) (s : State) : view (l.foldl f s) = view s := by
  induction l generalizing s with
  | nil => rfl
  | cons a l ih => exact (ih _).trans (h s a)

/-- Clearing a shed flag raises nothing (R60). -/
@[simp] theorem clearShedFlag_event (c : LoadClass) (s : State) : (clearShedFlag c s).event = s.event := by
  unfold clearShedFlag
  simp only
  rw [foldl_keeps State.event _ (joinRestored_event c), foldl_keeps State.event _ (restoreShed_event c),
    foldl_keeps State.event _ (restoreLight_event c)]
  rfl

/-- Setting a shed flag raises LEVEL-SHED, and for class 1 SOC-LOW (R42, R59). -/
theorem raisesOnly_setShedFlag (c : LoadClass) (s : State) :
    RaisesOnly [.levelShed, .socLow] s (setShedFlag c s) := by
  have hcount (l : List (Fin 17)) : (countLevelShed (l.foldl (shedOne c)
      (s.setBudget { s.budget with shed := setClass s.budget.shed c true }))).event = s.event := by
    rw [countLevelShed, State.setBudget_event, foldl_keeps State.event _ (shedOne_event c),
      State.setBudget_event]
  have hshed (l : List (Fin 17)) : RaisesOnly [.levelShed, .socLow] s (raiseEvent .levelShed
      (countLevelShed (l.foldl (shedOne c)
        (s.setBudget { s.budget with shed := setClass s.budget.shed c true })))) :=
    (raisesOnly_of_event (hcount l)).trans ((raisesOnly_raiseEvent _ _).mono (by simp))
  unfold setShedFlag
  simp only
  split
  · exact (hshed _).trans ((raisesOnly_raiseEvent _ _).mono (by simp))
  · exact hshed _

theorem raisesOnly_evalShedFlag (s : State) (c : LoadClass) :
    RaisesOnly [.levelShed, .socLow] s (evalShedFlag s c) := by
  unfold evalShedFlag
  simp only
  split
  · split
    · exact raisesOnly_of_event (clearShedFlag_event c s)
    · exact .refl _ s
  · split
    · split
      · exact raisesOnly_of_event (clearShedFlag_event c s)
      · exact .refl _ s
    · split
      · exact raisesOnly_setShedFlag c s
      · exact .refl _ s

theorem raisesOnly_evalShedFlags (s : State) : RaisesOnly [.levelShed, .socLow] s (evalShedFlags s) := by
  unfold evalShedFlags
  split
  · exact ((raisesOnly_evalShedFlag _ _).trans (raisesOnly_evalShedFlag _ _)).trans
      (raisesOnly_evalShedFlag _ _)
  · exact .refl _ s

@[simp] theorem computeBudget_event (s : State) : (computeBudget s).event = s.event := rfl

theorem raisesOnly_reevaluate (b : Budget) (s : State) :
    RaisesOnly [.levelShed, .socLow] s (reevaluate b s) :=
  (raisesOnly_of_event (computeBudget_event s)).trans ((raisesOnly_evalShedFlags _).trans
    (raisesOnly_of_event (settle_event _ _ _)))

@[simp] theorem takeVictim_event (i : Fin 17) (s : State) : (takeVictim i s).event = s.event := by
  unfold takeVictim
  split <;> simp

theorem raisesOnly_dwellExpires (s : State) : RaisesOnly [.budgetShed] s (dwellExpires s) := by
  unfold dwellExpires
  split
  · exact raisesOnly_of_event rfl
  · refine RaisesOnly.trans ?_ (raisesOnly_of_event (settle_event _ _ _))
    exact (raisesOnly_of_event (takeVictim_event _ s)).trans (raisesOnly_raiseEvent .budgetShed _)

@[simp] theorem holdExpires_event (i : Fin 17) (s : State) : (holdExpires i s).event = s.event := by
  unfold holdExpires
  simp only
  rw [settle_event]
  split <;> simp

@[simp] theorem openGate_event (s : State) : (openGate s).event = s.event := by simp [openGate]

/-! ## The events of the budget unit -/

/-- What an act may do. -/
inductive Effect where
  | writes (b : Block)
  | sends
  | raises (e : Event)
  | asks (i : Fin 17)
  | ownBank
  | quantities
  | dwells
  | holds
  | opensGate
  | claims
  | clearsCounters
  deriving DecidableEq, Repr

/-- One event of the budget unit: a load asked for or released, an input replaced, the over-budget watch, a hold's
end, the opening of the gate, and a CLAIM. A motor is asked for by the motion controller only (R52). -/
inductive LoadEvent : Effect → State → State → Prop where
  | ask (i : Fin 17) (s : State) : i.val < 15 → LoadEvent (.asks i) s (ask i s)
  | release (i : Fin 17) (s : State) : LoadEvent (.asks i) s (release i s)
  | askRetraction (a : Actuator) (s : State) :
      LoadEvent (.asks (motorLoad a)) s (askRetraction (motorLoad a) s)
  | askExtension (a : Actuator) (s : State) :
      LoadEvent (.asks (motorLoad a)) s (askExtension (motorLoad a) s)
  | ownBank (o : BatteryPart) (s : State) : LoadEvent .ownBank s (handOwnBank o s)
  | quantities (banks : List PeerBank) (supply : Nat) (known : Bool) (sums : PerClass Nat) (s : State) :
      LoadEvent .quantities s (handQuantities banks supply known sums s)
  | dwell (s : State) : LoadEvent .dwells s (dwellExpires s)
  | hold (i : Fin 17) (s : State) : s.budget.loads[i].state = .shed .budget →
      LoadEvent .holds s (holdExpires i s)
  | gate (s : State) : LoadEvent .opensGate s (openGate s)
  | claim (s : State) : LoadEvent .claims s (queueClaim s)

/-- The budget unit with other inputs, gate, governing SoC, budget and caps, and everything else as it was. -/
def Rebased (s t : State) : Prop :=
  ∃ b : Budget, t = s.setBudget b ∧ b.loads = s.budget.loads ∧ b.own = s.budget.own
    ∧ b.retry = s.budget.retry ∧ b.admitted = s.budget.admitted ∧ b.shed = s.budget.shed
    ∧ b.dwell = s.budget.dwell ∧ b.claimTimer = s.budget.claimTimer ∧ b.claimDue = s.budget.claimDue
    ∧ b.levelSheds = s.budget.levelSheds ∧ b.budgetSheds = s.budget.budgetSheds

theorem Rebased.refl (s : State) : Rebased s s :=
  ⟨s.budget, rfl, rfl, rfl, rfl, rfl, rfl, rfl, rfl, rfl, rfl, rfl⟩

/-- A re-evaluation writes the inputs and what follows from them, and then moves loads (R40). -/
theorem rebased_steps_reevaluate (b c : Budget) (s : State) (hloads : c.loads = s.budget.loads)
    (hown : c.own = s.budget.own) (hretry : c.retry = s.budget.retry)
    (hadmitted : c.admitted = s.budget.admitted) (hshed : c.shed = s.budget.shed)
    (hdwell : c.dwell = s.budget.dwell) (htimer : c.claimTimer = s.budget.claimTimer)
    (hdue : c.claimDue = s.budget.claimDue) (hlevel : c.levelSheds = s.budget.levelSheds)
    (hbudget : c.budgetSheds = s.budget.budgetSheds) :
    ∃ m, Rebased s m ∧ LoadSteps m (reevaluate b (s.setBudget c)) :=
  ⟨computeBudget (s.setBudget c),
    ⟨_, rfl, hloads, hown, hretry, hadmitted, hshed, hdwell, htimer, hdue, hlevel, hbudget⟩,
    loadSteps_reevaluate b _⟩

/-- An event of the budget unit rewrites the unit's basis and then moves loads. -/
theorem LoadEvent.rebased_steps {e : Effect} {s t : State} (h : LoadEvent e s t) :
    ∃ m, Rebased s m ∧ LoadSteps m t := by
  cases h with
  | ask i _ _ => exact ⟨s, .refl s, loadSteps_ask i s⟩
  | release i => exact ⟨s, .refl s, loadSteps_release i s⟩
  | askRetraction a => exact ⟨s, .refl s, loadSteps_askRetraction _ s⟩
  | askExtension a => exact ⟨s, .refl s, loadSteps_askExtension _ s⟩
  | ownBank o => exact rebased_steps_reevaluate _ _ s rfl rfl rfl rfl rfl rfl rfl rfl rfl rfl
  | quantities => exact rebased_steps_reevaluate _ _ s rfl rfl rfl rfl rfl rfl rfl rfl rfl rfl
  | dwell => exact ⟨s, .refl s, loadSteps_dwellExpires s⟩
  | hold i _ _ => exact ⟨s, .refl s, loadSteps_holdExpires i s⟩
  | gate =>
    exact ⟨s.setBudget { s.budget with gateOpen := true },
      ⟨_, rfl, rfl, rfl, rfl, rfl, rfl, rfl, rfl, rfl, rfl, rfl⟩, loadSteps_settle _ _ _⟩
  | claim => exact ⟨s, .refl s, loadSteps_queueClaim s⟩

/-- The events that an act may raise. -/
def Effect.raised : Effect → List Event
  | .raises e => [e]
  | .ownBank | .quantities => [.levelShed, .socLow]
  | .dwells => [.budgetShed]
  | .writes _ | .sends | .asks _ | .holds | .opensGate | .claims | .clearsCounters => []

theorem LoadEvent.raisesOnly {e : Effect} {s t : State} (h : LoadEvent e s t) :
    RaisesOnly e.raised s t := by
  cases h with
  | ask i _ _ => exact raisesOnly_of_event (ask_event i s)
  | release i => exact raisesOnly_of_event (release_event i s)
  | askRetraction a => exact raisesOnly_of_event (askRetraction_event _ s)
  | askExtension a => exact raisesOnly_of_event (askExtension_event _ s)
  | ownBank o =>
    exact (raisesOnly_of_event (State.setBudget_event s _)).trans (raisesOnly_reevaluate s.budget _)
  | quantities =>
    exact (raisesOnly_of_event (State.setBudget_event s _)).trans (raisesOnly_reevaluate s.budget _)
  | dwell => exact raisesOnly_dwellExpires s
  | hold i _ _ => exact raisesOnly_of_event (holdExpires_event i s)
  | gate => exact raisesOnly_of_event (openGate_event s)
  | claim => exact raisesOnly_of_event (queueClaim_event s)

/-- An event of the budget unit that raises nothing leaves the event unit as it was. -/
theorem LoadEvent.event_of_raised {e : Effect} {s t : State} (h : LoadEvent e s t) (he : e.raised = []) :
    t.event = s.event := by
  cases h with
  | ask i _ _ => exact ask_event i s
  | release i => exact release_event i s
  | askRetraction a => exact askRetraction_event _ s
  | askExtension a => exact askExtension_event _ s
  | ownBank | quantities | dwell => cases he
  | hold i _ _ => exact holdExpires_event i s
  | gate => exact openGate_event s
  | claim => exact queueClaim_event s

/-! ## Chains of acts -/

/-- The controllers' copies of the view's condition facts (R37). -/
def viewCopies (s : State) : VehicleState × Bool × Bool × Bool :=
  (s.motion.vehicle, s.water.moving, s.light.peerStepOut, s.water.peerGreyFull)

/-- Some controllers' blocks are written: the load states they hold, the budget unit, the line, the parameters,
the station number and the phase of the start stay, and heater outputs and light channels stay sound. A copy of a
view's fact is written with the peer table only, and the lights' own step-out with the motion controller only. -/
structure Written (bs : List Block) (s t : State) : Prop where
  frame   : ∀ b : Block, b ∉ bs → blockSame s t b
  pending : t.pending = s.pending
  params  : t.params = s.params
  budget  : t.budget = s.budget
  line    : t.line = s.line
  station : t.boot.station = s.boot.station
  phase   : t.boot.phase = s.boot.phase
  lights  : ∀ n : Fin 8, t.light.channels[n].load = s.light.channels[n].load
  zones   : ∀ n : Fin 4, t.zone.zones[n].load = s.zone.zones[n].load
  heater  : t.water.frost.load = s.water.frost.load
  pump    : t.water.pump.load = s.water.pump.load
  heatersOk : HeatersOk s → HeatersOk t
  lightsOk : LightsOk s → LightsOk t
  view : .peers ∉ bs → viewCopies t = viewCopies s
  ownStep : .motion ∉ bs → t.light.ownStepOut = s.light.ownStepOut

/-- A chain of acts with these effects. -/
inductive Acts (L : List Effect) (s : State) : State → Prop where
  | refl : Acts L s s
  | event {t u : State} {e : Effect} : e ∈ L → Acts L s t → LoadEvent e t u → Acts L s u
  | send {t : State} (k : Kind) (p : List Byte) : .sends ∈ L → Acts L s t → Acts L s (sendTelegram k p t)
  | raise {t : State} {e : Event} : .raises e ∈ L → Acts L s t → Acts L s (raiseEvent e t)
  | write {t u : State} {bs : List Block} : (∀ b ∈ bs, .writes b ∈ L) → Acts L s t → Written bs t u →
      Acts L s u
  | clear {t : State} (page : Nat) : .clearsCounters ∈ L → Acts L s t → Acts L s (clearPage page t)

theorem Acts.mono {L M : List Effect} {s t : State} (h : Acts L s t) (hLM : ∀ e ∈ L, e ∈ M) : Acts M s t := by
  induction h with
  | refl => exact .refl
  | event he _ k ih => exact .event (hLM _ he) ih k
  | send k p he _ ih => exact .send k p (hLM _ he) ih
  | raise he _ ih => exact .raise (hLM _ he) ih
  | write he _ k ih => exact .write (fun b hb => hLM _ (he b hb)) ih k
  | clear page he _ ih => exact .clear page (hLM _ he) ih

theorem Acts.trans {L : List Effect} {s t u : State} (h : Acts L s t) (k : Acts L t u) : Acts L s u := by
  induction k with
  | refl => exact h
  | event he _ k ih => exact .event he ih k
  | send k p he _ ih => exact .send k p he ih
  | raise he _ ih => exact .raise he ih
  | write he _ k ih => exact .write he ih k
  | clear page he _ ih => exact .clear page he ih

/-- Chains with different effects, one after the other. -/
theorem Acts.append {L M N : List Effect} {s t u : State} (h : Acts L s t) (k : Acts M t u)
    (hL : ∀ e ∈ L, e ∈ N := by decide) (hM : ∀ e ∈ M, e ∈ N := by decide) : Acts N s u :=
  (h.mono hL).trans (k.mono hM)

theorem Acts.foldl {L : List Effect} {α : Type} (f : State → α → State) (h : ∀ s a, Acts L s (f s a))
    (l : List α) (s : State) : Acts L s (l.foldl f s) := by
  induction l generalizing s with
  | nil => exact .refl
  | cons a l ih => exact (h s a).trans (ih _)

theorem LoadEvent.acts {e : Effect} {s t : State} (h : LoadEvent e s t) : Acts [e] s t :=
  .event (List.mem_singleton_self e) .refl h

theorem Written.acts {bs : List Block} {s t : State} (h : Written bs s t) : Acts (bs.map .writes) s t :=
  .write (fun _ hb => List.mem_map_of_mem hb) .refl h

theorem acts_sendTelegram (k : Kind) (p : List Byte) (s : State) : Acts [.sends] s (sendTelegram k p s) :=
  .send k p (List.mem_singleton_self _) .refl

theorem acts_raiseEvent (e : Event) (s : State) : Acts [.raises e] s (raiseEvent e s) :=
  .raise (List.mem_singleton_self _) .refl

/-! ## What a chain of acts keeps -/

/-- The blocks that an act may change. -/
def Effect.touched : Effect → List Block
  | .writes b => [b]
  | .sends => [.line]
  | .raises _ => [.event, .line]
  | .asks _ | .holds | .opensGate => loadBlocks
  | .ownBank | .quantities | .dwells => .event :: loadBlocks
  | .claims => [.budget, .line]
  | .clearsCounters => [.line, .peers, .budget, .water, .motion]

theorem blockSame_refl (s : State) (b : Block) : blockSame s s b := by
  cases b with
  | clock => exact ⟨rfl, rfl⟩
  | _ => rfl

theorem blockSame_trans {s t u : State} {b : Block} (h : blockSame s t b) (k : blockSame t u b) :
    blockSame s u b := by
  cases b
  case clock => exact ⟨k.1.trans h.1, k.2.trans h.2⟩
  all_goals exact Eq.trans k h

/-- The frame of a load event, by blocks. -/
theorem LoadFrame.blockSame {s t : State} (h : LoadFrame s t) {b : Block}
    (hb : b ∉ Block.event :: loadBlocks) : blockSame s t b := by
  cases b
  case boot => exact h.boot
  case params => exact h.params
  case bank => exact h.bank
  case peers => exact h.peers
  case motion => exact h.motion
  case clock => exact h.time
  case freeCount => exact h.freeCount
  all_goals exact absurd (by decide) hb

theorem Rebased.blockSame {s t : State} (h : Rebased s t) {b : Block} (hb : b ≠ .budget) :
    blockSame s t b := by
  obtain ⟨c, rfl, _⟩ := h
  cases b
  case budget => exact absurd rfl hb
  case clock => exact ⟨rfl, rfl⟩
  all_goals rfl

theorem queueClaim_blockSame (s : State) {b : Block} (hb : b ∉ [Block.budget, .line]) :
    blockSame s (queueClaim s) b := by
  unfold queueClaim
  split
  · exact blockSame_refl s b
  · rw [sendTelegram_eq]
    cases b
    case budget | line => exact absurd (by decide) hb
    case clock => exact ⟨rfl, rfl⟩
    all_goals rfl

theorem LoadEvent.blockSame {e : Effect} {s t : State} (h : LoadEvent e s t) {b : Block}
    (hb : b ∉ e.touched) : blockSame s t b := by
  have hmoved (hb' : b ∉ Block.event :: loadBlocks) : Machine.blockSame s t b := by
    obtain ⟨m, hm, hsteps⟩ := h.rebased_steps
    exact blockSame_trans (hm.blockSame (fun h => hb' (by subst h; decide))) (hsteps.frame.blockSame hb')
  have hquiet (hb' : b ∉ loadBlocks) (he : e.raised = []) : Machine.blockSame s t b := by
    by_cases hev : b = .event
    · subst hev; exact h.event_of_raised he
    · exact hmoved (fun h => (List.mem_cons.mp h).elim hev hb')
  cases h with
  | ask | release | askRetraction | askExtension | hold | gate => exact hquiet hb rfl
  | ownBank | quantities | dwell => exact hmoved hb
  | claim => exact queueClaim_blockSame s hb

theorem sendTelegram_blockSame (k : Kind) (p : List Byte) (s : State) {b : Block} (hb : b ≠ .line) :
    blockSame s (sendTelegram k p s) b := by
  rw [sendTelegram_eq]
  cases b
  case line => exact absurd rfl hb
  case clock => exact ⟨rfl, rfl⟩
  all_goals rfl

theorem raiseEvent_blockSame (e : Event) (s : State) {b : Block} (hb : b ∉ [Block.event, .line]) :
    blockSame s (raiseEvent e s) b := by
  have hset : blockSame s (s.setEvent (flagSet e s.event)) b := by
    cases b
    case event | line => exact absurd (by decide) hb
    case clock => exact ⟨rfl, rfl⟩
    all_goals rfl
  cases h : inSet s.event.flags e with
  | true => rw [raiseEvent_of_set h]; exact blockSame_refl s b
  | false =>
    rw [raiseEvent_of_clear h]
    split
    · exact hset
    · exact blockSame_trans hset (sendTelegram_blockSame _ _ _ (fun h => hb (by subst h; decide)))

theorem clearPage_blockSame (page : Nat) (s : State) {b : Block}
    (hb : b ∉ [Block.line, .peers, .budget, .water, .motion]) : blockSame s (clearPage page s) b := by
  unfold clearPage
  cases b
  case line | peers | budget | water | motion => exact absurd (by decide) hb
  case clock => split <;> [exact ⟨rfl, rfl⟩; split <;> exact ⟨rfl, rfl⟩]
  all_goals split <;> [rfl; split <;> rfl]

/-- A chain of acts leaves every block as it was that none of its effects names. -/
theorem Acts.blockSame {L : List Effect} {s t : State} (h : Acts L s t) {b : Block}
    (hb : ∀ e ∈ L, b ∉ e.touched) : blockSame s t b := by
  induction h with
  | refl => exact blockSame_refl s b
  | event he _ k ih => exact blockSame_trans ih (k.blockSame (hb _ he))
  | send k p he _ ih =>
    exact blockSame_trans ih (sendTelegram_blockSame k p _ (by simpa [Effect.touched] using hb _ he))
  | raise he _ ih => exact blockSame_trans ih (raiseEvent_blockSame _ _ (hb _ he))
  | write he _ k ih =>
    refine blockSame_trans ih (k.frame b (fun hmem => ?_))
    exact hb _ (he b hmem) (List.mem_singleton_self b)
  | clear page he _ ih => exact blockSame_trans ih (clearPage_blockSame page _ (hb _ he))

theorem clearPage_pending (page : Nat) (s : State) : (clearPage page s).pending = s.pending := by
  unfold clearPage
  split
  · rfl
  · split <;> rfl

theorem clearPage_event (page : Nat) (s : State) : (clearPage page s).event = s.event := by
  unfold clearPage
  split
  · rfl
  · split <;> rfl

theorem clearPage_params (page : Nat) (s : State) : (clearPage page s).params = s.params := by
  unfold clearPage
  split
  · rfl
  · split <;> rfl

theorem LoadEvent.pending {e : Effect} {s t : State} (h : LoadEvent e s t) : t.pending = s.pending := by
  obtain ⟨m, ⟨b, rfl, _⟩, hsteps⟩ := h.rebased_steps
  exact hsteps.frame.pending

theorem LoadEvent.boot {e : Effect} {s t : State} (h : LoadEvent e s t) : t.boot = s.boot := by
  obtain ⟨m, ⟨b, rfl, _⟩, hsteps⟩ := h.rebased_steps
  exact hsteps.frame.boot

theorem LoadEvent.params {e : Effect} {s t : State} (h : LoadEvent e s t) : t.params = s.params := by
  obtain ⟨m, ⟨b, rfl, _⟩, hsteps⟩ := h.rebased_steps
  exact hsteps.frame.params

theorem raiseEvent_boot (e : Event) (s : State) : (raiseEvent e s).boot = s.boot :=
  (loadSteps_raiseEvent e s).frame.boot

theorem raiseEvent_params (e : Event) (s : State) : (raiseEvent e s).params = s.params :=
  (loadSteps_raiseEvent e s).frame.params

theorem sendTelegram_boot (k : Kind) (p : List Byte) (s : State) : (sendTelegram k p s).boot = s.boot :=
  (loadSteps_sendTelegram k p s).frame.boot

theorem sendTelegram_params (k : Kind) (p : List Byte) (s : State) :
    (sendTelegram k p s).params = s.params := (loadSteps_sendTelegram k p s).frame.params

/-- A chain of acts leaves the waiting commands to `step`. -/
theorem Acts.pending {L : List Effect} {s t : State} (h : Acts L s t) : t.pending = s.pending := by
  induction h with
  | refl => rfl
  | event _ _ k ih => exact k.pending.trans ih
  | send k p _ _ ih => exact (loadSteps_sendTelegram k p _).frame.pending.trans ih
  | raise _ _ ih => exact (loadSteps_raiseEvent _ _).frame.pending.trans ih
  | write _ _ k ih => exact k.pending.trans ih
  | clear page _ _ ih => exact (clearPage_pending page _).trans ih

theorem Acts.station {L : List Effect} {s t : State} (h : Acts L s t) : t.boot.station = s.boot.station := by
  induction h with
  | refl => rfl
  | event _ _ k ih => rw [k.boot, ih]
  | send k p _ _ ih => rw [sendTelegram_boot, ih]
  | raise _ _ ih => rw [raiseEvent_boot, ih]
  | write _ _ k ih => exact k.station.trans ih
  | clear page _ _ ih => rw [clearPage_boot, ih]

theorem Acts.phase {L : List Effect} {s t : State} (h : Acts L s t) : t.boot.phase = s.boot.phase := by
  induction h with
  | refl => rfl
  | event _ _ k ih => rw [k.boot, ih]
  | send k p _ _ ih => rw [sendTelegram_boot, ih]
  | raise _ _ ih => rw [raiseEvent_boot, ih]
  | write _ _ k ih => exact k.phase.trans ih
  | clear page _ _ ih => rw [clearPage_boot, ih]

theorem Acts.running {L : List Effect} {s t : State} (h : Acts L s t) : t.running = s.running := by
  unfold State.running
  rw [h.phase]

theorem Acts.params {L : List Effect} {s t : State} (h : Acts L s t) : t.params = s.params := by
  induction h with
  | refl => rfl
  | event _ _ k ih => exact k.params.trans ih
  | send k p _ _ ih => rw [sendTelegram_params, ih]
  | raise _ _ ih => rw [raiseEvent_params, ih]
  | write _ _ k ih => exact k.params.trans ih
  | clear page _ _ ih => rw [clearPage_params, ih]

/-- A chain of acts raises the events its effects name, and no other, where it does not write the event unit. -/
theorem Acts.raisesOnly {L : List Effect} {s t : State} (h : Acts L s t) {l : List Event}
    (hl : ∀ e ∈ L, ∀ k ∈ e.raised, k ∈ l) (hw : .writes .event ∉ L) : RaisesOnly l s t := by
  induction h with
  | refl => exact .refl l s
  | event he _ k ih => exact ih.trans (k.raisesOnly.mono (hl _ he))
  | send k p _ _ ih => exact ih.trans (raisesOnly_of_event (sendTelegram_event k p _))
  | raise he _ ih => exact ih.trans ((raisesOnly_raiseEvent _ _).mono (hl _ he))
  | write he _ k ih =>
    exact ih.trans (raisesOnly_of_event (k.frame .event (fun hmem => hw (he _ hmem))))
  | clear page _ _ ih => exact ih.trans (raisesOnly_of_event (clearPage_event page _))

/-! ## The line in a chain of acts -/

theorem Handed.trans {own : Station} {l m n : Line} (h : Handed own l m) (k : Handed own m n) :
    Handed own l n := by
  induction k with
  | refl => exact h
  | send m k p _ ih => exact .send m k p ih

/-- The line goes from one state to the other by telegrams handed over, on an unconfigured station by none. -/
def LineHanded (s t : State) : Prop :=
  Handed s.boot.station s.line t.line ∧ (s.boot.station = 0#4 → t.line = s.line)

theorem LineHanded.refl (s : State) : LineHanded s s := ⟨.refl, fun _ => rfl⟩

theorem LineHanded.trans {s t u : State} (h : LineHanded s t) (hst : t.boot.station = s.boot.station)
    (k : LineHanded t u) : LineHanded s u := by
  unfold LineHanded at k
  rw [hst] at k
  exact ⟨h.1.trans k.1, fun h0 => (k.2 h0).trans (h.2 h0)⟩

theorem lineHanded_of_line {s t : State} (h : t.line = s.line) : LineHanded s t :=
  ⟨h ▸ .refl, fun _ => h⟩

theorem lineHanded_sendTelegram (k : Kind) (p : List Byte) (s : State) :
    LineHanded s (sendTelegram k p s) := by
  by_cases h : s.boot.station = 0#4
  · exact lineHanded_of_line (by rw [sendTelegram, if_pos h])
  · refine ⟨?_, fun h0 => absurd h0 h⟩
    rw [sendTelegram_of_configured h]
    exact .send _ k p .refl

/-- Nothing but a telegram handed over reaches the line in a chain of moves. -/
theorem LoadSteps.lineHanded {s t : State} (h : LoadSteps s t) : LineHanded s t := by
  induction h with
  | refl => exact .refl s
  | send t k p h ih => exact ih.trans (congrArg Boot.station h.frame.boot) (lineHanded_sendTelegram k p t)
  | flag t w h ih => exact ih.trans (congrArg Boot.station h.frame.boot) (lineHanded_of_line rfl)
  | load t i r h _ _ ih =>
    exact ih.trans (congrArg Boot.station h.frame.boot) (lineHanded_of_line (putLoad_line i r t))
  | cls t i c h ih => exact ih.trans (congrArg Boot.station h.frame.boot) (lineHanded_of_line rfl)
  | book t b h _ _ _ ih => exact ih.trans (congrArg Boot.station h.frame.boot) (lineHanded_of_line rfl)

theorem LoadEvent.lineHanded {e : Effect} {s t : State} (h : LoadEvent e s t) : LineHanded s t := by
  obtain ⟨m, ⟨b, rfl, _⟩, hsteps⟩ := h.rebased_steps
  exact (lineHanded_of_line (State.setBudget_line s b)).trans rfl hsteps.lineHanded

/-- A chain of acts that clears no counters changes the line by telegrams handed over only (R166, R172). -/
theorem Acts.lineHanded {L : List Effect} {s t : State} (h : Acts L s t) (hL : .clearsCounters ∉ L) :
    LineHanded s t := by
  induction h with
  | refl => exact .refl s
  | event _ h k ih => exact ih.trans h.station k.lineHanded
  | send k p _ h ih => exact ih.trans h.station (lineHanded_sendTelegram k p _)
  | raise _ h ih => exact ih.trans h.station (loadSteps_raiseEvent _ _).lineHanded
  | write _ h k ih => exact ih.trans h.station (lineHanded_of_line k.line)
  | clear page he _ _ => exact absurd he hL

theorem clearPage_line_queue (page : Nat) (s : State) :
    (clearPage page s).line.queue = s.line.queue ∧ (clearPage page s).line.register = s.line.register
      ∧ (clearPage page s).line.sender = s.line.sender := by
  unfold clearPage
  split
  · exact ⟨rfl, rfl, rfl⟩
  · split <;> exact ⟨rfl, rfl, rfl⟩

/-- The line invariant asks for queue, register, sender and station number only. -/
theorem lineOk_congr {s t : State} (h : LineOk s) (hq : t.line.queue = s.line.queue)
    (hr : t.line.register = s.line.register) (hs : t.line.sender = s.line.sender)
    (hst : t.boot.station = s.boot.station) : LineOk t := by
  unfold LineOk at *
  rw [hq, hr, hs, hst]
  exact h

theorem LoadEvent.lineOk {e : Effect} {s t : State} (h : LoadEvent e s t) (hs : LineOk s) : LineOk t := by
  obtain ⟨m, ⟨b, rfl, _⟩, hsteps⟩ := h.rebased_steps
  exact hsteps.lineOk (lineOk_congr hs rfl rfl rfl rfl)

/-- A chain of acts keeps the line sound. -/
theorem Acts.lineOk {L : List Effect} {s t : State} (h : Acts L s t) (hs : LineOk s) : LineOk t := by
  induction h with
  | refl => exact hs
  | event _ _ k ih => exact k.lineOk ih
  | send k p _ _ ih => exact lineOk_sendTelegram k p _ ih
  | raise _ _ ih => exact (loadSteps_raiseEvent _ _).lineOk ih
  | write _ _ k ih => exact lineOk_congr ih (by rw [k.line]) (by rw [k.line]) (by rw [k.line]) k.station
  | clear page _ _ ih =>
    obtain ⟨hq, hr, hsend⟩ := clearPage_line_queue page ‹State›
    exact lineOk_congr ih hq hr hsend (by rw [clearPage_boot])

end Sys2Proof.Machine

/-! The acts of each operation of the controllers and of each command, and with them three statements: every command
keeps to its blocks, reaches the line by telegrams handed over, and keeps the transmit queue within its bounds. -/

namespace Sys2Proof.Machine

-- As in the tests, so that no command needs threads of its own.
set_option Elab.async false

/-! ## Writing one block -/

theorem written_setMotion (s : State) (x : Motion) (hvehicle : x.vehicle = s.motion.vehicle := by rfl) :
    Written [.motion] s (s.setMotion x) := by
  refine ⟨?_, rfl, rfl, rfl, rfl, rfl, rfl, fun _ => rfl, fun _ => rfl, rfl, rfl, id, id,
    fun _ => congrArg (fun v => (v, (viewCopies s).2)) hvehicle, fun _ => rfl⟩
  intro b hb
  cases b
  case motion => exact absurd (by decide) hb
  case clock => exact ⟨rfl, rfl⟩
  all_goals rfl

/-- The vehicle state is handed over on the peer table's behalf. -/
theorem written_setVehicle (s : State) (v : VehicleState) :
    Written [.motion, .peers] s (s.setMotion { s.motion with vehicle := v }) := by
  refine ⟨?_, rfl, rfl, rfl, rfl, rfl, rfl, fun _ => rfl, fun _ => rfl, rfl, rfl, id, id, fun h => absurd (by simp) h,
    fun _ => rfl⟩
  intro b hb
  cases b
  case motion => exact absurd (by decide) hb
  case peers => exact absurd (by decide) hb
  case clock => exact ⟨rfl, rfl⟩
  all_goals rfl

theorem written_setPeers (s : State) (x : Peers) : Written [.peers] s (s.setPeers x) := by
  refine ⟨?_, rfl, rfl, rfl, rfl, rfl, rfl, fun _ => rfl, fun _ => rfl, rfl, rfl, id, id, fun _ => rfl, fun _ => rfl⟩
  intro b hb
  cases b
  case peers => exact absurd (by decide) hb
  case clock => exact ⟨rfl, rfl⟩
  all_goals rfl

theorem written_setBank (s : State) (x : Bank) : Written [.bank] s (s.setBank x) := by
  refine ⟨?_, rfl, rfl, rfl, rfl, rfl, rfl, fun _ => rfl, fun _ => rfl, rfl, rfl, id, id, fun _ => rfl, fun _ => rfl⟩
  intro b hb
  cases b
  case bank => exact absurd (by decide) hb
  case clock => exact ⟨rfl, rfl⟩
  all_goals rfl

theorem written_setEvent (s : State) (x : EventUnit) : Written [.event] s (s.setEvent x) := by
  refine ⟨?_, rfl, rfl, rfl, rfl, rfl, rfl, fun _ => rfl, fun _ => rfl, rfl, rfl, id, id, fun _ => rfl, fun _ => rfl⟩
  intro b hb
  cases b
  case event => exact absurd (by decide) hb
  case clock => exact ⟨rfl, rfl⟩
  all_goals rfl

theorem written_drawFree (n : Nat) (s : State) : Written [.freeCount] s (drawFree n s) := by
  refine ⟨?_, rfl, rfl, rfl, rfl, rfl, rfl, fun _ => rfl, fun _ => rfl, rfl, rfl, id, id, fun _ => rfl, fun _ => rfl⟩
  intro b hb
  cases b
  case freeCount => exact absurd (by decide) hb
  case clock => exact ⟨rfl, rfl⟩
  all_goals rfl

theorem written_setBoot (s : State) (x : Boot) (hstation : x.station = s.boot.station := by rfl)
    (hphase : x.phase = s.boot.phase := by rfl) : Written [.boot] s (s.setBoot x) := by
  constructor
  case station => exact hstation
  case phase => exact hphase
  case heatersOk => exact id
  case lightsOk => exact id
  case frame =>
    intro b hb
    cases b
    case boot => exact absurd (by decide) hb
    case clock => exact ⟨rfl, rfl⟩
    all_goals rfl
  all_goals (intros; rfl)

theorem written_setZone (s : State) (x : ZoneCtl)
    (h : ∀ n : Fin 4, x.zones[n].load = s.zone.zones[n].load := by intro n; rfl)
    (houtputs : HeatersOk s → HeatersOk (s.setZone x) := by exact id) : Written [.zone] s (s.setZone x) := by
  constructor
  case zones => exact h
  case heatersOk => exact houtputs
  case lightsOk => exact id
  case frame =>
    intro b hb
    cases b
    case zone => exact absurd (by decide) hb
    case clock => exact ⟨rfl, rfl⟩
    all_goals rfl
  all_goals (intros; rfl)

theorem written_setLight (s : State) (x : LightCtl)
    (h : ∀ n : Fin 8, x.channels[n].load = s.light.channels[n].load := by intro n; rfl)
    (hchannels : LightsOk s → LightsOk (s.setLight x) := by exact id)
    (hpeer : x.peerStepOut = s.light.peerStepOut := by rfl) (hown : x.ownStepOut = s.light.ownStepOut := by rfl) :
    Written [.light] s (s.setLight x) := by
  constructor
  case view => exact fun _ => congrArg (fun out => (s.motion.vehicle, s.water.moving, out, s.water.peerGreyFull)) hpeer
  case ownStep => exact fun _ => hown
  case lights => exact h
  case heatersOk => exact id
  case lightsOk => exact hchannels
  case frame =>
    intro b hb
    cases b
    case light => exact absurd (by decide) hb
    case clock => exact ⟨rfl, rfl⟩
    all_goals rfl
  all_goals (intros; rfl)

theorem written_setWater (s : State) (x : Water) (hfrost : x.frost.load = s.water.frost.load := by rfl)
    (hpump : x.pump.load = s.water.pump.load := by rfl) (houtput : x.frost.output = s.water.frost.output := by rfl)
    (hmoving : x.moving = s.water.moving := by rfl) (hgrey : x.peerGreyFull = s.water.peerGreyFull := by rfl) :
    Written [.water] s (s.setWater x) := by
  constructor
  case view =>
    intro _
    unfold viewCopies
    rw [State.setWater_water, hmoving, hgrey]
    rfl
  case heater => exact hfrost
  case pump => exact hpump
  case heatersOk =>
    rintro ⟨hzones, hheater⟩
    refine ⟨hzones, ?_⟩
    rw [State.setWater_water, houtput, hfrost]
    exact hheater
  case lightsOk => exact id
  case frame =>
    intro b hb
    cases b
    case water => exact absurd (by decide) hb
    case clock => exact ⟨rfl, rfl⟩
    all_goals rfl
  all_goals (intros; rfl)

/-- The peer step-out is handed over on the peer table's behalf. -/
theorem written_setPeerStepOut (s : State) (out : Bool) :
    Written [.light, .peers] s (s.setLight { s.light with peerStepOut := out }) := by
  refine ⟨?_, rfl, rfl, rfl, rfl, rfl, rfl, fun _ => rfl, fun _ => rfl, rfl, rfl, id, id, fun h => absurd (by simp) h,
    fun _ => rfl⟩
  intro b hb
  cases b
  case light => exact absurd (by decide) hb
  case peers => exact absurd (by decide) hb
  case clock => exact ⟨rfl, rfl⟩
  all_goals rfl

/-- The own step-out is handed over by the motion controller (R138). -/
theorem written_setOwnStepOut (s : State) (out : Bool) :
    Written [.light, .motion] s (s.setLight { s.light with ownStepOut := out }) := by
  refine ⟨?_, rfl, rfl, rfl, rfl, rfl, rfl, fun _ => rfl, fun _ => rfl, rfl, rfl, id, id, fun _ => rfl,
    fun h => absurd (by simp) h⟩
  intro b hb
  cases b
  case light => exact absurd (by decide) hb
  case motion => exact absurd (by decide) hb
  case clock => exact ⟨rfl, rfl⟩
  all_goals rfl

/-- A fact is handed to the water controller on the peer table's behalf. -/
theorem written_setWaterFact (s : State) (moving full : Bool) :
    Written [.water, .peers] s (s.setWater { s.water with moving := moving, peerGreyFull := full }) := by
  refine ⟨?_, rfl, rfl, rfl, rfl, rfl, rfl, fun _ => rfl, fun _ => rfl, rfl, rfl, id, id, fun h => absurd (by simp) h,
    fun _ => rfl⟩
  intro b hb
  cases b
  case water => exact absurd (by decide) hb
  case peers => exact absurd (by decide) hb
  case clock => exact ⟨rfl, rfl⟩
  all_goals rfl

/-- A light channel is sound against its parameters (R148, R149, R152). -/
def ChannelFits (p : ChannelParams) (c : Channel) : Prop :=
  c.target = targetLevel p c.load c.setLevel ∧ c.duty = gammaDuty c.current
  ∧ ∀ r, c.load = .reduced r → c.current ≤ p.ceiling

theorem channelOk_iff (s : State) (n : Fin 8) :
    ChannelOk s n ↔ ChannelFits s.params.channels[n] s.light.channels[n] := Iff.rfl

theorem channelFits_retarget {p : ChannelParams} {c : Channel} (hduty : c.duty = gammaDuty c.current)
    (hceiling : ∀ r, c.load = .reduced r → c.current ≤ p.ceiling) : ChannelFits p (retarget p c) :=
  ⟨rfl, hduty, hceiling⟩

theorem fadeLevel_le {step current target bound : Nat} (hc : current ≤ bound) (ht : target ≤ bound) :
    fadeLevel step current target ≤ bound := by
  unfold fadeLevel
  split
  · omega
  · split <;> omega

/-- A fade step keeps a REDUCED channel at or below its ceiling. -/
theorem channelFits_fadeChannel {p : ChannelParams} {c : Channel} (h : ChannelFits p c) : ChannelFits p (fadeChannel p c) := by
  obtain ⟨htarget, hduty, hceiling⟩ := h
  unfold fadeChannel
  simp only
  split
  · exact ⟨htarget, hduty, hceiling⟩
  · refine ⟨htarget, rfl, fun r hr => fadeLevel_le (hceiling r hr) ?_⟩
    have hr' : c.load = .reduced r := hr
    rw [htarget, hr']
    exact Nat.min_le_right _ _

theorem written_putChannel (n : Fin 8) (c : Channel) (s : State)
    (h : c.load = s.light.channels[n].load := by rfl)
    (hfits : ChannelFits s.params.channels[n] s.light.channels[n] → ChannelFits s.params.channels[n] c := by exact id) :
    Written [.light] s (putChannel n c s) := by
  refine written_setLight s _ (h := fun m => ?_) (hchannels := fun hs m => ?_)
  · rw [vector_get_set]
    split
    · next hnm => subst hnm; exact h
    · rfl
  · rw [channelOk_iff, State.setLight_light, vector_get_set]
    split
    · next hnm =>
      subst hnm
      exact hfits (hs n)
    · exact hs m

theorem written_putZone (n : Fin 4) (z : Zone) (s : State)
    (h : z.load = s.zone.zones[n].load := by rfl) :
    Written [.zone] s (putZone n z s) := by
  refine written_setZone s _ (h := fun m => ?_) (houtputs := fun hs => ⟨fun m => ?_, hs.2⟩)
  · rw [vector_get_set]
    split
    · next hnm => subst hnm; exact h
    · rfl
  · rw [State.setZone_zone, vector_get_set]
    split
    · rfl
    · exact hs.1 m

theorem written_putAct (a : Actuator) (r : ActRec) (s : State) : Written [.motion] s (putAct a r s) := by
  cases a <;> exact written_setMotion s _

/-! ## The lights -/

/-- Lights asked for or released. -/
def lightAsks : List Effect :=
  [.asks 0, .asks 1, .asks 2, .asks 3, .asks 4, .asks 5, .asks 6, .asks 7]

/-- The light controller written, and lights asked for or released. -/
def lightEffects : List Effect := .writes .light :: lightAsks

theorem asks_lightLoad_mem (n : Fin 8) : Effect.asks (lightLoad n) ∈ lightAsks := by
  revert n; decide

theorem acts_evalChannel (s : State) (n : Fin 8) : Acts lightEffects s (evalChannel s n) := by
  by_cases h : s.params.channels[n].hosted = true
  · have hwrite : Acts lightEffects s (putChannel n (channelEvaluated s n) s) :=
      (written_putChannel n (channelEvaluated s n) s).acts.mono (by decide)
    have hmem : Effect.asks (lightLoad n) ∈ lightEffects :=
      List.mem_cons_of_mem _ (asks_lightLoad_mem n)
    rw [evalChannel_eq h]
    split
    · exact .event hmem hwrite (.ask (lightLoad n) _ (lt_trans n.isLt (by decide)))
    · split
      · exact .event hmem hwrite (.release (lightLoad n) _)
      · exact hwrite
  · have hself : evalChannel s n = s := if_pos (by simp [h, -Fin.getElem_fin])
    rw [hself]
    exact .refl

theorem acts_evalChannels (s : State) : Acts lightEffects s (evalChannels s) :=
  .foldl _ acts_evalChannel _ s

theorem acts_handOwnStepOut (out : Bool) (s : State) : Acts (.writes .motion :: lightEffects) s (handOwnStepOut out s) :=
  (written_setOwnStepOut s out).acts.append (acts_evalChannels _)

theorem acts_handPeerStepOut (out : Bool) (s : State) : Acts (.writes .peers :: lightEffects) s (handPeerStepOut out s) :=
  (written_setPeerStepOut s out).acts.append (acts_evalChannels _)

theorem acts_switchEdgeAt (n : Fin 8) (rising : Bool) (s : State) :
    Acts lightEffects s (switchEdgeAt n rising s) := by
  unfold switchEdgeAt
  simp only
  split
  · exact (written_putChannel n { s.light.channels[n] with latch := !s.light.channels[n].latch } s).acts.append (acts_evalChannel _ n)
  · exact .refl

theorem acts_recallOne (sc : SceneParams) (s : State) (n : Fin 8) :
    Acts [.writes .light] s (recallOne sc s n) := by
  unfold recallOne
  simp only
  split
  · exact (written_putChannel n (recallChannel s.params.channels[n] sc n s.light.channels[n]) s
      (hfits := fun ⟨_, hduty, hceiling⟩ => channelFits_retarget hduty hceiling)).acts
  · exact .refl

theorem acts_recallScene (number : Byte) (s : State) : Acts lightEffects s (recallScene number s) := by
  unfold recallScene
  split
  · split
    · exact .refl
    · exact (Acts.foldl _ (acts_recallOne _) _ s).append (acts_evalChannels _)
  · exact .refl

theorem acts_fadeOne (s : State) (n : Fin 8) : Acts [.writes .light] s (fadeOne s n) := by
  unfold fadeOne
  simp only
  split
  · refine (written_putChannel n (fadeChannel s.params.channels[n] s.light.channels[n]) s ?_
      channelFits_fadeChannel).acts
    unfold fadeChannel
    simp only
    split <;> rfl
  · exact .refl

theorem acts_fadeAll (s : State) : Acts [.writes .light] s (fadeAll s) :=
  (written_setLight s _).acts.trans (.foldl _ acts_fadeOne _ _)

theorem acts_advancePwm (s : State) : Acts [.writes .light] s (advancePwm s) :=
  (written_setLight s _).acts.trans
    (.foldl _ (fun t n => (written_putChannel n _ t).acts) _ _)

theorem acts_clearChannel (s : State) (n : Fin 8) : Acts [.writes .light] s (clearChannel s n) := by
  unfold clearChannel
  split
  · exact (written_putChannel n _ s).acts
  · exact .refl

theorem acts_lightsEnterStorage (s : State) : Acts lightEffects s (lightsEnterStorage s) :=
  ((written_setLight s _).acts.trans (.foldl _ acts_clearChannel _ _)).append
    (acts_evalChannels _)

theorem acts_lightsExitStorage (s : State) : Acts lightEffects s (lightsExitStorage s) :=
  (written_setLight s _).acts.append (acts_evalChannels _)

theorem acts_decideLightSet (channel code level : Byte) (s : State) :
    Acts lightEffects s (decideLightSet channel code level s).1 := by
  unfold decideLightSet
  split
  · split
    · exact .refl
    · simp only
      split
      · exact .refl
      · split
        · exact .refl
        · exact (written_putChannel _ _ s
            (hfits := fun ⟨_, hduty, hceiling⟩ => channelFits_retarget hduty hceiling)).acts.append (acts_evalChannel _ _)
  · exact .refl

/-! ## The zones -/

/-- The zone controller written, and zone heaters asked for or released. -/
def zoneEffects : List Effect := [.writes .zone, .asks 8, .asks 9, .asks 10, .asks 11]

theorem asks_zoneLoad_mem (n : Fin 4) : Effect.asks (zoneLoad n) ∈ zoneEffects := by
  revert n; decide

theorem acts_demandHeat (n : Fin 4) (s : State) : Acts zoneEffects s (demandHeat n s) := by
  have hlt : (zoneLoad n).val < 15 := by have := n.isLt; simp only [zoneLoad]; omega
  unfold demandHeat
  simp only
  split
  · exact .event (asks_zoneLoad_mem n) .refl (.ask _ s hlt)
  · split
    · exact .event (asks_zoneLoad_mem n) .refl (.release _ s)
    · exact .refl

theorem acts_faultZone (n : Fin 4) (s : State) :
    Acts (.raises .zoneSensorFault :: zoneEffects) s (faultZone n s) := by
  have h : Acts zoneEffects s
      (demandHeat n (putZone n { s.zone.zones[n] with duty := 0, faulted := true } s)) :=
    (written_putZone n _ s).acts.append (acts_demandHeat n _)
  unfold faultZone
  simp only
  split
  · exact h.mono (by decide)
  · exact h.append (acts_raiseEvent _ _)

theorem controlZone_load (p : ZoneParams) (t : Int) (z : Zone) : (controlZone p t z).load = z.load := by
  unfold controlZone
  split <;> rfl

theorem acts_heatZone (n : Fin 4) (t : Int) (s : State) : Acts zoneEffects s (heatZone n t s) := by
  have hwrite := (written_putZone n (controlZone s.params.zones[n] t
    { s.zone.zones[n] with temp := some t, faulted := false }) s (controlZone_load _ _ _)).acts
  exact hwrite.append (acts_demandHeat n _)

theorem acts_evalZone (readings : Vector Adc 4) (s : State) (n : Fin 4) :
    Acts (.raises .zoneSensorFault :: zoneEffects) s (evalZone readings s n) := by
  unfold evalZone
  split
  · split
    · exact acts_faultZone n s
    · exact (acts_heatZone n _ s).mono (by decide)
  · exact .refl

theorem acts_formClimate (s : State) : Acts [.sends, .writes .freeCount] s (formClimate s) := by
  unfold formClimate
  split
  · exact (acts_sendTelegram _ _ s).append (written_drawFree 4 _).acts
  · exact .refl

theorem acts_evalZones (readings : Vector Adc 4) (s : State) :
    Acts (zoneEffects ++ [.raises .zoneSensorFault, .sends, .writes .freeCount]) s
      (evalZones readings s) := by
  have heval : Acts (.raises .zoneSensorFault :: zoneEffects) s ((List.finRange 4).foldl (evalZone readings)
      (s.setZone { s.zone with periodTimer := 0 })) :=
    (written_setZone s { s.zone with periodTimer := 0 }).acts.append
      (.foldl _ (acts_evalZone readings) _ _)
  exact heval.append (acts_formClimate _)

theorem acts_stepWindow (s : State) : Acts [.writes .zone] s (stepWindow s) := by
  refine (written_setZone s { s.zone with
    window := s.zone.window + 1#8, windowTimer := 0
    zones := Vector.ofFn fun n => driveHeater (s.zone.window + 1#8) s.zone.zones[n] }
    (h := fun n => ?_) (houtputs := fun h => ⟨fun n => ?_, h.2⟩)).acts
  · simp [driveHeater]
  · simp [driveHeater, admittedDuty]

theorem acts_zoneOff (n : Fin 4) (s : State) : Acts zoneEffects s (zoneOff n s) :=
  (written_putZone n _ s).acts.append (acts_demandHeat n _)

theorem acts_takeMode (n : Fin 4) (mode : ZoneMode) (sp : Int) (s : State) :
    Acts zoneEffects s (takeMode n mode sp s) := by
  have h : Acts [.writes .zone] s (putZone n { s.zone.zones[n] with mode := mode, setpoint := sp } s) :=
    (written_putZone n _ s).acts
  unfold takeMode
  simp only
  split
  · exact h.append (acts_zoneOff n _)
  · exact h.mono (by decide)

theorem acts_takeSavedMode (n : Fin 4) (mode : ZoneMode) (sp : Int) (s : State) :
    Acts [.writes .zone] s (takeSavedMode n mode sp s) := (written_putZone n _ s).acts

theorem acts_decideZoneSet (zone mode : Byte) (setpoint : Word) (s : State) :
    Acts zoneEffects s (decideZoneSet zone mode setpoint s).1 := by
  unfold decideZoneSet
  split
  · split
    · exact .refl
    · simp only
      split
      · exact .refl
      · split
        · exact (acts_takeSavedMode _ _ _ s).mono (by decide)
        · exact acts_takeMode _ _ _ s
  · exact .refl

theorem acts_zoneEntersStorage (s : State) (n : Fin 4) :
    Acts [.writes .zone] s (zoneEntersStorage s n) := by
  unfold zoneEntersStorage
  simp only
  split
  · exact (written_putZone n _ s).acts
  · exact .refl

theorem acts_zonesEnterStorage (s : State) : Acts [.writes .zone] s (zonesEnterStorage s) :=
  .foldl _ acts_zoneEntersStorage _ s

theorem acts_zoneLeavesStorage (s : State) (n : Fin 4) :
    Acts zoneEffects s (zoneLeavesStorage s n) := by
  unfold zoneLeavesStorage
  simp only
  split
  · have h : Acts [.writes .zone] s (putZone n { s.zone.zones[n] with
        mode := s.zone.zones[n].saved.getD s.zone.zones[n].mode, saved := none } s) :=
      (written_putZone n _ s).acts
    split
    · exact h.append (acts_zoneOff n _)
    · exact h.mono (by decide)
  · exact .refl

theorem acts_zonesExitStorage (s : State) : Acts zoneEffects s (zonesExitStorage s) :=
  .foldl _ acts_zoneLeavesStorage _ s

/-! ## The water controller -/

theorem acts_evalPump (s : State) : Acts [.asks 13] s (evalPump s) := by
  have hask : Acts [.asks 13] s (ask pumpLoad s) := LoadEvent.acts (.ask 13 s (by decide))
  have hrelease : Acts [.asks 13] s (release pumpLoad s) := LoadEvent.acts (.release 13 s)
  unfold evalPump
  simp only
  split
  · exact .refl
  · split
    · split
      · exact .refl
      · exact hrelease
    · split
      · exact hask
      · exact .refl

theorem written_putPump (p : Pump) (s : State) (h : p.load = s.water.pump.load := by rfl) :
    Written [.water] s (putPump p s) := written_setWater s _ rfl h

/-- The water controller written, and the pump asked for or released. -/
def pumpEffects : List Effect := [.writes .water, .asks 13]

theorem acts_pressureEdge (closing : Bool) (s : State) : Acts pumpEffects s (pressureEdge closing s) := by
  unfold pressureEdge
  split
  · exact (written_putPump { s.water.pump with demand := closing } s).acts.append (acts_evalPump _)
  · exact .refl

theorem acts_pumpRunsDry (s : State) : Acts (.raises .pumpDry :: pumpEffects) s (pumpRunsDry s) :=
  ((written_putPump { s.water.pump with dryLock := true } s).acts.append (acts_raiseEvent _ _) :
    Acts [.raises .pumpDry, .writes .water] s _).append (acts_evalPump _)

theorem acts_setPump (enable : Bool) (s : State) : Acts pumpEffects s (setPump enable s) := by
  refine (written_putPump _ s ?_).acts.append (acts_evalPump _)
  split <;> rfl

theorem acts_decidePumpSet (value : Byte) (s : State) : Acts pumpEffects s (decidePumpSet value s).1 := by
  unfold decidePumpSet
  split
  · exact .refl
  · split
    · exact .refl
    · split
      · exact .refl
      · exact acts_setPump _ s

theorem acts_readFresh (reading : Adc) (s : State) :
    Acts [.writes .water, .raises .tankEmpty] s (readFresh reading s) := by
  unfold readFresh
  simp only
  split
  · split
    · exact (written_setWater s _).acts.append (acts_raiseEvent _ _)
    · exact (written_setWater s _).acts.mono (by decide)
  · exact .refl

theorem acts_readGrey (reading : Adc) (s : State) :
    Acts [.writes .water, .raises .tankFull] s (readGrey reading s) := by
  unfold readGrey
  simp only
  split
  · split
    · exact (written_setWater s _).acts.append (acts_raiseEvent _ _)
    · exact (written_setWater s _).acts.mono (by decide)
  · exact .refl

theorem acts_readBlack (reading : Adc) (s : State) :
    Acts [.writes .water, .raises .tankFull] s (readBlack reading s) := by
  unfold readBlack
  simp only
  split
  · split
    · exact (written_setWater s _).acts.append (acts_raiseEvent _ _)
    · exact (written_setWater s _).acts.mono (by decide)
  · exact .refl

/-- The tanks after a period, before the pump and the frost record follow (R89). -/
def tanksRead (fresh grey black : Adc) (s : State) : State :=
  readBlack black (readGrey grey (readFresh fresh (s.setWater { s.water with periodTimer := 0 })))

theorem acts_tanksRead (fresh grey black : Adc) (s : State) :
    Acts [.writes .water, .raises .tankEmpty, .raises .tankFull] s (tanksRead fresh grey black s) :=
  (((written_setWater s { s.water with periodTimer := 0 }).acts.append (acts_readFresh fresh _) :
    Acts [.writes .water, .raises .tankEmpty] s _).append
      ((acts_readGrey grey _).trans (acts_readBlack black _)))

theorem acts_demandHeater (s : State) : Acts [.asks 12] s (demandHeater s) := by
  unfold demandHeater
  simp only
  split
  · exact LoadEvent.acts (.ask 12 s (by decide))
  · split
    · exact LoadEvent.acts (.release 12 s)
    · exact .refl

theorem acts_checkDwell (s : State) : Acts [.writes .water] s (checkDwell s) :=
  (written_setWater s _).acts

theorem acts_readFrost (reading : Adc) (s : State) :
    Acts [.writes .water, .asks 12] s (readFrost reading s) := by
  unfold readFrost
  split
  · exact ((written_setWater s _).acts.append (acts_demandHeater _) :
      Acts [.writes .water, .asks 12] s _).append (acts_checkDwell _)
  · exact .refl

/-- The acts of a tank period. -/
def tankEffects : List Effect :=
  [.writes .water, .raises .tankEmpty, .raises .tankFull, .asks 12, .asks 13]

theorem tankPeriodOf_eq (fresh grey black temp : Adc) (s : State) :
    tankPeriodOf fresh grey black temp s = readFrost temp
      (if tankStateChanged s.water (tanksRead fresh grey black s).water then
        evalPump (tanksRead fresh grey black s) else tanksRead fresh grey black s) := rfl

theorem acts_tankPeriodOf (fresh grey black temp : Adc) (s : State) :
    Acts tankEffects s (tankPeriodOf fresh grey black temp s) := by
  have htanks := acts_tanksRead fresh grey black s
  rw [tankPeriodOf_eq]
  split
  · exact (htanks.append (acts_evalPump _) : Acts tankEffects s _).append (acts_readFrost temp _)
  · exact htanks.append (acts_readFrost temp _)

theorem acts_openValve (s : State) :
    Acts [.asks 14, .writes .water, .raises .frostDump, .asks 13] s (openValve s) := by
  have hask : Acts [.asks 14] s (ask valveLoad s) := LoadEvent.acts (.ask 14 s (by decide))
  have hopen : Acts [.asks 14, .writes .water] s ((ask valveLoad s).setWater { (ask valveLoad s).water with
      frost := { (ask valveLoad s).water.frost with valveOpen := true, dwell := none } }) :=
    hask.append (written_setWater _ _).acts
  have hraise := hopen.append (acts_raiseEvent .frostDump _)
    (N := [.asks 14, .writes .water, .raises .frostDump])
  exact (hraise.append (written_setWater _ _).acts
    (N := [.asks 14, .writes .water, .raises .frostDump])).append (acts_evalPump _)

theorem acts_closeValve (s : State) : Acts [.writes .water, .asks 14, .asks 13] s (closeValve s) := by
  have hrelease (t : State) : Acts [.asks 14] t (release valveLoad t) := LoadEvent.acts (.release 14 t)
  exact (((written_setWater s _).acts.append (hrelease _) :
    Acts [.writes .water, .asks 14] s _).append (acts_checkDwell _) :
    Acts [.writes .water, .asks 14] s _).append (acts_evalPump _)

theorem acts_decideValveClose (s : State) :
    Acts [.writes .water, .asks 14, .asks 13] s (decideValveClose s).1 := by
  unfold decideValveClose
  split
  · exact .refl
  · split
    · exact .refl
    · split
      · exact acts_closeValve s
      · exact .refl

theorem acts_handGreyFull (full : Bool) (s : State) : Acts (.writes .peers :: pumpEffects) s (handGreyFull full s) :=
  (written_setWaterFact s s.water.moving full).acts.append (acts_evalPump _)

theorem acts_handMoving (moving : Bool) (s : State) : Acts [.writes .water, .writes .peers] s (handMoving moving s) :=
  (written_setWaterFact s moving s.water.peerGreyFull).acts

/-- The TANKS telegram handed over or made due. -/
def tanksEffects : List Effect := [.writes .water, .sends]

theorem acts_queueTanks (s : State) : Acts tanksEffects s (queueTanks s) := by
  unfold queueTanks
  split
  · exact (written_setWater s { s.water with tanksTimer := 0, tanksDue := false }).acts.append
      (acts_sendTelegram _ _ _)
  · exact .refl

theorem acts_tanksAfter (before s : State) : Acts tanksEffects s (tanksAfter before s) := by
  unfold tanksAfter
  split
  · exact .refl
  · split
    · exact acts_queueTanks s
    · exact (written_setWater s { s.water with tanksDue := true }).acts.mono (by decide)

/-! ## The motion controller -/

/-- The motion controller written, and motors asked for or released. -/
def motorEffects : List Effect := [.writes .motion, .asks 15, .asks 16]

theorem asks_motorLoad_mem (a : Actuator) : Effect.asks (motorLoad a) ∈ motorEffects := by
  cases a <;> decide

theorem acts_putAct (a : Actuator) (r : ActRec) (s : State) : Acts motorEffects s (putAct a r s) :=
  (written_putAct a r s).acts.mono (by decide)

theorem acts_releaseMotor (a : Actuator) (s : State) : Acts motorEffects s (release (motorLoad a) s) :=
  .event (asks_motorLoad_mem a) .refl (.release _ s)

theorem acts_askRetraction (a : Actuator) (s : State) :
    Acts motorEffects s (askRetraction (motorLoad a) s) :=
  .event (asks_motorLoad_mem a) .refl (.askRetraction a s)

theorem acts_askExtension (a : Actuator) (s : State) :
    Acts motorEffects s (askExtension (motorLoad a) s) :=
  .event (asks_motorLoad_mem a) .refl (.askExtension a s)

theorem acts_endTravel (a : Actuator) (st : ActState) (s : State) :
    Acts motorEffects s (endTravel a st s) := (acts_putAct a _ s).trans (acts_releaseMotor a _)

theorem acts_takeEnd (a : Actuator) (e : StopEnd) (s : State) : Acts motorEffects s (takeEnd a e s) :=
  acts_putAct a _ s

theorem acts_endAtStop (a : Actuator) (e : StopEnd) (s : State) :
    Acts motorEffects s (endAtStop a e s) := (acts_putAct a _ s).trans (acts_endTravel a _ _)

theorem acts_startDrive (a : Actuator) (e : StopEnd) (s : State) :
    Acts motorEffects s (startDrive a e s) := acts_putAct a _ s

theorem acts_startInward (a : Actuator) (s : State) : Acts motorEffects s (startInward a s) := by
  unfold startInward
  split
  · exact acts_takeEnd a _ s
  · exact (acts_askRetraction a s).trans (acts_startDrive a _ _)

theorem acts_startOutward (a : Actuator) (s : State) : Acts motorEffects s (startOutward a s) := by
  unfold startOutward
  simp only
  split
  · exact acts_takeEnd a _ s
  · split
    · exact (acts_askExtension a s).trans (acts_startDrive a _ _)
    · exact acts_askExtension a s

theorem acts_reverseInward (a : Actuator) (s : State) : Acts motorEffects s (reverseInward a s) :=
  ((acts_releaseMotor a s).trans (acts_askRetraction a _)).trans (acts_putAct a _ _)

theorem acts_reverseOutward (a : Actuator) (s : State) : Acts motorEffects s (reverseOutward a s) := by
  have h := (acts_releaseMotor a s).trans (acts_askExtension a _)
  unfold reverseOutward
  simp only
  split
  · exact h.trans (acts_putAct a _ _)
  · exact h.trans (acts_askRetraction a _)

theorem acts_endPause (a : Actuator) (s : State) : Acts motorEffects s (endPause a s) := by
  unfold endPause
  simp only
  split
  · exact acts_endAtStop a _ s
  · exact acts_startDrive a _ s

theorem acts_countFault (s : State) : Acts [.writes .motion] s (countFault s) := (written_setMotion s _).acts

/-- A motor stopped, driven or faulted, with the two events of a fault. -/
def faultEffects : List Effect := .raises .stowFailed :: .raises .actuatorFault :: motorEffects

theorem acts_enterFault (a : Actuator) (f : ActFault) (s : State) :
    Acts faultEffects s (enterFault a f s) := by
  unfold enterFault
  simp only
  have hstow : Acts faultEffects s (if isMoving (act s.motion a).state && (act s.motion a).cause.isSome
      then raiseEvent .stowFailed s else s) := by
    split
    · exact (acts_raiseEvent _ s).mono (by decide)
    · exact .refl
  have hend (t : State) : Acts faultEffects t (if isMoving (act s.motion a).state then
      endTravel a .fault t else t) := by
    split
    · exact (acts_endTravel a _ t).mono (by decide)
    · exact .refl
  exact (((hstow.trans (hend _)).append (acts_putAct a _ _) : Acts faultEffects s _).append
    (acts_raiseEvent .actuatorFault _) : Acts faultEffects s _).append (acts_countFault _)

/-- A still actuator enters FAULT without a travel to end (R124). -/
theorem enterFault_of_still {a : Actuator} {f : ActFault} {s : State}
    (h : isMoving (act s.motion a).state = false) :
    enterFault a f s = countFault (raiseEvent .actuatorFault (putAct a { act s.motion a with
      state := .fault, faults := addFault (act s.motion a).faults f } s)) := by
  simp [enterFault, h]

theorem acts_enterFault_of_still {a : Actuator} {f : ActFault} {s : State}
    (h : isMoving (act s.motion a).state = false) :
    Acts [.writes .motion, .raises .actuatorFault] s (enterFault a f s) := by
  rw [enterFault_of_still h]
  exact ((written_putAct a _ s).acts.append (acts_raiseEvent _ _) :
    Acts [.writes .motion, .raises .actuatorFault] s _).append (acts_countFault _)

theorem acts_recordCause (a : Actuator) (c : Cause) (s : State) :
    Acts motorEffects s (recordCause a c s) := acts_putAct a _ s

/-- An auto-retraction of an actuator that is not in FAULT raises nothing (R131). -/
theorem acts_autoRetract_of_not_fault {a : Actuator} {c : Cause} {s : State}
    (h : (act s.motion a).state ≠ .fault) : Acts motorEffects s (autoRetract a c s) := by
  have hstill : Acts motorEffects s (if (act (startInward a s).motion a).state = .retracting then
      recordCause a c (startInward a s) else startInward a s) := by
    split
    · exact (acts_startInward a s).trans (acts_recordCause a c _)
    · exact acts_startInward a s
  unfold autoRetract
  simp only
  split
  · exact .refl
  · exact hstill
  · exact hstill
  · exact (acts_reverseInward a s).trans (acts_recordCause a c _)
  · split
    · exact .refl
    · exact acts_recordCause a c s
  · exact absurd ‹_› h

theorem autoRetract_of_fault {a : Actuator} {c : Cause} {s : State}
    (h : (act s.motion a).state = .fault) : autoRetract a c s = raiseEvent .stowFailed s := by
  simp [autoRetract, h]

/-- The motors brought in, with STOW-FAILED for one in FAULT. -/
def stowEffects : List Effect := .raises .stowFailed :: motorEffects

theorem acts_autoRetract (a : Actuator) (c : Cause) (s : State) :
    Acts stowEffects s (autoRetract a c s) := by
  by_cases h : (act s.motion a).state = .fault
  · rw [autoRetract_of_fault h]
    exact (acts_raiseEvent _ s).mono (by decide)
  · exact (acts_autoRetract_of_not_fault h).mono (by decide)

theorem acts_setStop (a : Actuator) (e : StopEnd) (active : Bool) (s : State) :
    Acts motorEffects s (setStop a e active s) := (written_setMotion s _).acts.mono (by decide)

theorem acts_arrive (a : Actuator) (e : StopEnd) (s : State) : Acts motorEffects s (arrive a e s) := by
  unfold arrive
  split
  · exact acts_endAtStop a _ s
  · exact acts_endAtStop a _ s
  · exact acts_takeEnd a _ s
  · exact acts_takeEnd a _ s
  · exact acts_takeEnd a _ s
  · exact acts_takeEnd a _ s
  · exact .refl

theorem acts_arrivalAt (a : Actuator) (e : StopEnd) (s : State) :
    Acts faultEffects s (arrivalAt a e s) := by
  have hstop := acts_setStop a e true s
  unfold arrivalAt
  simp only
  split
  · exact hstop.mono (by decide)
  · split
    · exact hstop.append (acts_enterFault a _ _)
    · exact (hstop.trans (acts_arrive a e _)).mono (by decide)

theorem act_putAct_self (a : Actuator) (r : ActRec) (s : State) : act (putAct a r s).motion a = r := by
  cases a <;> rfl

theorem acts_departureAt (a : Actuator) (e : StopEnd) (s : State) :
    Acts (.raises .interlockRetract :: motorEffects) s (departureAt a e s) := by
  have hmid : Acts motorEffects s (putAct a { act (setStop a e false s).motion a with state := .stoppedMid }
      (setStop a e false s)) := (acts_setStop a e false s).trans (acts_putAct a _ _)
  unfold departureAt
  simp only
  split
  · split
    · refine ((hmid.trans (acts_autoRetract_of_not_fault ?_)).append (acts_raiseEvent _ _))
      rw [act_putAct_self]
      nofun
    · exact hmid.mono (by decide)
  · exact (acts_setStop a e false s).mono (by decide)

theorem acts_hallEdgeAt (a : Actuator) (s : State) : Acts [.writes .motion] s (hallEdgeAt a s) := by
  unfold hallEdgeAt
  simp only
  split
  · exact .refl
  · exact (written_putAct a _ s).acts

theorem acts_currentCrossing (a : Actuator) (current : Nat) (s : State) :
    Acts [.writes .motion] s (currentCrossing a current s) := by
  unfold currentCrossing
  simp only
  split
  · exact .refl
  · exact (written_putAct a _ s).acts

theorem acts_overcurrentAt (a : Actuator) (s : State) : Acts faultEffects s (overcurrentAt a s) := by
  unfold overcurrentAt
  split
  · exact acts_enterFault a _ s
  · cases a with
    | step => exact ((acts_reverseInward .step s).trans (acts_recordCause .step .stow _)).mono (by decide)
    | awning => exact (acts_endTravel .awning _ s).mono (by decide)

/-- The acts of a vehicle state handed over. -/
def vehicleEffects : List Effect := .raises .interlockRetract :: stowEffects

theorem acts_interlockRise (s : State) : Acts vehicleEffects s (interlockRise s) := by
  have h : Acts stowEffects s ((hostedActs s.params).foldl (fun x a => autoRetract a .vehicle x) s) :=
    .foldl _ (fun t a => acts_autoRetract a .vehicle t) _ s
  unfold interlockRise
  simp only
  split
  · exact h.append (acts_raiseEvent _ _)
  · exact h.mono (by decide)

theorem acts_stopExtension (s : State) (a : Actuator) : Acts motorEffects s (stopExtension s a) := by
  unfold stopExtension
  split
  · exact acts_endTravel a _ s
  · exact .refl

theorem acts_interlockHolds (s : State) : Acts motorEffects s (interlockHolds s) :=
  .foldl _ acts_stopExtension _ s

theorem acts_handVehicle (v : VehicleState) (s : State) : Acts (.writes .peers :: vehicleEffects) s (handVehicle v s) := by
  have h : Acts [.writes .motion, .writes .peers] s (s.setMotion { s.motion with vehicle := v }) :=
    (written_setVehicle s v).acts
  unfold handVehicle
  simp only
  split
  · exact h.append (acts_interlockRise _)
  · split
    · exact h.append (acts_interlockHolds _)
    · exact h.mono (by decide)

theorem acts_stowOne (override : Bool) (s : State) (a : Actuator) :
    Acts stowEffects s (stowOne override s a) := by
  unfold stowOne
  simp only
  split
  · exact .refl
  · split
    · exact (acts_autoRetract a .stow s).append (acts_putAct a _ _)
    · exact acts_autoRetract a .stow s

theorem acts_takeStow (override : Bool) (s : State) : Acts stowEffects s (takeStow override s) :=
  .foldl _ (acts_stowOne override) _ s

theorem acts_motionEntersStorage (s : State) : Acts stowEffects s (motionEntersStorage s) :=
  (written_setMotion s _).acts.append (acts_takeStow false _)

theorem acts_motionExitsStorage (s : State) : Acts [.writes .motion] s (motionExitsStorage s) :=
  (written_setMotion s _).acts

theorem acts_takeGust (s : State) : Acts (.raises .windRetract :: motorEffects) s (takeGust s) := by
  have h (hst : (act s.motion .awning).state ≠ .fault) : Acts (.raises .windRetract :: motorEffects) s
      (raiseEvent .windRetract (autoRetract .awning .wind s)) :=
    (acts_autoRetract_of_not_fault hst).append (acts_raiseEvent _ _)
  unfold takeGust
  split
  · next hst => exact h (hst.trans_ne (by decide))
  · next hst => exact h (hst.trans_ne (by decide))
  · next hst => exact h (hst.trans_ne (by decide))
  · exact .refl

theorem acts_putWind (w : WindMeter) (s : State) : Acts [.writes .motion] s (putWind w s) :=
  (written_setMotion s _).acts

theorem acts_windEdge (s : State) : Acts (.raises .windRetract :: motorEffects) s (windEdge s) := by
  unfold windEdge
  simp only
  split
  · exact (acts_putWind _ s).mono (by decide)
  · split
    · exact (acts_putWind _ s).mono (by decide)
    · exact (acts_putWind _ s).append (acts_takeGust _)

theorem acts_moveExtend (a : Actuator) (s : State) : Acts motorEffects s (moveExtend a s).1 := by
  unfold moveExtend
  simp only
  split
  · exact .refl
  split
  · exact .refl
  split
  · exact .refl
  split
  · exact .refl
  split
  · exact .refl
  split
  · exact acts_reverseOutward a s
  · exact acts_startOutward a s

theorem acts_moveRetract (a : Actuator) (s : State) : Acts motorEffects s (moveRetract a s).1 := by
  unfold moveRetract
  simp only
  split
  · exact .refl
  split
  · exact .refl
  split
  · exact .refl
  split
  · exact acts_reverseInward a s
  · exact acts_startInward a s

theorem acts_decideMove (actuator direction : Byte) (s : State) :
    Acts motorEffects s (decideMove actuator direction s).1 := by
  unfold decideMove
  split
  · split
    · exact .refl
    · split
      · exact acts_moveExtend _ s
      · exact acts_moveRetract _ s
  · exact .refl

theorem acts_decideHalt (actuator : Byte) (s : State) : Acts motorEffects s (decideHalt actuator s).1 := by
  unfold decideHalt
  split
  · exact .refl
  · split
    · exact .refl
    · split
      · exact acts_endTravel _ _ s
      · exact .refl

theorem acts_setHold (a : Actuator) (set : Bool) (s : State) : Acts motorEffects s (setHold a set s) := by
  unfold setHold
  simp only
  split
  · split
    · exact (acts_putAct a _ s).trans (acts_endTravel a _ _)
    · exact acts_putAct a _ s
  · exact acts_putAct a _ s

theorem acts_decideHoldSet (actuator value : Byte) (s : State) :
    Acts motorEffects s (decideHoldSet actuator value s).1 := by
  unfold decideHoldSet
  split
  · split
    · exact .refl
    · exact acts_setHold _ _ s
  · exact .refl

/-- The acts of FAULT-CLEAR. -/
def clearFaultEffects : List Effect := .raises .actuatorFault :: motorEffects

theorem acts_clearFault {a : Actuator} {s : State} (h : (act s.motion a).state = .fault) :
    Acts clearFaultEffects s (clearFault a s).1 := by
  have hclear : Acts motorEffects s (putAct a { act s.motion a with faults := FaultSet.empty } s) :=
    acts_putAct a _ s
  unfold clearFault
  simp only
  split
  · refine hclear.append (acts_enterFault_of_still ?_)
    rw [act_putAct_self]
    simp [h, isMoving]
  · split
    · exact (hclear.trans (acts_takeEnd a _ _)).mono (by decide)
    · split
      · exact (hclear.trans (acts_takeEnd a _ _)).mono (by decide)
      · exact (hclear.trans (acts_putAct a _ _)).mono (by decide)

theorem acts_decideFaultClear (actuator : Byte) (s : State) :
    Acts clearFaultEffects s (decideFaultClear actuator s).1 := by
  unfold decideFaultClear
  split
  · exact .refl
  · split
    · exact .refl
    · split
      · exact acts_clearFault ‹_›
      · exact .refl

/-- The acts of a MOTION handed over. -/
def motionTelegramEffects : List Effect := [.writes .motion, .sends, .writes .freeCount]

theorem acts_queueMotion (s : State) : Acts motionTelegramEffects s (queueMotion s) := by
  unfold queueMotion
  split
  · exact ((written_setMotion s { s.motion with motionTimer := 0 }).acts.append
      (acts_sendTelegram .motion (motionPayload s) _) :
        Acts [.writes .motion, .sends] s _).append (written_drawFree 2 _).acts
  · exact .refl

theorem acts_motionAfter (before s : State) : Acts motionTelegramEffects s (motionAfter before s) := by
  unfold motionAfter
  split
  · exact acts_queueMotion s
  · exact .refl

/-! ## The end of a command and the requests -/

theorem acts_stepOutAfter (before s : State) : Acts (.writes .motion :: lightEffects) s (stepOutAfter before s) := by
  unfold stepOutAfter
  split
  · exact .refl
  · exact acts_handOwnStepOut _ s

/-- The acts of the end of a command. -/
def publishEffects : List Effect := lightEffects ++ motionTelegramEffects ++ tanksEffects

theorem acts_publish (before s : State) : Acts publishEffects s (publish before s) :=
  ((acts_stepOutAfter before s).append (acts_motionAfter before _) :
    Acts publishEffects s _).append (acts_tanksAfter before _)

/-- Behind acts that leave the motion controller alone only TANKS can follow. -/
theorem Acts.publish_tanks {L : List Effect} {s t : State} (h : Acts L s t)
    (hL : ∀ e ∈ L, Block.motion ∉ e.touched := by decide) :
    Acts tanksEffects t (publish s t) := by
  rw [publish_eq_tanksAfter h.params (h.blockSame hL)]
  exact acts_tanksAfter s t

theorem trackedWater_congr {s t : State} (hp : t.params = s.params) (hw : t.water = s.water)
    (hb : t.boot.storage = s.boot.storage) : trackedWater t = trackedWater s := by
  unfold trackedWater pumpCode heaterCode valveCode otherPumpBlock anyGreyFull
  rw [hp, hw, hb]

/-- Behind acts that leave the motion controller, the water controller and the storage flag alone nothing
follows. -/
theorem Acts.publish_eq {L : List Effect} {s t : State} (h : Acts L s t)
    (hmotion : ∀ e ∈ L, Block.motion ∉ e.touched := by decide)
    (hwater : ∀ e ∈ L, Block.water ∉ e.touched := by decide)
    (hboot : ∀ e ∈ L, Block.boot ∉ e.touched := by decide) : publish s t = t := by
  have hm : t.motion = s.motion := h.blockSame hmotion
  have hw : t.water = s.water := h.blockSame hwater
  have hb : t.boot = s.boot := h.blockSame hboot
  have htracked : trackedWater t = trackedWater s := trackedWater_congr h.params hw (congrArg Boot.storage hb)
  rw [publish_eq_tanksAfter h.params hm]
  exact if_pos (Or.inl htracked)

theorem acts_bankFormBattery (p : BankParams) (s : State) :
    Acts [.writes .bank, .sends] s (formBattery p s) := by
  have h : Acts [.writes .bank] s (s.setBank { s.bank with batteryTimer := 0 }) := (written_setBank s _).acts
  unfold formBattery
  simp only
  split
  · exact h.mono (by decide)
  · exact h.append (acts_sendTelegram _ _ _)

/-- The acts of a bank sample. -/
def sampleEffects : List Effect := [.writes .bank, .raises .bankResync, .ownBank]

theorem acts_finishSample (p : BankParams) (s : State) : Acts sampleEffects s (finishSample p s) := by
  have hrest : Acts [.writes .bank, .raises .bankResync] s (if resyncs p s.bank then
      raiseEvent .bankResync (s.setBank (evalRest p s.bank)) else s.setBank (evalRest p s.bank)) := by
    split
    · exact (written_setBank s _).acts.append (acts_raiseEvent _ _)
    · exact (written_setBank s _).acts.mono (by decide)
  exact .event (by decide) (hrest.mono (by decide)) (.ownBank _ _)

theorem acts_sampleBank (p : BankParams) (i : Int) (v : Nat) (s : State) :
    Acts sampleEffects s (sampleBank p i v s) :=
  (written_setBank s _).acts.append (acts_finishSample p _)

theorem acts_evalDerate (p : BankParams) (reading : Adc) (s : State) :
    Acts [.writes .bank, .ownBank] s (evalDerate p reading s) := by
  unfold evalDerate
  simp only
  split
  · exact (written_setBank s _).acts.mono (by decide)
  · exact (written_setBank s _).acts.append (LoadEvent.acts (.ownBank _ _))

/-! ## The peer table -/

theorem acts_handQuantityFacts (s : State) : Acts [.quantities] s (handQuantityFacts s) :=
  LoadEvent.acts (.quantities _ _ _ _ s)

/-- The acts of the condition facts handed on. -/
def conditionEffects : List Effect :=
  .writes .peers :: pumpEffects ++ vehicleEffects ++ lightEffects

theorem acts_handVehicleFact (s : State) : Acts conditionEffects s (handVehicleFact s) := by
  unfold handVehicleFact
  simp only
  split
  · exact .refl
  · have h : Acts conditionEffects s (handVehicle (vehicleState s.peers.entries)
        (s.setPeers { s.peers with lastVehicle := vehicleState s.peers.entries })) :=
      (written_setPeers s _).acts.append (acts_handVehicle _ _)
    split
    · exact h
    · exact h.append (acts_handMoving _ _)

theorem acts_handStepFact (s : State) : Acts conditionEffects s (handStepFact s) := by
  unfold handStepFact
  simp only
  split
  · exact .refl
  · exact (written_setPeers s _).acts.append (acts_handPeerStepOut _ _)

theorem acts_handGreyFact (s : State) : Acts conditionEffects s (handGreyFact s) := by
  unfold handGreyFact
  simp only
  split
  · exact .refl
  · exact (written_setPeers s _).acts.append (acts_handGreyFull _ _)

theorem acts_handConditions (s : State) : Acts conditionEffects s (handConditions s) :=
  ((acts_handVehicleFact s).trans (acts_handStepFact _)).trans (acts_handGreyFact _)

/-- The acts of the peer table. -/
def peerEffects : List Effect := .raises .peerLost :: .quantities :: conditionEffects

theorem acts_handAfterArrival (k : Option Kind) (s : State) :
    Acts (.quantities :: conditionEffects) s (handAfterArrival k s) := by
  unfold handAfterArrival
  split
  · split
    · exact (acts_handQuantityFacts s).append (acts_handConditions _)
    · exact (acts_handConditions s).mono (by decide)
  · exact .refl

theorem acts_countLost (s : State) : Acts [.writes .peers] s (countLost s) := (written_setPeers s _).acts

theorem acts_removePeer (e : PeerEntry) (s : State) : Acts peerEffects s (removePeer e s) := by
  have hdrop : Acts [.writes .peers] s
      (s.setPeers { s.peers with entries := dropPeer e.station s.peers.entries }) :=
    (written_setPeers s _).acts
  have hfacts (t : State) : Acts (.quantities :: conditionEffects) t
      (handConditions (handQuantityFacts t)) :=
    (acts_handQuantityFacts t).append (acts_handConditions _)
  unfold removePeer
  simp only
  split
  · exact ((hdrop.append (acts_raiseEvent .peerLost _) : Acts peerEffects s _).append
      (acts_countLost _) : Acts peerEffects s _).append (hfacts _)
  · exact hdrop.append (hfacts _)

theorem acts_makeRoom (s : State) : Acts peerEffects s (makeRoom s) := by
  unfold makeRoom
  split
  · exact .refl
  · split
    · exact acts_removePeer _ s
    · exact .refl

theorem acts_withPeer (n : Station) (s : State) : Acts peerEffects s (withPeer n s) := by
  unfold withPeer
  split
  · exact .refl
  · simp only
    split
    · exact (acts_makeRoom s).append (written_setPeers _ _).acts
    · exact acts_makeRoom s

theorem acts_peerArrival (n : Station) (k : Option Kind) (b : List Byte) (s : State) :
    Acts peerEffects s (peerArrival n k b s) := by
  have h := acts_withPeer n s
  unfold peerArrival
  simp only
  split
  · exact h
  · exact (h.append (written_setPeers _ _).acts : Acts peerEffects s _).append
      (acts_handAfterArrival k _)

theorem acts_expirePeer (n : Station) (s : State) : Acts peerEffects s (expirePeer n s) := by
  unfold expirePeer
  split
  · exact .refl
  · split
    · exact acts_removePeer _ s
    · exact .refl

/-! ## Storage mode -/

/-- The acts of storage mode entered or left. -/
def storageEffects : List Effect :=
  .writes .boot :: .asks 13 :: zoneEffects ++ stowEffects ++ lightEffects

theorem acts_enterStorage (s : State) : Acts storageEffects s (enterStorage s) := by
  have hboot : Acts [.writes .boot] s (s.setBoot { s.boot with storage := true }) :=
    (written_setBoot s _).acts
  have hpump : Acts storageEffects s (evalPump (zonesEnterStorage
      (s.setBoot { s.boot with storage := true }))) :=
    (hboot.append (acts_zonesEnterStorage _) : Acts storageEffects s _).append (acts_evalPump _)
  exact (hpump.append (acts_motionEntersStorage _) : Acts storageEffects s _).append
    (acts_lightsEnterStorage _)

theorem acts_exitStorage (s : State) : Acts storageEffects s (exitStorage s) := by
  have hboot : Acts [.writes .boot] s (s.setBoot { s.boot with storage := false }) :=
    (written_setBoot s _).acts
  have hpump : Acts storageEffects s (evalPump (zonesExitStorage
      (s.setBoot { s.boot with storage := false }))) :=
    (hboot.append (acts_zonesExitStorage _) : Acts storageEffects s _).append (acts_evalPump _)
  exact (hpump.append (acts_motionExitsStorage _) : Acts storageEffects s _).append
    (acts_lightsExitStorage _)

theorem acts_decideStorageSet (value : Byte) (s : State) :
    Acts storageEffects s (decideStorageSet value s).1 := by
  unfold decideStorageSet
  split
  · exact .refl
  · simp only
    split
    · exact .refl
    · split
      · exact acts_enterStorage s
      · exact acts_exitStorage s

/-! ## Requests -/

/-- The end of a request: what `publish` may do, and the REPLY. -/
theorem acts_reply {L : List Effect} (before : State) (rq : Requester) (r : State × Answer)
    (h : Acts L before r.1) : Acts (L ++ publishEffects) before (reply before rq r) := by
  have hpublish := h.append (acts_publish before _) (N := L ++ publishEffects)
    (fun e he => List.mem_append_left _ he) (fun e he => List.mem_append_right _ he)
  exact .send _ _ (List.mem_append_right _ (by decide)) hpublish

/-- The same for a request that leaves the motion controller alone. -/
theorem acts_reply_tanks {L : List Effect} (before : State) (rq : Requester) (r : State × Answer)
    (h : Acts L before r.1) (hL : ∀ e ∈ L, Block.motion ∉ e.touched) :
    Acts (L ++ tanksEffects) before (reply before rq r) := by
  have hpublish := h.append (h.publish_tanks hL) (N := L ++ tanksEffects)
    (fun e he => List.mem_append_left _ he) (fun e he => List.mem_append_right _ he)
  exact .send _ _ (List.mem_append_right _ (by decide)) hpublish

theorem acts_takeRequest {L : List Effect} (rq : Requester) (decision : State → State × Answer) (s : State)
    (h : Acts L s (decision s).1) : Acts (L ++ publishEffects) s (takeRequest rq decision s) := by
  unfold takeRequest
  split
  · exact acts_reply s rq _ h
  · exact .refl

theorem acts_takeRequest_tanks {L : List Effect} (rq : Requester) (decision : State → State × Answer)
    (s : State) (h : Acts L s (decision s).1) (hL : ∀ e ∈ L, Block.motion ∉ e.touched := by decide) :
    Acts (L ++ tanksEffects) s (takeRequest rq decision s) := by
  unfold takeRequest
  split
  · exact acts_reply_tanks s rq _ h hL
  · exact .refl

theorem acts_decideEventsClear (set : Word) (s : State) :
    Acts [.writes .event] s (decideEventsClear set s).1 := (written_setEvent s _).acts

theorem acts_eventsClear (rq : Requester) (set : Word) (s : State) :
    Acts [.writes .event, .sends] s (takeRequest rq (decideEventsClear set) s) := by
  unfold takeRequest
  split
  · unfold reply
    rw [(acts_decideEventsClear set s).publish_eq]
    exact (acts_decideEventsClear set s).append (acts_sendTelegram _ _ _)
  · exact .refl

theorem acts_decideDiagQuery (page : Byte) (s : State) :
    Acts [.clearsCounters] s (decideDiagQuery page s).1 := by
  unfold decideDiagQuery
  split
  · exact .refl
  · exact .clear _ (List.mem_singleton_self _) .refl

theorem publish_decideDiagQuery (page : Byte) (s : State) :
    publish s (decideDiagQuery page s).1 = (decideDiagQuery page s).1 := by
  unfold decideDiagQuery
  split
  · exact publish_self s
  · exact publish_clearPage _ s

theorem acts_diagQuery (rq : Requester) (page : Byte) (s : State) :
    Acts [.clearsCounters, .sends] s (takeRequest rq (decideDiagQuery page) s) := by
  unfold takeRequest
  split
  · unfold reply
    rw [publish_decideDiagQuery]
    exact (acts_decideDiagQuery page s).append (acts_sendTelegram _ _ _)
  · exact .refl

/-- The acts of the decisions on requests, of whichever owner. -/
def requestEffects : List Effect :=
  [.writes .event, .clearsCounters, .writes .water, .asks 12, .asks 13, .asks 14, .raises .actuatorFault]
    ++ storageEffects

/-- The codes and arguments of the table (chapter 11, section 11.3), with the owner's decision for each. -/
inductive Decides : Nat → List Byte → (State → State × Answer) → Prop where
  | zoneSet (a b c d : Byte) : Decides 1 [a, b, c, d] (decideZoneSet a b (c ++ d))
  | lightSet (a b c : Byte) : Decides 2 [a, b, c] (decideLightSet a b c)
  | move (a b : Byte) : Decides 3 [a, b] (decideMove a b)
  | halt (a : Byte) : Decides 4 [a] (decideHalt a)
  | holdSet (a b : Byte) : Decides 5 [a, b] (decideHoldSet a b)
  | faultClear (a : Byte) : Decides 6 [a] (decideFaultClear a)
  | pumpSet (a : Byte) : Decides 7 [a] (decidePumpSet a)
  | valveClose : Decides 8 [] decideValveClose
  | eventsClear (a b : Byte) : Decides 9 [a, b] (decideEventsClear (a ++ b))
  | storageSet (a : Byte) : Decides 10 [a] (decideStorageSet a)
  | diagQuery (a : Byte) : Decides 11 [a] (decideDiagQuery a)

theorem decides_of_decisionFor {code : Byte} {args : List Byte} {d : State → State × Answer}
    (h : decisionFor code args = some d) : Decides code.toNat args d := by
  unfold decisionFor at h
  generalize code.toNat = n at h ⊢
  obtain _ | _ | _ | _ | _ | _ | _ | _ | _ | _ | _ | _ | n := n <;>
    obtain _ | ⟨a, _ | ⟨b, _ | ⟨c, _ | ⟨e, _ | ⟨f, args⟩⟩⟩⟩⟩ := args <;> cases h <;> constructor

theorem acts_decisionFor {code : Byte} {args : List Byte} {d : State → State × Answer}
    (h : decisionFor code args = some d) (s : State) : Acts requestEffects s (d s).1 := by
  have hdecides := decides_of_decisionFor h
  generalize code.toNat = n at hdecides
  cases hdecides with
  | zoneSet => exact (acts_decideZoneSet _ _ _ s).mono (by decide)
  | lightSet => exact (acts_decideLightSet _ _ _ s).mono (by decide)
  | move => exact (acts_decideMove _ _ s).mono (by decide)
  | halt => exact (acts_decideHalt _ s).mono (by decide)
  | holdSet => exact (acts_decideHoldSet _ _ s).mono (by decide)
  | faultClear => exact (acts_decideFaultClear _ s).mono (by decide)
  | pumpSet => exact (acts_decidePumpSet _ s).mono (by decide)
  | valveClose => exact (acts_decideValveClose s).mono (by decide)
  | eventsClear => exact (acts_decideEventsClear _ s).mono (by decide)
  | storageSet => exact (acts_decideStorageSet _ s).mono (by decide)
  | diagQuery => exact (acts_decideDiagQuery _ s).mono (by decide)

theorem acts_decideRequest (payload : List Byte) (s : State) :
    Acts requestEffects s (decideRequest payload s).1 := by
  unfold decideRequest
  split
  · exact acts_decisionFor ‹_› s
  · exact .refl

theorem acts_dispatchRequest (origin : Station) (payload : List Byte) (s : State) :
    Acts (requestEffects ++ publishEffects) s (dispatchRequest origin payload s) := by
  unfold dispatchRequest
  split
  · exact acts_reply s _ _ (acts_decideRequest payload s)
  · exact .refl

/-- The acts of a valid telegram handed on. -/
def telegramEffects : List Effect := peerEffects ++ requestEffects ++ publishEffects

theorem acts_handTelegram (h : Word) (payload : List Byte) (s : State) :
    Acts telegramEffects s (handTelegram h payload s) := by
  have harrive : Acts telegramEffects s (publish s (peerArrival (headerOrigin h)
      (kindOfCode (headerKind h)) payload s)) :=
    (acts_peerArrival _ _ _ s).append (acts_publish s _)
  unfold handTelegram
  simp only
  split
  · exact harrive.append (acts_dispatchRequest _ _ _)
  · exact (harrive.append (acts_recallScene _ _) : Acts telegramEffects s _).append (acts_publish _ _)
  · exact (harrive.append (acts_takeStow _ _) : Acts telegramEffects s _).append (acts_publish _ _)
  · exact harrive

end Sys2Proof.Machine

namespace Sys2Proof.Machine

-- As in the tests, so that no command needs threads of its own.
set_option Elab.async false

/-! ## The commands -/

/-- What each command may do, act by act. Of the resets, the record's reads and the line's own events nothing is
said here. -/
def effectsOf : Instr → List Effect
  | .powerOnReset _ | .resetPinReset _ | .recordReadComplete _ _ | .recordReadRetry _ _ => []
  | .listenIntervalEnd => .writes .boot :: .opensGate :: tanksEffects
  | .storageSet _ _ => storageEffects ++ publishEffects
  | .bankSample _ _ => sampleEffects ++ tanksEffects
  | .derateEvaluation _ => [.writes .bank, .ownBank] ++ tanksEffects
  | .batteryPeriod => [.writes .bank, .sends]
  | .peerStale _ => [.writes .peers]
  | .peerRemoval _ => peerEffects ++ publishEffects
  | .overBudgetDwellExpiry => .dwells :: tanksEffects
  | .budgetShedHoldExpiry _ => .holds :: tanksEffects
  | .claimDue | .claimHeartbeat => [.claims]
  | .zoneEvaluation _ =>
    zoneEffects ++ [.raises .zoneSensorFault, .sends, .writes .freeCount] ++ tanksEffects
  | .heaterWindowStep => [.writes .zone]
  | .zoneSet _ _ _ _ => zoneEffects ++ tanksEffects
  | .tankPeriod _ _ _ _ => tankEffects ++ tanksEffects
  | .pressureSwitchEdge _ => pumpEffects ++ tanksEffects
  | .pumpRunTimerExpiry => .raises .pumpDry :: pumpEffects ++ tanksEffects
  | .frostDwellExpiry => [.asks 14, .writes .water, .raises .frostDump, .asks 13] ++ tanksEffects
  | .pumpSet _ _ => pumpEffects ++ tanksEffects
  | .valveClose _ => [.writes .water, .asks 14, .asks 13] ++ tanksEffects
  | .tanksDue | .tanksHeartbeat => tanksEffects
  | .stopArrival _ _ => faultEffects ++ publishEffects
  | .stopDeparture _ _ => .raises .interlockRetract :: motorEffects ++ publishEffects
  | .hallEdge _ => [.writes .motion]
  | .travelTimeout _ | .stall _ => faultEffects ++ publishEffects
  | .motorCurrentCrossing _ _ => [.writes .motion]
  | .overcurrentExpiry _ => faultEffects ++ publishEffects
  | .pauseEnd _ => motorEffects ++ publishEffects
  | .anemometerEdge => .raises .windRetract :: motorEffects ++ publishEffects
  | .windSilenceExpiry => [.writes .motion]
  | .move _ _ _ | .halt _ _ | .holdSet _ _ _ => motorEffects ++ publishEffects
  | .faultClear _ _ => clearFaultEffects ++ publishEffects
  | .stow _ => stowEffects ++ publishEffects
  | .motionHeartbeat => motionTelegramEffects
  | .switchEdge _ _ | .scene _ | .lightSet _ _ _ _ => lightEffects ++ tanksEffects
  | .fadeTick | .pwmCounterAdvance => [.writes .light]
  | .eventsClear _ _ => [.writes .event, .sends]
  | .diagQuery _ _ => [.clearsCounters, .sends]
  | .requestOther _ _ => requestEffects ++ publishEffects
  | .frameReceived _ _ _ => telegramEffects
  | .lineIdle | .lineFallingEdge | .contentionLoss | .txCollision | .frameSent | .receiveError _ => []

/-- The commands that are a chain of acts on the state they find. -/
def isChain : Instr → Bool
  | .powerOnReset _ | .resetPinReset _ | .recordReadComplete _ _ | .recordReadRetry _ _
  | .frameReceived _ _ _ | .lineIdle | .lineFallingEdge | .contentionLoss | .txCollision | .frameSent
  | .receiveError _ => false
  | _ => true

/-- A command's outcome is the next state after a chain of acts. -/
def NextBy (L : List Effect) (s : State) (o : Host.Outcome State Fault Refusal) : Prop :=
  ∃ t : State, o = .next t ∧ Acts L s t

theorem nextBy_effectWhen {L M : List Effect} {cond : Bool} {effect : State → State} {s : State}
    (h : Acts L s (effect s)) (hp : Acts M (effect s) (publish s (effect s))) :
    NextBy (L ++ M) s (effectWhen cond effect s) := by
  refine ⟨_, rfl, ?_⟩
  split
  · exact h.append hp (fun _ he => List.mem_append_left _ he) (fun _ he => List.mem_append_right _ he)
  · exact .refl

/-- The same for an effect that leaves nothing to publish. -/
theorem nextBy_effectWhen_of_publish {L : List Effect} {cond : Bool} {effect : State → State} {s : State}
    (h : Acts L s (effect s)) (hp : publish s (effect s) = effect s) :
    NextBy L s (effectWhen cond effect s) := by
  refine ⟨_, rfl, ?_⟩
  rw [hp]
  split
  · exact h
  · exact .refl

/-- An event of a bank monitor that is there. -/
theorem nextBy_onBankHost {L M : List Effect} {due : Bool} {effect : BankParams → State → State} {s : State}
    (h : ∀ p, Acts L s (effect p s)) (hp : ∀ p, Acts M (effect p s) (publish s (effect p s))) :
    NextBy (L ++ M) s (onBankHost due effect s) := by
  unfold onBankHost
  split
  · exact ⟨s, rfl, .refl⟩
  · exact nextBy_effectWhen (h _) (hp _)

/-- A write of an actuator record that leaves what MOTION reports leaves nothing to publish. -/
theorem publish_putAct {a : Actuator} {r : ActRec} {s : State}
    (hstate : r.state = (act s.motion a).state) (hfaults : r.faults = (act s.motion a).faults)
    (hhold : r.hold = (act s.motion a).hold) : publish s (putAct a r s) = putAct a r s := by
  refine publish_of_untracked ?_ (fun b => ?_) ?_
  · cases a
    · rfl
    · unfold ownStepOut putAct
      simp only [State.setMotion_motion, State.setMotion_params, hstate]
      rfl
  · cases a with
    | awning =>
      cases b with
      | awning =>
        simp only [trackedAct, putAct, act, State.setMotion_motion] at *
        rw [hstate, hfaults, hhold]
      | step => rfl
    | step =>
      cases b with
      | awning => rfl
      | step =>
        simp only [trackedAct, putAct, act, State.setMotion_motion] at *
        rw [hstate, hfaults, hhold]
  · cases a <;> rfl

theorem publish_hallEdgeAt (a : Actuator) (s : State) : publish s (hallEdgeAt a s) = hallEdgeAt a s := by
  unfold hallEdgeAt
  simp only
  split
  · exact publish_self s
  · exact publish_putAct rfl rfl rfl

theorem publish_currentCrossing (a : Actuator) (current : Nat) (s : State) :
    publish s (currentCrossing a current s) = currentCrossing a current s := by
  unfold currentCrossing
  simp only
  split
  · exact publish_self s
  · exact publish_putAct rfl rfl rfl

theorem publish_putWind (w : WindMeter) (s : State) : publish s (putWind w s) = putWind w s :=
  publish_of_untracked rfl (fun a => by cases a <;> rfl) rfl

/-- A MOTION handed over changes nothing that a status telegram reports. -/
theorem publish_queueMotion (s : State) : publish s (queueMotion s) = queueMotion s := by
  unfold queueMotion
  split
  · rw [sendTelegram_eq]
    exact publish_of_untracked rfl (fun a => by cases a <;> rfl) rfl
  · exact publish_self s

theorem publish_queueTanks (s : State) : publish s (queueTanks s) = queueTanks s := by
  unfold queueTanks
  split
  · rw [sendTelegram_eq]
    exact publish_of_untracked rfl (fun a => by cases a <;> rfl) rfl
  · exact publish_self s

theorem acts_enterRun (s : State) : Acts [.writes .boot, .opensGate] s (enterRun s) := by
  have h : Acts [.writes .boot] s (s.setBoot { s.boot with stage := .run }) := (written_setBoot s _).acts
  unfold enterRun
  simp only
  split
  · exact h.append (LoadEvent.acts (.gate _))
  · exact h.mono (by decide)

theorem acts_goStale (n : Station) (s : State) : Acts [.writes .peers] s (goStale n s) :=
  (written_setPeers s _).acts

theorem acts_budgetShedHoldExpiry (i : Fin 17) (s : State) :
    NextBy (.holds :: tanksEffects) s (execBudgetShedHoldExpiry i s) := by
  by_cases h : s.budget.loads[i].state = .shed .budget
  · have hhold : Acts [.holds] s (holdExpires i s) := LoadEvent.acts (.hold i s h)
    exact nextBy_effectWhen hhold hhold.publish_tanks
  · refine ⟨s, ?_, .refl⟩
    simp [execBudgetShedHoldExpiry, effectWhen, h, -Fin.getElem_fin]

/-- Every command but the resets, the reads of the record and the line's own events is a chain of acts. -/
theorem exec_nextBy (c : Instr) (s : State) (h : isChain c = true) : NextBy (effectsOf c) s (exec c s) := by
  cases c with
  | powerOnReset | resetPinReset | recordReadComplete | recordReadRetry | frameReceived | lineIdle
  | lineFallingEdge | contentionLoss | txCollision | frameSent | receiveError => cases h
  | listenIntervalEnd => exact nextBy_effectWhen (acts_enterRun s) (acts_enterRun s).publish_tanks
  | storageSet rq value => exact ⟨_, rfl, acts_takeRequest rq _ s (acts_decideStorageSet value s)⟩
  | bankSample i v =>
    exact nextBy_onBankHost (fun p => acts_sampleBank p i v s)
      (fun p => (acts_sampleBank p i v s).publish_tanks)
  | derateEvaluation reading =>
    exact nextBy_onBankHost (fun p => acts_evalDerate p reading s)
      (fun p => (acts_evalDerate p reading s).publish_tanks)
  | batteryPeriod =>
    refine nextBy_onBankHost (M := []) (fun p => acts_bankFormBattery p s) (fun p => ?_)
    rw [(acts_bankFormBattery p s).publish_eq]
    exact .refl
  | peerStale n => exact nextBy_effectWhen_of_publish (acts_goStale n s) (acts_goStale n s).publish_eq
  | peerRemoval n => exact nextBy_effectWhen (acts_expirePeer n s) (acts_publish s _)
  | overBudgetDwellExpiry =>
    have hdwell : Acts [.dwells] s (dwellExpires s) := LoadEvent.acts (.dwell s)
    exact nextBy_effectWhen hdwell hdwell.publish_tanks
  | budgetShedHoldExpiry i => exact acts_budgetShedHoldExpiry i s
  | claimDue | claimHeartbeat =>
    have hclaim : Acts [.claims] s (queueClaim s) := LoadEvent.acts (.claim s)
    exact nextBy_effectWhen_of_publish hclaim hclaim.publish_eq
  | zoneEvaluation readings =>
    exact nextBy_effectWhen (acts_evalZones readings s) (acts_evalZones readings s).publish_tanks
  | heaterWindowStep =>
    exact nextBy_effectWhen_of_publish (acts_stepWindow s) (acts_stepWindow s).publish_eq
  | zoneSet rq zone mode sp =>
    exact ⟨_, rfl, acts_takeRequest_tanks rq _ s (acts_decideZoneSet zone mode sp s)⟩
  | tankPeriod fresh grey black temp =>
    have htanks := acts_tankPeriodOf fresh grey black temp s
    exact nextBy_effectWhen htanks htanks.publish_tanks
  | pressureSwitchEdge closing =>
    exact nextBy_effectWhen (acts_pressureEdge closing s) (acts_pressureEdge closing s).publish_tanks
  | pumpRunTimerExpiry => exact nextBy_effectWhen (acts_pumpRunsDry s) (acts_pumpRunsDry s).publish_tanks
  | frostDwellExpiry => exact nextBy_effectWhen (acts_openValve s) (acts_openValve s).publish_tanks
  | pumpSet rq value => exact ⟨_, rfl, acts_takeRequest_tanks rq _ s (acts_decidePumpSet value s)⟩
  | valveClose rq => exact ⟨_, rfl, acts_takeRequest_tanks rq _ s (acts_decideValveClose s)⟩
  | tanksDue | tanksHeartbeat =>
    exact nextBy_effectWhen_of_publish (acts_queueTanks s) (publish_queueTanks s)
  | stopArrival a e => exact nextBy_effectWhen (acts_arrivalAt a e s) (acts_publish s _)
  | stopDeparture a e => exact nextBy_effectWhen (acts_departureAt a e s) (acts_publish s _)
  | hallEdge a => exact nextBy_effectWhen_of_publish (acts_hallEdgeAt a s) (publish_hallEdgeAt a s)
  | travelTimeout a => exact nextBy_effectWhen (acts_enterFault a _ s) (acts_publish s _)
  | stall a => exact nextBy_effectWhen (acts_enterFault a _ s) (acts_publish s _)
  | motorCurrentCrossing a current =>
    exact nextBy_effectWhen_of_publish (acts_currentCrossing a current s) (publish_currentCrossing a current s)
  | overcurrentExpiry a => exact nextBy_effectWhen (acts_overcurrentAt a s) (acts_publish s _)
  | pauseEnd a => exact nextBy_effectWhen (acts_endPause a s) (acts_publish s _)
  | anemometerEdge => exact nextBy_effectWhen (acts_windEdge s) (acts_publish s _)
  | windSilenceExpiry => exact nextBy_effectWhen_of_publish (acts_putWind _ s) (publish_putWind _ s)
  | move rq a d => exact ⟨_, rfl, acts_takeRequest rq _ s (acts_decideMove a d s)⟩
  | halt rq a => exact ⟨_, rfl, acts_takeRequest rq _ s (acts_decideHalt a s)⟩
  | holdSet rq a v => exact ⟨_, rfl, acts_takeRequest rq _ s (acts_decideHoldSet a v s)⟩
  | faultClear rq a => exact ⟨_, rfl, acts_takeRequest rq _ s (acts_decideFaultClear a s)⟩
  | stow override => exact nextBy_effectWhen (acts_takeStow override s) (acts_publish s _)
  | motionHeartbeat => exact nextBy_effectWhen_of_publish (acts_queueMotion s) (publish_queueMotion s)
  | switchEdge n rising =>
    exact nextBy_effectWhen (acts_switchEdgeAt n rising s) (acts_switchEdgeAt n rising s).publish_tanks
  | scene number => exact nextBy_effectWhen (acts_recallScene number s) (acts_recallScene number s).publish_tanks
  | lightSet rq n code level =>
    exact ⟨_, rfl, acts_takeRequest_tanks rq _ s (acts_decideLightSet n code level s)⟩
  | fadeTick => exact nextBy_effectWhen_of_publish (acts_fadeAll s) (acts_fadeAll s).publish_eq
  | pwmCounterAdvance => exact nextBy_effectWhen_of_publish (acts_advancePwm s) (acts_advancePwm s).publish_eq
  | eventsClear rq set => exact ⟨_, rfl, acts_eventsClear rq set s⟩
  | diagQuery rq page => exact ⟨_, rfl, acts_diagQuery rq page s⟩
  | requestOther origin payload => exact ⟨_, rfl, acts_dispatchRequest origin payload s⟩

/-! ## A frame received -/

/-- The line after a complete frame: the receiver ignores it until it is IDLE (R168). -/
def frameEnded (s : State) : State := s.setLine { s.line with receiver := .discarding }

/-- A frame received is not taken, or fails a check and changes the line's counters (and raises CLASH), or is
handed on (R168 to R171). -/
theorem exec_frameReceived_cases (h : Word) (payload : List Byte) (check : Byte) (s : State) :
    exec (.frameReceived h payload check) s = .next s
    ∨ (s.running = true
      ∧ ∃ l : Line, l.queue = s.line.queue ∧ l.register = s.line.register ∧ l.sender = s.line.sender
        ∧ (exec (.frameReceived h payload check) s = .next (s.setLine l)
          ∨ exec (.frameReceived h payload check) s = .next (raiseEvent .clash (s.setLine l))))
    ∨ s.running = true ∧ checkFrame s.boot.station h payload check = .valid
      ∧ exec (.frameReceived h payload check) s = .next (handTelegram h payload (frameEnded s)) := by
  have hexec : exec (.frameReceived h payload check) s = execFrameReceived h payload check s := rfl
  rw [hexec]
  unfold execFrameReceived receiveFrame
  by_cases hc : (s.running && s.line.receiver == .receiving && s.line.sender == .idle) = true
  · have hrun : s.running = true := by
      simp only [Bool.and_eq_true] at hc
      exact hc.1.1
    rw [if_pos hc]
    refine .inr ?_
    cases hcheck : checkFrame s.boot.station h payload check with
    | badCheck => exact .inl ⟨hrun, countRxCheck (frameEnded s).line, rfl, rfl, rfl, .inl rfl⟩
    | badFormat => exact .inl ⟨hrun, countRxFormat (frameEnded s).line, rfl, rfl, rfl, .inl rfl⟩
    | clash =>
      exact .inl ⟨hrun, { (frameEnded s).line with rxClash := countUp (frameEnded s).line.rxClash }, rfl, rfl, rfl, .inr rfl⟩
    | valid => exact .inr ⟨hrun, rfl, rfl⟩
  · rw [if_neg hc]
    exact .inl rfl

/-! ## The line's own events -/

/-- The commands of the line that change nothing else. -/
def isLineEvent : Instr → Bool
  | .lineIdle | .lineFallingEdge | .contentionLoss | .txCollision | .frameSent | .receiveError _ => true
  | _ => false

/-- The line's own events change the line only, and that of a running part only. -/
theorem exec_lineEvent (c : Instr) (s : State) (h : isLineEvent c = true) :
    ∃ l : Line, exec c s = .next (s.setLine l) ∧ (s.running = false → l = s.line) := by
  have hif (cond : Bool) (l : Line) : ∃ m : Line,
      (if (s.running && cond) = true then s.setLine l else s) = s.setLine m ∧ (s.running = false → m = s.line) := by
    by_cases hc : (s.running && cond) = true
    · exact ⟨l, if_pos hc, fun hr => absurd hc (by simp [hr])⟩
    · exact ⟨s.line, if_neg hc, fun _ => rfl⟩
  have hnext {t : State} (ht : ∃ m : Line, t = s.setLine m ∧ (s.running = false → m = s.line)) :
      ∃ l : Line, (Host.Outcome.next t : Host.Outcome State Fault Refusal) = .next (s.setLine l)
        ∧ (s.running = false → l = s.line) := by
    obtain ⟨m, rfl, hm⟩ := ht
    exact ⟨m, rfl, hm⟩
  cases c with
  | lineIdle => exact hnext (hif _ _)
  | lineFallingEdge => exact hnext (hif _ _)
  | contentionLoss =>
    change ∃ l, execContentionLoss s = _ ∧ _
    unfold execContentionLoss
    split
    · exact hnext (hif _ _)
    · exact ⟨s.line, rfl, fun _ => rfl⟩
  | txCollision =>
    change ∃ l, execTxCollision s = _ ∧ _
    unfold execTxCollision
    split
    · exact hnext (hif _ _)
    · exact ⟨s.line, rfl, fun _ => rfl⟩
  | frameSent => exact hnext (hif _ _)
  | receiveError f => exact hnext (hif _ _)
  | _ => cases h

/-! ## The resets and the start -/

/-- The state from which the blocks start: the parameters and the event mask are there, and every controller stands
at its start values (R189). -/
def settledState (record : List Byte) (passed : Bool) (s : State) : State :=
  { s with
    boot := startedBoot s.boot record passed
    params := if passed then paramsOfRecord record else Params.fallback
    event := { s.event with mask := (if passed then paramsOfRecord record else Params.fallback).mask }
    budget := startedBudget (if passed then paramsOfRecord record else Params.fallback)
    zone := startedZones (if passed then paramsOfRecord record else Params.fallback) s.boot.storage
    water := Water.reset
    motion := { Motion.reset with storage := s.boot.storage }
    light := startedLights (if passed then paramsOfRecord record else Params.fallback) s.boot.storage }

theorem startProfile_eq (record : List Byte) (passed : Bool) (s : State) :
    startProfile record passed s = if passed then settledState record passed s
      else raiseEvent .configFallback (settledState record passed s) := rfl

/-- The acts of the blocks' start. -/
def startEffects : List Effect :=
  [.raises .configFallback, .claims, .writes .bank, .raises .bankResync, .ownBank, .sends,
    .raises .zoneSensorFault, .writes .freeCount, .writes .motion, .raises .actuatorFault]
    ++ zoneEffects ++ tankEffects ++ lightEffects

theorem acts_startBank (inputs : StartInputs) (s : State) :
    Acts (.sends :: sampleEffects) s (startBank inputs s) := by
  unfold startBank
  split
  · exact (written_setBank s _).acts.mono (by decide)
  · simp only
    exact (((written_setBank s _).acts.append (acts_finishSample _ _) :
      Acts (.sends :: sampleEffects) s _).append (acts_bankFormBattery _ _))

theorem acts_startWater (inputs : StartInputs) (s : State) :
    Acts (.sends :: tankEffects) s (startWater inputs s) := by
  have hpump : Acts [.writes .water] s
      (putPump { s.water.pump with demand := s.params.water.pump && inputs.pressure } s) :=
    (written_putPump _ s).acts
  exact ((hpump.append (acts_tankPeriodOf _ _ _ _ _) : Acts (.sends :: tankEffects) s _).append
    (acts_evalPump _) : Acts (.sends :: tankEffects) s _).append (acts_queueTanks _)

theorem acts_startAct (s : State) (a : Actuator) :
    Acts [.writes .motion, .raises .actuatorFault] s (startAct s a) := by
  unfold startAct
  simp only
  split
  · exact ((written_putAct a _ s).acts.append (acts_raiseEvent _ _) :
      Acts [.writes .motion, .raises .actuatorFault] s _).append (acts_countFault _)
  · exact (written_putAct a _ s).acts.mono (by decide)

theorem acts_startMotion (inputs : StartInputs) (s : State) :
    Acts (.raises .actuatorFault :: motionTelegramEffects) s (startMotion inputs s) := by
  unfold startMotion
  simp only
  exact ((written_setMotion s _).acts.append (.foldl _ acts_startAct _ _) :
    Acts [.writes .motion, .raises .actuatorFault] s _).append (acts_queueMotion _)

/-- The blocks' start is a chain of acts on the settled state. -/
theorem acts_startBlocks (record : List Byte) (passed : Bool) (inputs : StartInputs) (s : State) :
    Acts startEffects (settledState record passed s) (startBlocks record passed inputs s) := by
  have hprofile : Acts startEffects (settledState record passed s) (startProfile record passed s) := by
    rw [startProfile_eq]
    split
    · exact .refl
    · exact (acts_raiseEvent _ _).mono (by decide)
  unfold startBlocks
  simp only
  refine Acts.append (L := startEffects) ?_ (acts_handOwnStepOut _ _)
  refine Acts.append (L := startEffects) ?_ (acts_startMotion _ _)
  refine Acts.append (L := startEffects) ?_ (acts_startWater _ _)
  refine Acts.append (L := startEffects) ?_ (acts_evalZones _ _)
  refine Acts.append (L := startEffects) ?_ (acts_startBank _ _)
  exact hprofile.append (LoadEvent.acts (.claim _))

/-- A read of the record changes nothing, or waits for the second read, or starts the blocks from the settled
state; the last two on a part that is not running. -/
theorem exec_recordRead_cases {c : Instr} (s : State)
    (h : (∃ r inputs, c = .recordReadComplete r inputs) ∨ ∃ r inputs, c = .recordReadRetry r inputs) :
    exec c s = .next s
    ∨ s.running = false ∧ exec c s = .next (awaitRetry s)
    ∨ s.running = false ∧ ∃ (record : List Byte) (passed : Bool) (inputs : StartInputs),
        exec c s = .next (startBlocks record passed inputs s) := by
  rcases h with ⟨r, inputs, rfl⟩ | ⟨r, inputs, rfl⟩
  · change execRecordReadComplete r inputs s = _ ∨ _ ∧ execRecordReadComplete r inputs s = _
      ∨ _ ∧ ∃ record passed inputs', execRecordReadComplete r inputs s = _
    unfold execRecordReadComplete
    by_cases hp : s.boot.phase = .reading
    · have hrun : s.running = false := by simp [State.running, hp]
      rw [if_pos hp]
      unfold firstReadEnds
      split
      · split
        · exact .inr (.inr ⟨hrun, _, _, _, rfl⟩)
        · exact .inr (.inl ⟨hrun, rfl⟩)
      · exact .inr (.inl ⟨hrun, rfl⟩)
    · rw [if_neg hp]
      exact .inl rfl
  · change execRecordReadRetry r inputs s = _ ∨ _ ∧ execRecordReadRetry r inputs s = _
      ∨ _ ∧ ∃ record passed inputs', execRecordReadRetry r inputs s = _
    unfold execRecordReadRetry
    by_cases hp : s.boot.phase = .retryWait ∧ Config.recordRetryMs ≤ s.boot.readTimer
    · have hrun : s.running = false := by simp [State.running, hp.1]
      rw [if_pos hp]
      unfold secondReadEnds
      split
      · split
        · exact .inr (.inr ⟨hrun, _, _, _, rfl⟩)
        · exact .inr (.inr ⟨hrun, _, _, _, rfl⟩)
      · exact .inr (.inr ⟨hrun, _, _, _, rfl⟩)
    · rw [if_neg hp]
      exact .inl rfl

/-! ## Each command keeps to its blocks -/

/-- What O3 asks of a command and its next state. -/
def KeepsToBlocks (c : Instr) (s t : State) : Prop :=
  t.pending = s.pending
  ∧ (∀ b : Block, b ∉ mayTouch c → blockSame s t b)
  ∧ (∀ l : List Event, mayRaise c = some l → RaisesOnly l s t)

/-- The effects of a command lie within the blocks and events its rules name. -/
theorem effectsOf_within (c : Instr) (h : isChain c = true) :
    (∀ e ∈ effectsOf c, ∀ b ∈ e.touched, b ∈ mayTouch c)
    ∧ ∀ l, mayRaise c = some l →
        (∀ e ∈ effectsOf c, ∀ k ∈ e.raised, k ∈ l) ∧ .writes .event ∉ effectsOf c := by
  cases c with
  | powerOnReset | resetPinReset | recordReadComplete | recordReadRetry | frameReceived | lineIdle
  | lineFallingEdge | contentionLoss | txCollision | frameSent | receiveError => cases h
  | eventsClear | requestOther =>
    simp only [effectsOf, mayTouch]
    exact ⟨by decide, nofun⟩
  | _ =>
    simp only [effectsOf, mayTouch]
    exact ⟨by decide, by rintro l ⟨⟩; decide⟩

theorem keepsToBlocks_of_acts {c : Instr} {s t : State} (hc : isChain c = true) (h : Acts (effectsOf c) s t) :
    KeepsToBlocks c s t := by
  obtain ⟨htouch, hraise⟩ := effectsOf_within c hc
  refine ⟨h.pending, fun b hb => h.blockSame (fun e he hmem => hb (htouch e he b hmem)), fun l hl => ?_⟩
  obtain ⟨hraised, hwrite⟩ := hraise l hl
  exact h.raisesOnly hraised hwrite

theorem keepsToBlocks_refl (c : Instr) (s : State) : KeepsToBlocks c s s :=
  ⟨rfl, fun b _ => blockSame_refl s b, fun l _ => .refl l s⟩

theorem setLine_blockSame (s : State) (l : Line) {b : Block} (hb : b ≠ .line) : blockSame s (s.setLine l) b := by
  cases b
  case line => exact absurd rfl hb
  case clock => exact ⟨rfl, rfl⟩
  all_goals rfl

theorem keepsToBlocks_lineEvent {c : Instr} (s : State) (h : isLineEvent c = true) :
    ∃ t, exec c s = .next t ∧ KeepsToBlocks c s t := by
  obtain ⟨l, hl, _⟩ := exec_lineEvent c s h
  have hmem : Block.line ∈ mayTouch c := by
    cases c with
    | lineIdle | lineFallingEdge | contentionLoss | txCollision | frameSent | receiveError => exact List.mem_singleton_self _
    | _ => cases h
  refine ⟨_, hl, rfl, fun b hb => setLine_blockSame s l (fun h' => hb (h' ▸ hmem)), fun l' _ => ?_⟩
  exact raisesOnly_of_event rfl

/-- Effects that touch only blocks of a list leave every block outside it. -/
theorem Acts.sameOutside {L : List Effect} {bs : List Block} {s t : State} (h : Acts L s t)
    (htouch : ∀ e ∈ L, ∀ b ∈ e.touched, b ∈ bs) {b : Block} (hb : b ∉ bs) :
    Machine.blockSame s t b :=
  h.blockSame (fun e he hmem => hb (htouch e he b hmem))

theorem keepsToBlocks_frameReceived (h : Word) (payload : List Byte) (check : Byte) (s : State) :
    ∃ t, exec (.frameReceived h payload check) s = .next t
      ∧ KeepsToBlocks (.frameReceived h payload check) s t := by
  have htouch : mayTouch (.frameReceived h payload check) = motionBlocks ++ [.boot, .peers] := rfl
  have hkeep {t : State} (hpending : t.pending = s.pending)
      (hsame : ∀ b : Block, b ∉ motionBlocks ++ [.boot, .peers] → blockSame s t b) :
      KeepsToBlocks (.frameReceived h payload check) s t := ⟨hpending, htouch ▸ hsame, nofun⟩
  have hline {b : Block} (l : Line) (hb : b ∉ motionBlocks ++ [.boot, .peers]) : blockSame s (s.setLine l) b :=
    setLine_blockSame s l (fun h' => hb (h' ▸ by decide))
  have hraised : ∀ b ∈ [Block.event, .line], b ∈ motionBlocks ++ [.boot, .peers] := by decide
  rcases exec_frameReceived_cases h payload check s with he | ⟨_, l, _, _, _, he | he⟩ | ⟨_, _, he⟩
  · exact ⟨s, he, keepsToBlocks_refl _ s⟩
  · exact ⟨_, he, hkeep rfl (fun b hb => hline l hb)⟩
  · refine ⟨_, he, hkeep (loadSteps_raiseEvent _ _).frame.pending (fun b hb => ?_)⟩
    exact blockSame_trans (hline l hb) (raiseEvent_blockSame _ _ (fun hmem => hb (hraised b hmem)))
  · have hacts := acts_handTelegram h payload (frameEnded s)
    refine ⟨_, he, hkeep hacts.pending (fun b hb => ?_)⟩
    exact blockSame_trans (t := frameEnded s) (setLine_blockSame s _ (fun h' => hb (h' ▸ by decide)))
      (hacts.sameOutside (by decide) hb)

theorem keepsToBlocks_recordRead {c : Instr} (s : State)
    (h : (∃ r inputs, c = .recordReadComplete r inputs) ∨ ∃ r inputs, c = .recordReadRetry r inputs) :
    ∃ t, exec c s = .next t ∧ KeepsToBlocks c s t := by
  have hraise : mayRaise c = none := by
    rcases h with ⟨r, inputs, rfl⟩ | ⟨r, inputs, rfl⟩ <;> rfl
  have htouch : mayTouch c = motionBlocks ++ [.boot, .params, .bank] := by
    rcases h with ⟨r, inputs, rfl⟩ | ⟨r, inputs, rfl⟩ <;> rfl
  have hkeep {t : State} (hpending : t.pending = s.pending)
      (hsame : ∀ b : Block, b ∉ motionBlocks ++ [.boot, .params, .bank] → blockSame s t b) :
      KeepsToBlocks c s t :=
    ⟨hpending, htouch ▸ hsame, fun l hl => absurd (hraise.symm.trans hl) nofun⟩
  rcases exec_recordRead_cases s h with he | ⟨_, he⟩ | ⟨_, record, passed, inputs, he⟩
  · exact ⟨s, he, keepsToBlocks_refl c s⟩
  · refine ⟨_, he, hkeep rfl (fun b hb => ?_)⟩
    cases b
    case boot => exact absurd (by decide) hb
    case clock => exact ⟨rfl, rfl⟩
    all_goals rfl
  · have hacts := acts_startBlocks record passed inputs s
    refine ⟨_, he, hkeep hacts.pending (fun b hb => ?_)⟩
    have hsettled : blockSame s (settledState record passed s) b := by
      cases b
      case peers => rfl
      case clock => exact ⟨rfl, rfl⟩
      all_goals exact absurd (by decide) hb
    exact blockSame_trans hsettled (hacts.sameOutside (by decide) hb)

/-- Settles O3: the effects of a chain of acts bound what it changes and raises, and of the other commands the
line's own events change the line, the reads of the record and the resets what the start and a reset set. -/
theorem eachCommandKeepsToItsBlocks : Obligations.EachCommandKeepsToItsBlocks := by
  intro c s
  suffices h : ∃ t, exec c s = .next t ∧ KeepsToBlocks c s t from h
  by_cases hc : isChain c = true
  · obtain ⟨t, ht, hacts⟩ := exec_nextBy c s hc
    exact ⟨t, ht, keepsToBlocks_of_acts hc hacts⟩
  · cases c with
    | powerOnReset straps | resetPinReset straps =>
      refine ⟨_, rfl, rfl, fun b hb => ?_, nofun⟩
      simp only [mayTouch] at hb
      cases b
      case freeCount => rfl
      all_goals exact absurd (by decide) hb
    | recordReadComplete r inputs => exact keepsToBlocks_recordRead s (.inl ⟨r, inputs, rfl⟩)
    | recordReadRetry r inputs => exact keepsToBlocks_recordRead s (.inr ⟨r, inputs, rfl⟩)
    | frameReceived h payload check => exact keepsToBlocks_frameReceived h payload check s
    | lineIdle | lineFallingEdge | contentionLoss | txCollision | frameSent | receiveError =>
      exact keepsToBlocks_lineEvent s rfl
    | _ => exact absurd rfl hc

/-! ## The blocks reach the line by telegrams -/

/-- Settles O4: a chain of acts hands telegrams to the line one after another, and so do the blocks' start and
the wait for the second read. -/
theorem blocksReachLineByTelegramsOnly : Obligations.BlocksReachLineByTelegramsOnly := by
  intro c s t hc he
  suffices h : LineHanded s t from h
  by_cases hchain : isChain c = true
  · obtain ⟨u, hu, hacts⟩ := exec_nextBy c s hchain
    cases he.symm.trans hu
    refine hacts.lineHanded ?_
    cases c with
    | diagQuery | requestOther => cases hc
    | powerOnReset | resetPinReset | recordReadComplete | recordReadRetry | frameReceived | lineIdle
    | lineFallingEdge | contentionLoss | txCollision | frameSent | receiveError => cases hchain
    | _ =>
      simp only [effectsOf]
      decide
  · have hread : (∃ r inputs, c = .recordReadComplete r inputs) ∨ ∃ r inputs, c = .recordReadRetry r inputs := by
      cases c with
      | recordReadComplete r inputs => exact .inl ⟨r, inputs, rfl⟩
      | recordReadRetry r inputs => exact .inr ⟨r, inputs, rfl⟩
      | powerOnReset | resetPinReset | lineIdle | lineFallingEdge | contentionLoss | txCollision | frameSent
      | receiveError | frameReceived => cases hc
      | _ => exact absurd rfl hchain
    rcases exec_recordRead_cases s hread with hs | ⟨_, hs⟩ | ⟨_, record, passed, inputs, hs⟩
    · cases he.symm.trans hs
      exact .refl s
    · cases he.symm.trans hs
      exact lineHanded_of_line rfl
    · have ht : t = startBlocks record passed inputs s := Host.Outcome.next.inj (he.symm.trans hs)
      rw [ht]
      exact (lineHanded_of_line (t := settledState record passed s) rfl).trans rfl
        ((acts_startBlocks record passed inputs s).lineHanded (by decide))

/-! ## The transmit queue stays within its bounds -/

theorem queueOk_returnTelegram (l : Line) (e : TxEntry) (h : QueueOk l.queue) :
    QueueOk (returnTelegram l e).queue := by
  unfold returnTelegram
  split
  · exact h
  · exact queueOk_enqueue l e h

theorem senderOk_returnTelegram (l : Line) (e : TxEntry) (h : SenderOk l) : SenderOk (returnTelegram l e) := by
  unfold returnTelegram
  split
  · exact h
  · exact senderOk_enqueue l e h

theorem senderOk_stopSending (l : Line) : SenderOk (stopSending l) := by simp [SenderOk, stopSending]

/-- A telegram returned from the send register, or dropped, leaves the line sound. -/
theorem lineOk_setLine_of_sender {s : State} {l : Line} (h : LineOk s) (hregister : s.line.register ≠ none)
    (hq : QueueOk l.queue) (hs : SenderOk l) : LineOk (s.setLine l) := by
  rw [lineOk_iff] at h ⊢
  obtain ⟨_, _, hstation⟩ := h
  exact ⟨hq, hs, fun h0 => absurd (hstation h0).2 hregister⟩

theorem lineOk_lineGoesIdle {s : State} (h : LineOk s) : LineOk (s.setLine (lineGoesIdle s.line)) := by
  rw [lineOk_iff] at h ⊢
  obtain ⟨hq, hs, hstation⟩ := h
  have hbusy : SenderOk (if s.line.receiver = .receiving then countRxCheck s.line else s.line)
      ∧ QueueOk (if s.line.receiver = .receiving then countRxCheck s.line else s.line).queue
      ∧ (s.boot.station = 0#4 →
        (if s.line.receiver = .receiving then countRxCheck s.line else s.line).queue = []
        ∧ (if s.line.receiver = .receiving then countRxCheck s.line else s.line).register = none) := by
    split
    · exact ⟨hs, hq, hstation⟩
    · exact ⟨hs, hq, hstation⟩
  obtain ⟨hs', hq', hstation'⟩ := hbusy
  refine ⟨queueOk_beginFrame _ hq', senderOk_beginFrame _ hs', fun h0 => ?_⟩
  obtain ⟨hempty, hnone⟩ := hstation' h0
  simp [lineGoesIdle, beginFrame, hempty, hnone, nextToSend]

theorem lineOk_lineEvent {c : Instr} {s t : State} (h : isLineEvent c = true) (hs : LineOk s)
    (he : exec c s = .next t) : LineOk t := by
  have hq : QueueOk s.line.queue := ((lineOk_iff s).mp hs).1
  cases c with
  | lineIdle =>
    change execLineIdle s = _ at he
    unfold execLineIdle at he
    cases he
    split
    · exact lineOk_lineGoesIdle hs
    · exact hs
  | lineFallingEdge =>
    change execLineFallingEdge s = _ at he
    unfold execLineFallingEdge at he
    cases he
    split
    · exact lineOk_congr hs rfl rfl rfl rfl
    · exact hs
  | contentionLoss =>
    change execContentionLoss s = _ at he
    unfold execContentionLoss at he
    cases he
    split
    · next e hr =>
      split
      · refine lineOk_setLine_of_sender hs (hr.trans_ne nofun) (queueOk_returnTelegram _ e hq) ?_
        exact senderOk_returnTelegram _ e (senderOk_stopSending s.line)
      · exact hs
    · exact hs
  | txCollision =>
    change execTxCollision s = _ at he
    unfold execTxCollision at he
    cases he
    split
    · next e hr =>
      split
      · refine lineOk_setLine_of_sender hs (hr.trans_ne nofun) ?_ ?_
        · unfold collide
          simp only
          split
          · exact hq
          · exact queueOk_returnTelegram _ _ hq
        · unfold collide
          simp only
          split
          · exact senderOk_stopSending s.line
          · exact senderOk_returnTelegram _ _ (senderOk_stopSending s.line)
      · exact hs
    · exact hs
  | frameSent =>
    change execFrameSent s = _ at he
    unfold execFrameSent at he
    cases he
    split
    · rw [lineOk_iff] at hs ⊢
      obtain ⟨_, _, hstation⟩ := hs
      exact ⟨hq, senderOk_stopSending s.line, fun h0 => ⟨(hstation h0).1, rfl⟩⟩
    · exact hs
  | receiveError f =>
    change execReceiveError f s = _ at he
    unfold execReceiveError at he
    cases he
    split
    · cases f <;> exact lineOk_congr hs rfl rfl rfl rfl
    · exact hs
  | _ => cases h

theorem lineOk_tick {s : State} (h : LineOk s) : LineOk (tick s) := by
  have hboot : (tick s).boot.station = s.boot.station := by
    rw [tick_cases]
    split <;> split <;> simp
  unfold LineOk
  rw [tick_line, hboot]
  split
  · obtain ⟨hlen, hkinds, hsender, hstation⟩ := h
    refine ⟨?_, ?_, ?_, ?_⟩
    · rw [tickLine_queue]; exact hlen
    · rw [tickLine_queue]; exact hkinds
    · rw [tickLine_register, hsender, not_iff_not, tickLine_sender_idle]
    · rw [tickLine_queue, tickLine_register]; exact hstation
  · exact h

theorem lineOk_afterReset (straps : Station) (storage : Bool) (b : Bank) (s : State) :
    LineOk (keepModelFields s (State.afterReset straps storage b)) := by
  have hline : (keepModelFields s (State.afterReset straps storage b)).line = Line.reset := rfl
  unfold LineOk
  rw [hline]
  exact ⟨by decide, fun k _ => Nat.zero_le 1, by decide, fun _ => ⟨rfl, rfl⟩⟩

/-- A command keeps the line sound. -/
theorem exec_lineOk {c : Instr} {s t : State} (hs : LineOk s) (he : exec c s = .next t) : LineOk t := by
  by_cases hc : isChain c = true
  · obtain ⟨u, hu, hacts⟩ := exec_nextBy c s hc
    cases he.symm.trans hu
    exact hacts.lineOk hs
  · have hread (hread : (∃ r inputs, c = .recordReadComplete r inputs) ∨ ∃ r inputs, c = .recordReadRetry r inputs) :
        LineOk t := by
      rcases exec_recordRead_cases s hread with hr | ⟨_, hr⟩ | ⟨_, record, passed, inputs, hr⟩
      · cases he.symm.trans hr
        exact hs
      · cases he.symm.trans hr
        exact lineOk_congr hs rfl rfl rfl rfl
      · have ht : t = startBlocks record passed inputs s := Host.Outcome.next.inj (he.symm.trans hr)
        rw [ht]
        exact (acts_startBlocks record passed inputs s).lineOk (lineOk_congr hs rfl rfl rfl rfl)
    cases c with
    | powerOnReset straps | resetPinReset straps =>
      cases he
      exact lineOk_afterReset _ _ _ s
    | recordReadComplete r inputs => exact hread (.inl ⟨r, inputs, rfl⟩)
    | recordReadRetry r inputs => exact hread (.inr ⟨r, inputs, rfl⟩)
    | frameReceived h payload check =>
      rcases exec_frameReceived_cases h payload check s with hr | ⟨_, l, hq, hreg, hsend, hr | hr⟩ | ⟨_, _, hr⟩
      · cases he.symm.trans hr
        exact hs
      · cases he.symm.trans hr
        exact lineOk_congr hs hq hreg hsend rfl
      · cases he.symm.trans hr
        exact (loadSteps_raiseEvent _ _).lineOk (lineOk_congr hs hq hreg hsend rfl)
      · cases he.symm.trans hr
        exact (acts_handTelegram h payload _).lineOk (lineOk_congr hs rfl rfl rfl rfl)
    | lineIdle | lineFallingEdge | contentionLoss | txCollision | frameSent | receiveError =>
      exact lineOk_lineEvent rfl hs he
    | _ => exact absurd rfl hc

/-- A property that every command keeps, whatever waits, and that the passing of time keeps is kept by every step. -/
theorem keptByEveryStep {P : State → Prop} (hpending : ∀ (s : State) (q : List Instr), P s → P { s with pending := q })
    (hexec : ∀ (c : Instr) (s t : State), P s → exec c s = .next t → P t) (htick : ∀ s : State, P s → P (tick s)) :
    KeptByEveryStep P := by
  intro s t hs hstep
  unfold step at hstep
  split at hstep
  · cases hstep
    exact htick s hs
  · exact hexec _ _ t (hpending s _ hs) hstep

/-- Settles O6: every act, every event of the line and every reset keeps the line sound. -/
theorem transmitQueueStaysInBounds : Obligations.TransmitQueueStaysInBounds :=
  keptByEveryStep (fun _ _ h => h) (fun _ _ _ => exec_lineOk) (fun _ => lineOk_tick)

end Sys2Proof.Machine

/-! The parameters of a record, the tank filter and states, the check byte, the reset and the passing of time. -/

namespace Sys2Proof.Machine

-- As in the tests, so that no command needs threads of its own.
set_option Elab.async false

/-! ## The step, the passing of time and the reset -/

/-- Settles O1. -/
theorem stepRunsFrontCommand : Obligations.StepRunsFrontCommand := fun _ _ _ => rfl

theorem tickAct_kept (r : ActRec) :
    (tickAct r).state = r.state ∧ (tickAct r).position = r.position ∧ (tickAct r).motor = r.motor :=
  ⟨rfl, rfl, rfl⟩

theorem act_tickMotion (m : Motion) (a : Actuator) : act (tickMotion m) a = tickAct (act m a) := by
  cases a <;> rfl

theorem tickAct_travelTimer {r : ActRec} {l : Latched} (h : r.latched = some l) :
    (tickAct r).travelTimer = r.travelTimer.map fun n => min (l.timeout * 1000) (n + 1) := by
  simp only [tickAct, h, runToIfRunning_eq_map]

theorem tickBudget_loads (station : Station) (b : Budget) (i : Fin 17) :
    (tickBudget station b).loads[i] = tickLoad b.loads[i] := by
  simp [tickBudget]

theorem tickBoot_listenTimer {b : Boot} (h : b.phase = .running) :
    (tickBoot b).listenTimer = if b.stage = .listen then min 3000 (b.listenTimer + 1) else b.listenTimer := by
  unfold tickBoot
  rw [h]
  cases b.stage <;> simp [runTo_eq_min, Config.listenMs]

theorem tickBoot_readTimer {b : Boot} (h : b.phase ≠ .running) : (tickBoot b).readTimer = min 61 (b.readTimer + 1) := by
  unfold tickBoot
  split
  · exact runTo_eq_min _ _
  · exact runTo_eq_min _ _
  · next hr => exact absurd hr h

theorem tickBank_timers (b : Bank) :
    (tickBank b).sampleTimer = min 250 (b.sampleTimer + 1)
    ∧ (tickBank b).derateTimer = min 10000 (b.derateTimer + 1)
    ∧ (tickBank b).batteryTimer = min 1000 (b.batteryTimer + 1) :=
  ⟨runTo_eq_min _ _, runTo_eq_min _ _, runTo_eq_min _ _⟩

theorem tickBudget_timers (station : Station) (b : Budget) :
    (tickBudget station b).claimTimer = min 2000 (b.claimTimer + 1)
    ∧ (tickBudget station b).dwell = b.dwell.map (fun n => min (1000 + 250 * station.toNat) (n + 1)) :=
  ⟨runTo_eq_min _ _, runToIfRunning_eq_map _ _⟩

theorem tickBudget_kept (station : Station) (b : Budget) :
    (tickBudget station b).own = b.own ∧ (tickBudget station b).retry = b.retry
    ∧ (tickBudget station b).admitted = b.admitted := by
  unfold tickBudget
  exact ⟨rfl, rfl, rfl⟩

theorem tickLoad_hold (r : LoadRecord) : (tickLoad r).hold = r.hold.map (fun n => min 30000 (n + 1)) :=
  runToIfRunning_eq_map _ _

theorem tickZone_timers (z : ZoneCtl) :
    (tickZone z).periodTimer = min 10000 (z.periodTimer + 1) ∧ (tickZone z).windowTimer = min 250 (z.windowTimer + 1) :=
  ⟨runTo_eq_min _ _, runTo_eq_min _ _⟩

theorem tickWater_timers (w : Water) :
    (tickWater w).periodTimer = min 1000 (w.periodTimer + 1)
    ∧ (tickWater w).tanksTimer = min 5000 (w.tanksTimer + 1)
    ∧ (tickWater w).pump.runTimer = (if w.pump.output then min 120000 (w.pump.runTimer + 1) else 0)
    ∧ (tickWater w).frost.dwell = w.frost.dwell.map (fun n => min 600000 (n + 1)) := by
  refine ⟨runTo_eq_min _ _, runTo_eq_min _ _, ?_, runToIfRunning_eq_map _ _⟩
  simp only [tickWater, runTo_eq_min, Config.pumpRunMs]

theorem tickMotion_timers (m : Motion) :
    (tickMotion m).motionTimer = min 2000 (m.motionTimer + 1)
    ∧ (tickMotion m).wind.silence = m.wind.silence.map (fun n => min 2000 (n + 1)) :=
  ⟨runTo_eq_min _ _, runToIfRunning_eq_map _ _⟩

theorem tickAct_timers (r : ActRec) :
    (tickAct r).stallTimer = r.stallTimer.map (fun n => min 500 (n + 1))
    ∧ (tickAct r).overTimer = r.overTimer.map (fun n => min 200 (n + 1))
    ∧ (tickAct r).pauseTimer = r.pauseTimer.map (fun n => min 300 (n + 1)) :=
  ⟨runToIfRunning_eq_map _ _, runToIfRunning_eq_map _ _, runToIfRunning_eq_map _ _⟩

theorem tickLight_fadeTimer (l : LightCtl) : (tickLight l).fadeTimer = min 20 (l.fadeTimer + 1) := runTo_eq_min _ _

theorem tickPeer_silence (l : List PeerEntry) :
    (l.map tickPeer).map PeerEntry.silence = l.map (fun e => min 10000 (e.silence + 1)) := by
  rw [List.map_map]
  exact List.map_congr_left fun e _ => runTo_eq_min _ _

/-- A millisecond of a running part. -/
theorem tickMs_of_running {s : State} (h : s.running = true) : tickMs s =
    { s with
      boot := tickBoot s.boot, bank := tickBank s.bank
      peers := { s.peers with entries := s.peers.entries.map tickPeer }
      budget := tickBudget s.boot.station s.budget, zone := tickZone s.zone
      water := tickWater s.water, motion := tickMotion s.motion, light := tickLight s.light
      clock := s.clock + 1 } := if_pos h

/-- A millisecond before the blocks run. -/
theorem tickMs_of_not_running {s : State} (h : s.running = false) :
    tickMs s = { s with boot := tickBoot s.boot, clock := s.clock + 1 } := if_neg (by simp [h])

/-- The line as O2 has it after a cell is the line of `tick`. -/
theorem line_after_cell (s : State) :
    (if s.running = true ∧ s.line.sender = .header then
        { s.line with
          sentCells := min 17 (s.line.sentCells + 1)
          sender := if 17 ≤ s.line.sentCells + 1 then .body else .header }
      else s.line) = if s.running then tickLine s.line else s.line := by
  cases hr : s.running
  · rw [if_neg (fun h => absurd h.1 nofun)]
    rfl
  · by_cases hh : s.line.sender = .header
    · rw [if_pos ⟨rfl, hh⟩, if_pos rfl, tickLine, hh]
      simp only [runTo_eq_min, Config.headerCells]
      rfl
    · rw [if_neg (fun h => hh h.2), if_pos rfl, tickLine]
      split
      · next h => exact absurd h hh
      all_goals rfl

/-- Settles O2, a running part and one that is not apart. -/
theorem idleStepLetsOneCellPass : Obligations.IdleStepLetsOneCellPass := by
  rintro s line hpending hline
  rw [line_after_cell] at hline
  have hcell : (if s.running then s.setLine (tickLine s.line) else s) = s.setLine line := by
    subst hline
    cases s.running <;> rfl
  have htick : tick s = if 50 ≤ s.cells + 1 then { tickMs (s.setLine line) with cells := 0 }
      else { s.setLine line with cells := s.cells + 1 } := by
    unfold tick
    simp only [hcell]
    rfl
  rw [step_of_empty_queue s hpending, htick]
  refine ⟨fun h => by rw [if_neg (by omega)]; rfl, fun h => ⟨_, rfl, ?_⟩⟩
  rw [if_pos h]
  cases hrun : s.running with
  | true =>
    have hphase : s.boot.phase = .running := by simpa [State.running] using hrun
    rw [tickMs_of_running (s := s.setLine line) hrun]
    obtain ⟨hsample, hderate, hbattery⟩ := tickBank_timers s.bank
    obtain ⟨hclaim, hdwell⟩ := tickBudget_timers s.boot.station s.budget
    obtain ⟨hown, hretry, hadmitted⟩ := tickBudget_kept s.boot.station s.budget
    obtain ⟨hperiod, hwindow⟩ := tickZone_timers s.zone
    obtain ⟨htankPeriod, htanks, hpump, hfrost⟩ := tickWater_timers s.water
    obtain ⟨hmotion, hwind⟩ := tickMotion_timers s.motion
    have hloads (i : Fin 17) := tickBudget_loads s.boot.station s.budget i
    have hacts (a : Actuator) := act_tickMotion s.motion a
    refine ⟨rfl, rfl, hpending, rfl, rfl, rfl, rfl, hown, hretry, hadmitted, rfl, fun i => ⟨?_, ?_⟩, fun a => ?_,
      fun _ => ⟨hsample, hderate, hbattery, hclaim, hperiod, hwindow, htankPeriod, htanks, hmotion,
        tickLight_fadeTimer s.light, tickPeer_silence s.peers.entries, tickBoot_listenTimer hphase, hdwell,
        fun i => ?_, hpump, hfrost, hwind, fun a => ?_⟩, nofun⟩
    · exact (congrArg LoadRecord.state (hloads i)).trans rfl
    · exact (congrArg LoadRecord.claim (hloads i)).trans rfl
    · simp only [State.setLine_motion, hacts]
      exact tickAct_kept _
    · exact (congrArg LoadRecord.hold (hloads i)).trans (tickLoad_hold _)
    · obtain ⟨hstall, hover, hpause⟩ := tickAct_timers (act s.motion a)
      simp only [State.setLine_motion, hacts]
      exact ⟨hstall, hover, hpause, fun l hl => tickAct_travelTimer hl⟩
  | false =>
    have hphase : s.boot.phase ≠ .running := by simpa [State.running] using hrun
    rw [tickMs_of_not_running (s := s.setLine line) hrun]
    exact ⟨rfl, rfl, hpending, rfl, rfl, rfl, rfl, rfl, rfl, rfl, rfl, fun i => ⟨rfl, rfl⟩,
      fun a => ⟨rfl, rfl, rfl⟩, nofun,
      fun _ => ⟨rfl, rfl, rfl, rfl, rfl, rfl, rfl, tickBoot_readTimer hphase⟩⟩

theorem reset_light (n : Fin 8) : State.reset.light.channels[n].load = .off := by
  revert n
  decide

/-- Settles O5, block by block. -/
theorem resetMeetsEveryInvariant : Obligations.ResetMeetsEveryInvariant := by
  obtain ⟨hbudget, hmirror, hpump, hstorage⟩ : LoadsSound State.reset :=
    loadsSound_of_checks _ (by decide +kernel) (by decide +kernel)
  exact
    { budget := hbudget, mirror := hmirror, pump := hpump, storage := hstorage
      line := ⟨by decide, fun _ _ => Nat.zero_le 1, by decide, fun _ => ⟨rfl, rfl⟩⟩
      heaters := ⟨by decide, rfl⟩
      lights := fun n => ⟨by revert n; decide, by revert n; decide, fun r h => absurd (h.symm.trans (reset_light n)) nofun⟩
      lamps := nofun
      motion := ⟨nofun, nofun⟩
      bank := nofun
      peers := ⟨by decide, .nil, nofun⟩
      view := ⟨rfl, rfl, rfl, rfl, rfl, rfl, rfl, rfl, rfl, rfl, rfl, rfl⟩
      quiet := fun _ => ⟨rfl, rfl, rfl, rfl, rfl, rfl, rfl, rfl, rfl⟩ }

/-! ## The tank filter and the tank states -/

theorem filterStep_cast {f raw : Nat} : (filterStep f raw : Int) = f + ((raw : Int) - f) / 8 := by
  unfold filterStep
  omega

theorem deriveFresh_empty_iff (level : Nat) (before : TankState) :
    deriveFresh level before = .empty ↔ level < 30 ∨ level < 50 ∧ before = .empty := by
  unfold deriveFresh
  split_ifs <;> simp_all

theorem deriveFresh_low_iff (level : Nat) (before : TankState) :
    deriveFresh level before = .low ↔ ¬ (level < 30 ∨ level < 50 ∧ before = .empty)
      ∧ (level < 150 ∨ level < 170 ∧ (before = .low ∨ before = .empty)) := by
  unfold deriveFresh
  split_ifs <;> grind

theorem deriveFresh_normal_iff (level : Nat) (before : TankState) :
    deriveFresh level before = .normal ↔ 170 ≤ level ∨ 150 ≤ level ∧ before ≠ .low ∧ before ≠ .empty := by
  unfold deriveFresh
  split_ifs <;> grind

theorem deriveWaste_full_iff (level : Nat) (before : TankState) :
    deriveWaste level before = .full ↔ 950 < level ∨ 930 < level ∧ before = .full := by
  unfold deriveWaste
  split_ifs <;> simp_all

theorem deriveWaste_high_iff (level : Nat) (before : TankState) :
    deriveWaste level before = .high ↔ ¬ (950 < level ∨ 930 < level ∧ before = .full)
      ∧ (800 < level ∨ 780 < level ∧ (before = .high ∨ before = .full)) := by
  unfold deriveWaste
  split_ifs <;> grind

theorem deriveWaste_normal_iff (level : Nat) (before : TankState) :
    deriveWaste level before = .normal ↔ level ≤ 780 ∨ level ≤ 800 ∧ before ≠ .high ∧ before ≠ .full := by
  unfold deriveWaste
  split_ifs <;> grind

/-- Settles O31: the filter by integer division, the states by the branches of their derivation. -/
theorem tankFilterAndStatesFollowTheLevel : Obligations.TankFilterAndStatesFollowTheLevel := by
  refine ⟨fun f raw hf hraw => ?filter, fun level before hlevel => ?states⟩
  case filter =>
    have hstep : filterAfter false raw (some f) = filterStep f raw := rfl
    have hcast := filterStep_cast (f := f) (raw := raw)
    have hdiv : Int.fdiv ((raw : Int) - f) 8 = ((raw : Int) - f) / 8 :=
      Int.fdiv_eq_ediv_of_nonneg _ (by decide)
    rw [hstep, hdiv]
    refine ⟨rfl, rfl, rfl, hcast, ?_, ?_, ⟨fun h => ?_, fun h => ?_⟩, fun h => ?_⟩ <;> omega
  case states =>
    exact ⟨deriveFresh_empty_iff level before, deriveFresh_low_iff level before, deriveFresh_normal_iff level before,
      deriveWaste_full_iff level before, deriveWaste_high_iff level before, deriveWaste_normal_iff level before⟩

/-! ## The parameters of a record -/

theorem le_clipNat {lo hi : Nat} (h : lo ≤ hi) (n : Nat) : lo ≤ clipNat lo hi n := by
  rw [clipNat_eq_max_min h]
  exact le_max_left lo _

theorem natAt8_le (b : List Byte) (n : Nat) : natAt8 b n ≤ 255 := Nat.le_of_lt_succ (byteAt b n).isLt

theorem natAt16_le (b : List Byte) (n : Nat) : natAt16 b n ≤ 65535 := Nat.le_of_lt_succ (wordAt b n).isLt

theorem recZoneParams_ranges (b : List Byte) (n : Nat) :
    (recZoneParams b n).kp ≤ 255 ∧ (recZoneParams b n).ki ≤ 255 ∧ (recZoneParams b n).rated ≤ 65535 := by
  unfold recZoneParams
  split
  · exact ⟨natAt8_le b _, natAt8_le b _, natAt16_le b _⟩
  · decide

theorem recActuator_ranges (b : List Byte) (hosted : Bool) (start : Nat) (sin sout : BitVec 2) :
    1 ≤ (recActuator b hosted start sin sout).length ∧ (recActuator b hosted start sin sout).length ≤ 65535
    ∧ 1 ≤ (recActuator b hosted start sin sout).timeout ∧ (recActuator b hosted start sin sout).timeout ≤ 255
    ∧ (recActuator b hosted start sin sout).outLimit ≤ 65535
    ∧ (recActuator b hosted start sin sout).inLimit ≤ 65535
    ∧ (recActuator b hosted start sin sout).rated ≤ 65535 := by
  unfold recActuator
  split
  · exact ⟨le_clipNat (by omega) _, clipNat_le (by omega) _, le_clipNat (by omega) _, clipNat_le (by omega) _,
      natAt16_le b _, natAt16_le b _, natAt16_le b _⟩
  · decide

/-- A wind meter is hosted beside the awning only, and its parameters lie in their ranges (R111). -/
theorem recWindParams_ranges (b : List Byte) (h : (recWindParams b).hosted = true) :
    recAwning b = true ∧ 1 ≤ (recWindParams b).kw ∧ (recWindParams b).kw ≤ 65535
    ∧ 1 ≤ (recWindParams b).threshold ∧ (recWindParams b).threshold ≤ 65535 := by
  unfold recWindParams at h ⊢
  split at h
  · next hw =>
    rw [if_pos hw]
    exact ⟨(Bool.and_eq_true_iff.mp hw).2, le_clipNat (by omega) _, clipNat_le (by omega) _,
      le_clipNat (by omega) _, clipNat_le (by omega) _⟩
  · cases h

theorem recActuator_hosted (b : List Byte) (hosted : Bool) (start : Nat) (sin sout : BitVec 2) :
    (recActuator b hosted start sin sout).hosted = hosted := by
  cases hosted <;> rfl

theorem recTankParams_table (b : List Byte) (hosted : Bool) (n : Nat)
    (h : (recTankParams b hosted n).hosted = true) :
    (recTankParams b hosted n).table.length = 5
    ∧ ∀ x ∈ (recTankParams b hosted n).table, 0 ≤ x.x ∧ x.x ≤ 4095 ∧ 0 ≤ x.y ∧ x.y ≤ 1000 := by
  cases hosted with
  | false => cases h
  | true =>
    change (recTank b n).length = 5 ∧ ∀ x ∈ recTank b n, _
    unfold recTank points
    refine ⟨by simp, fun x hx => ?_⟩
    obtain ⟨k, _, rfl⟩ := List.mem_map.mp hx
    have hx' := natAt8_le b (108 + 10 * n + 2 * k)
    have hy := clipNat_le (show 0 ≤ 1000 by decide) (4 * natAt8 b (108 + 10 * n + 2 * k + 1))
    refine ⟨?_, ?_, ?_, ?_⟩ <;> simp only <;> omega

theorem recChannel_ranges (b : List Byte) (n : Nat) :
    (recChannel b n).rated ≤ 65535 ∧ 1 ≤ (recChannel b n).defaultLevel ∧ (recChannel b n).defaultLevel ≤ 255
    ∧ (recChannel b n).ceiling ≤ 255 ∧ 1 ≤ (recChannel b n).fadeStep ∧ (recChannel b n).fadeStep ≤ 255 := by
  unfold recChannel
  simp only
  split
  · exact ⟨natAt16_le b _, le_clipNat (by omega) _, clipNat_le (by omega) _, natAt8_le b _,
      le_clipNat (by omega) _, clipNat_le (by omega) _⟩
  · decide

theorem recBankParams_ranges (b : List Byte) (p : BankParams) (h : recBankParams b = some p) :
    10 ≤ p.cn ∧ p.cn ≤ 1000 ∧ 200 ≤ p.eta ∧ p.eta ≤ 256 ∧ p.restThreshold ≤ 32000
    ∧ 600 ≤ p.restTime ∧ p.restTime ≤ 65535 ∧ p.limit ≤ 65535 := by
  obtain ⟨l, _, rfl⟩ := Option.map_eq_some_iff.mp h
  exact ⟨le_clipNat (by omega) _, clipNat_le (by omega) _, le_clipNat (by omega) _, clipNat_le (by omega) _,
    clipNat_le (lo := 0) (by decide) _, le_clipNat (by omega) _, clipNat_le (by omega) _, natAt16_le b _⟩

/-- The pump and the frost function are hosted beside the fresh tank only (R86). -/
theorem recWater_fresh (b : List Byte) (h : (recWater b).pump = true ∨ (recWater b).frost = true) :
    (recWater b).fresh.hosted = true := by
  have hfresh : recFresh b = true := by
    rcases h with h | h
    · exact (Bool.and_eq_true_iff.mp h).2
    · exact (Bool.and_eq_true_iff.mp h).2
  simp [recWater, recTankParams, hfresh]

/-- Settles O16, parameter by parameter. -/
theorem parametersLieInTheirRanges : Obligations.ParametersLieInTheirRanges := by
  intro b
  have hrated (hosted : Bool) (n : Nat) : (if hosted then natAt16 b n else 0) ≤ 65535 := by
    split
    · exact natAt16_le b n
    · decide
  refine ⟨recBankParams_ranges b, fun c => ?classes, natAt16_le b 88, fun n => ?zones, fun a => ?acts,
    fun h => ?wind, hrated _ _, hrated _ _, hrated _ _, recWater_fresh b, fun q hq => ?tanks, fun n => ?channels⟩
  case classes =>
    cases c with
    | c0 => exact ⟨Nat.zero_le _, Nat.zero_le _, Nat.le_refl 256⟩
    | c1 | c2 | c3 =>
      exact ⟨clipNat_le (lo := 0) (hi := 1000) (by decide) _, clipNat_le (lo := 0) (hi := 1000) (by decide) _,
        clipNat_le (lo := 0) (hi := 256) (by decide) _⟩
  case zones => simpa [paramsOfRecord] using recZoneParams_ranges b n.val
  case acts => cases a <;> exact recActuator_ranges b _ _ _ _
  case wind =>
    obtain ⟨hawning, hranges⟩ := recWindParams_ranges b h
    exact ⟨(recActuator_hosted b _ _ _ _).trans hawning, hranges⟩
  case tanks =>
    have htank (hosted : Bool) (n : Nat) (hq : q = recTankParams b hosted n) :
        q.hosted = true → q.table.length = 5 ∧ ∀ x ∈ q.table, 0 ≤ x.x ∧ x.x ≤ 4095 ∧ 0 ≤ x.y ∧ x.y ≤ 1000 := by
      subst hq
      exact recTankParams_table b hosted n
    simp only [List.mem_cons, List.not_mem_nil, or_false] at hq
    rcases hq with hq | hq | hq
    · exact htank _ _ hq
    · exact htank _ _ hq
    · exact htank _ _ hq
  case channels => simpa [paramsOfRecord] using recChannel_ranges b n.val

/-! ## The check byte -/

/-- The check register is linear: what is added to it by exclusive-or moves on with it, its top bit meeting the
incoming bit. -/
theorem crcBit_xor (r x : Byte) (b : Bool) : crcBit (r ^^^ x) b = crcBit r (b ^^ x.msb) ^^^ (x <<< 1) := by
  have hbit : ((r ^^^ x).msb ^^ b) = (r.msb ^^ (b ^^ x.msb)) := by
    rw [BitVec.msb_xor]
    cases r.msb <;> cases b <;> cases x.msb <;> rfl
  unfold crcBit
  rw [hbit, BitVec.shiftLeft_xor_distrib]
  split
  · rw [BitVec.xor_assoc, BitVec.xor_comm (x <<< 1), BitVec.xor_assoc]
  · rfl

/-- The register with a byte added by exclusive-or takes a 0 as the register takes the byte's top bit. -/
theorem crcBit_xor_shiftLeft (r b : Byte) (k : Nat) :
    crcBit (r ^^^ (b <<< k)) false = crcBit r (b <<< k).msb ^^^ (b <<< (k + 1)) := by
  rw [crcBit_xor, Bool.false_xor, BitVec.shiftLeft_add]

/-- A byte shifted into the register meets it by exclusive-or. -/
theorem crcByte_eq (r b : Byte) : crcByte r b = crcByte (r ^^^ b) 0#8 := by
  have hmsb (k : Nat) (hk : k < 8) : (b <<< k).msb = b.getLsbD (7 - k) := by
    rw [BitVec.msb_eq_getLsbD_last, BitVec.getLsbD_shiftLeft]
    simp [show ¬ 7 < k by omega]
  have hzero : b <<< 8 = 0#8 := BitVec.shiftLeft_eq_zero (Nat.le_refl 8)
  have hstart : r ^^^ b = r ^^^ (b <<< 0) := by rw [BitVec.shiftLeft_zero]
  unfold crcByte
  simp only [List.foldl_cons, List.foldl_nil, BitVec.getLsbD_zero]
  rw [hstart]
  simp only [crcBit_xor_shiftLeft, hzero, BitVec.xor_zero]
  rw [hmsb 0 (by decide), hmsb 1 (by decide), hmsb 2 (by decide), hmsb 3 (by decide), hmsb 4 (by decide),
    hmsb 5 (by decide), hmsb 6 (by decide), hmsb 7 (by decide)]

theorem crcBit_eq_zero_iff : ∀ r : Byte, crcBit r false = 0#8 ↔ r = 0#8 := by decide +kernel

theorem crcByte_zero_iff (x : Byte) : crcByte x 0#8 = 0#8 ↔ x = 0#8 := by
  simp only [crcByte, List.foldl_cons, List.foldl_nil, BitVec.getLsbD_zero, crcBit_eq_zero_iff]

/-- Settles O60: the register meets the check byte by exclusive-or, and only 0 runs on to 0. -/
theorem checkByteClosesTheFrame : Obligations.CheckByteClosesTheFrame := by
  intro h payload check
  rw [List.foldl_append]
  change crcByte (checkByte h payload) check = 0#8 ↔ _
  rw [crcByte_eq, crcByte_zero_iff, BitVec.xor_eq_zero_iff, eq_comm]

end Sys2Proof.Machine

/-! The line interface: the transmit queue's table, the beginning and the end of a frame, and the receive checks. -/

namespace Sys2Proof.Machine

-- As in the tests, so that no command needs threads of its own.
set_option Elab.async false

theorem countUp_eq_min (n : Nat) : countUp n = min 65535 (n + 1) := by
  unfold countUp
  split <;> omega

/-! ## The transmit queue -/

theorem coalesces_eq_decide (k : Kind) :
    coalesces k = decide (k ∈ [Kind.claim, .battery, .motion, .tanks, .climate, .alert]) := by cases k <;> rfl

theorem isStatus_eq_decide (k : Kind) : isStatus k = decide (k ∈ [Kind.motion, .tanks, .climate]) := by
  cases k <;> rfl

theorem displaces_eq_decide (k : Kind) :
    displaces k = decide (k ∈ [Kind.reply, .alert, .claim, .battery]) := by cases k <;> rfl

theorem not_displaces_of_isStatus {k : Kind} (h : isStatus k = true) : displaces k = false := by
  cases k with
  | motion | tanks | climate => rfl
  | _ => cases h

theorem queued_iff (l : Line) (k : Kind) : queued l k = true ↔ ∃ e ∈ l.queue, e.telegram.kind = k := by
  simp [queued]

/-- What a fold over a list keeps at its end is no older than where it began and than any entry on its way. -/
theorem foldl_oldest (l : List TxEntry) (b : TxEntry) :
    ∃ x : TxEntry, l.foldl (fun best e =>
        match best with
        | none => some e
        | some b => if e.age < b.age then some e else some b) (some b) = some x
      ∧ x.age ≤ b.age ∧ ∀ y ∈ l, x.age ≤ y.age := by
  induction l generalizing b with
  | nil => exact ⟨b, rfl, Nat.le_refl _, nofun⟩
  | cons e l ih =>
    by_cases h : e.age < b.age
    · obtain ⟨x, hx, hb, hl⟩ := ih e
      refine ⟨x, by simpa only [List.foldl_cons, if_pos h] using hx, by omega, ?_⟩
      exact List.forall_mem_cons.mpr ⟨hb, hl⟩
    · obtain ⟨x, hx, hb, hl⟩ := ih b
      refine ⟨x, by simpa only [List.foldl_cons, if_neg h] using hx, hb, ?_⟩
      exact List.forall_mem_cons.mpr ⟨by omega, hl⟩

/-- A queue with a status entry has an oldest one. -/
theorem isOldestStatus_oldestStatus {q : List TxEntry} (h : ∃ e ∈ q, isStatus e.telegram.kind = true) :
    ∃ old : TxEntry, oldestStatus q = some old ∧ IsOldestStatus q old := by
  obtain ⟨e, hmem, hstatus⟩ := h
  have hfilter : e ∈ q.filter fun x => isStatus x.telegram.kind := List.mem_filter.mpr ⟨hmem, hstatus⟩
  obtain ⟨b, rest, hrest⟩ := List.exists_cons_of_ne_nil (List.ne_nil_of_mem hfilter)
  obtain ⟨old, hfold, hb, hage⟩ := foldl_oldest rest b
  have hold : oldestStatus q = some old := by
    unfold oldestStatus
    rw [hrest]
    exact hfold
  obtain ⟨hmemOld, hstatusOld⟩ := oldestStatus_mem q old hold
  refine ⟨old, hold, hmemOld, hstatusOld, fun x hx hsx => ?_⟩
  have hx' : x ∈ b :: rest := hrest ▸ List.mem_filter.mpr ⟨hx, hsx⟩
  rcases List.mem_cons.mp hx' with rfl | hx'
  · exact hb
  · exact hage x hx'

theorem oldestStatus_eq_none {q : List TxEntry} (h : ∀ e ∈ q, isStatus e.telegram.kind = false) :
    oldestStatus q = none := by
  have hfilter : (q.filter fun x => isStatus x.telegram.kind) = [] :=
    List.filter_eq_nil_iff.mpr fun e he => by rw [h e he]; nofun
  unfold oldestStatus
  rw [hfilter]
  rfl

/-- The table of R166, line by line, for an entry of which none of its kind is queued, or whose kind is not one of
the six. -/
structure TakenByTable (l : Line) (e : TxEntry) (m : Line) : Prop where
  statusFull : isStatus e.telegram.kind = true → 6 ≤ l.queue.length → m = { l with txDropped := countUp l.txDropped }
  room : isStatus e.telegram.kind = true ∧ l.queue.length < 6
      ∨ isStatus e.telegram.kind = false ∧ l.queue.length < 8 → m = { l with queue := l.queue ++ [e] }
  displaced : displaces e.telegram.kind = true → 8 ≤ l.queue.length →
    (∃ x ∈ l.queue, isStatus x.telegram.kind = true) → ∃ old : TxEntry, IsOldestStatus l.queue old
      ∧ m = { l with queue := l.queue.erase old ++ [e], txDropped := countUp l.txDropped }
  full : 8 ≤ l.queue.length →
    displaces e.telegram.kind = false ∨ (∀ x ∈ l.queue, isStatus x.telegram.kind = false) →
    m = { l with txDropped := countUp l.txDropped }

theorem enqueue_of_queued {l : Line} {e : TxEntry} (h : (coalesces e.telegram.kind && queued l e.telegram.kind) = true) :
    enqueue l e = { l with queue := replaceContent l.queue e.telegram } := if_pos h

theorem takenByTable_enqueue {l : Line} {e : TxEntry}
    (h : (coalesces e.telegram.kind && queued l e.telegram.kind) = false) : TakenByTable l e (enqueue l e) := by
  have henqueue : enqueue l e = if isStatus e.telegram.kind && decide (6 ≤ l.queue.length) then
        { l with txDropped := countUp l.txDropped }
      else if l.queue.length < 8 then { l with queue := l.queue ++ [e] }
      else if displaces e.telegram.kind then
        match oldestStatus l.queue with
        | some old => { l with queue := l.queue.erase old ++ [e], txDropped := countUp l.txDropped }
        | none => { l with txDropped := countUp l.txDropped }
      else { l with txDropped := countUp l.txDropped } := by
    unfold enqueue
    rw [if_neg (by rw [h]; nofun)]
    rfl
  rw [henqueue]
  constructor
  case statusFull =>
    intro hstatus hlen
    rw [if_pos (by simp [hstatus, hlen])]
  case room =>
    rintro (⟨hstatus, hlen⟩ | ⟨hstatus, hlen⟩)
    · rw [if_neg (by simp [hstatus]; omega), if_pos (by omega)]
    · rw [if_neg (by simp [hstatus]), if_pos hlen]
  case displaced =>
    intro hdisplaces hlen hsome
    have hstatus : isStatus e.telegram.kind = false :=
      Bool.eq_false_iff.mpr fun hs => absurd (hdisplaces.symm.trans (not_displaces_of_isStatus hs)) nofun
    obtain ⟨old, hold, holdest⟩ := isOldestStatus_oldestStatus hsome
    refine ⟨old, holdest, ?_⟩
    rw [if_neg (by simp [hstatus]), if_neg (by omega), if_pos hdisplaces, hold]
  case full =>
    rintro hlen (hdisplaces | hnone)
    · rw [if_neg (c := l.queue.length < 8) (by omega), hdisplaces]
      split <;> rfl
    · rw [if_neg (c := l.queue.length < 8) (by omega), oldestStatus_eq_none hnone]
      split
      · rfl
      · split <;> rfl

theorem replaceContent_eq (q : List TxEntry) (t : Telegram) :
    replaceContent q t = q.map fun e =>
      if e.telegram.kind = t.kind then { telegram := t, age := e.age, attempts := e.attempts } else e := by
  unfold replaceContent
  refine List.map_congr_left fun e _ => ?_
  by_cases h : e.telegram.kind = t.kind <;> simp [h]

/-- The entry a handed telegram becomes (R166). -/
def newEntry (l : Line) (t : Telegram) : TxEntry := { telegram := t, age := l.nextAge, attempts := 0 }

/-- Settles O59: both go through the one table, the telegram handed over with the next age, the telegram returned
only where none of its kind has been queued since. -/
theorem transmitQueueFollowsItsTable : Obligations.TransmitQueueFollowsItsTable := by
  have hqueued {l : Line} {k : Kind} (hs : coalesces k = true) (hp : ∃ e ∈ l.queue, e.telegram.kind = k) :
      (coalesces k && queued l k) = true := by rw [hs, (queued_iff l k).mpr hp]; rfl
  have hnot {l : Line} {k : Kind} (h : coalesces k = false ∨ ¬ ∃ e ∈ l.queue, e.telegram.kind = k) :
      (coalesces k && queued l k) = false := by
    rcases h with h | h
    · rw [h]; rfl
    · rw [Bool.eq_false_iff.mpr (fun hq => h ((queued_iff l k).mp hq)), Bool.and_false]
  refine ⟨fun l t => ?taken, fun l e => ?returned, fun l t e m hlen hkinds hm => ?bounds⟩
  case taken =>
    simp only [← coalesces_eq_decide, ← isStatus_eq_decide, ← displaces_eq_decide, ← countUp_eq_min]
    refine ⟨fun hs hp => ?_, fun h => ?_⟩
    · have hline := enqueue_of_queued (l := { l with nextAge := l.nextAge + 1 }) (e := newEntry l t) (hqueued hs hp)
      rw [replaceContent_eq] at hline
      exact hline
    · obtain ⟨hstatus, hroom, hdisplaced, hfull⟩ :=
        takenByTable_enqueue (l := { l with nextAge := l.nextAge + 1 }) (e := newEntry l t) (hnot h)
      exact ⟨hstatus, hroom, hdisplaced, hfull⟩
  case returned =>
    simp only [← coalesces_eq_decide, ← isStatus_eq_decide, ← displaces_eq_decide, ← countUp_eq_min]
    refine ⟨fun hs hp => if_pos (hqueued hs hp), fun h => ?_⟩
    have hreturn : returnTelegram l e = enqueue l e := if_neg (by rw [hnot h]; nofun)
    obtain ⟨hstatus, hroom, hdisplaced, hfull⟩ := takenByTable_enqueue (hnot h)
    rw [hreturn]
    exact ⟨hstatus, hroom, hdisplaced, hfull⟩
  case bounds =>
    rcases hm with rfl | rfl
    · exact queueOk_takeTelegram l t ⟨hlen, hkinds⟩
    · exact queueOk_returnTelegram l e ⟨hlen, hkinds⟩

/-! ## The beginning of a frame -/

theorem goesBefore_iff (a b : TxEntry) : goesBefore a b = true ↔
    a.telegram.header.toNat < b.telegram.header.toNat
    ∨ a.telegram.header = b.telegram.header ∧ a.age < b.age := by simp [goesBefore]

/-- The entry to be sent next is the one that goes first (R162). -/
theorem nextToSend_goesFirst {q : List TxEntry} (h : q ≠ []) :
    ∃ e : TxEntry, nextToSend q = some e ∧ GoesFirst q e := by
  induction q with
  | nil => exact absurd rfl h
  | cons e rest ih =>
    by_cases hrest : rest = []
    · subst hrest
      exact ⟨e, rfl, by simp [GoesFirst]⟩
    · obtain ⟨b, hb, hmem, hfirst⟩ := ih hrest
      have hnext : nextToSend (e :: rest) = if goesBefore b e then some b else some e := by
        rw [nextToSend, hb]
      rw [hnext]
      by_cases hbe : goesBefore b e = true
      · refine ⟨b, if_pos hbe, List.mem_cons_of_mem _ hmem, List.forall_mem_cons.mpr ⟨?_, hfirst⟩⟩
        rcases (goesBefore_iff b e).mp hbe with hlt | ⟨heq, hage⟩
        · exact ⟨hlt.le, fun heq => absurd (congrArg BitVec.toNat heq) hlt.ne'⟩
        · exact ⟨(congrArg BitVec.toNat heq).le, fun _ => hage.le⟩
      · have hnb := mt (goesBefore_iff b e).mpr hbe
        push Not at hnb
        obtain ⟨hhead, hage⟩ := hnb
        refine ⟨e, if_neg hbe, List.mem_cons_self, List.forall_mem_cons.mpr ⟨⟨le_rfl, fun _ => le_rfl⟩, fun x hx => ?_⟩⟩
        obtain ⟨hxh, hxa⟩ := hfirst x hx
        refine ⟨hhead.trans hxh, fun heq => ?_⟩
        have hbx : b.telegram.header = e.telegram.header := by
          refine BitVec.eq_of_toNat_eq ?_
          rw [heq] at hxh
          omega
        exact (hage hbx).trans (hxa (heq.trans hbx.symm))

/-- On a line that is IDLE with an empty send register a frame begins with the entry that goes first. -/
theorem beginFrame_of_idle {l : Line} (hidle : l.idle = true) (hregister : l.register = none) (hq : l.queue ≠ []) :
    ∃ e : TxEntry, GoesFirst l.queue e ∧ beginFrame l = { l with
      queue := l.queue.erase e, register := some e, sender := .header, sentCells := 0, idle := false
      receiver := .receiving } := by
  obtain ⟨e, he, hfirst⟩ := nextToSend_goesFirst hq
  refine ⟨e, hfirst, ?_⟩
  unfold beginFrame
  rw [if_pos (by simp [hidle, hregister]), he]

theorem beginFrame_of_empty {l : Line} (hq : l.queue = []) : beginFrame l = l := by
  unfold beginFrame
  rw [hq]
  split <;> rfl

/-- The line as it becomes IDLE, with the count of frames ended early. -/
def idleLine (l : Line) (early : Nat) : Line := { l with rxCheck := early, idle := true, receiver := .waiting }

/-- Settles O56: LINE_IDLE by whether a telegram waits, the others by their guards. -/
theorem lineAndReceiverFollowTheLine : Obligations.LineAndReceiverFollowTheLine := by
  refine ⟨fun s hrun hsender hregister early hearly => ?idle, fun s hrun => ⟨fun h => ?edge, fun h => ?busy, fun h =>
    ⟨fun f hf => ?fault, ?long⟩⟩⟩
  case idle =>
    have hstart : (if s.line.receiver = .receiving then countRxCheck s.line else s.line)
        = { s.line with rxCheck := early } := by
      rw [hearly, ← countUp_eq_min]
      split <;> rfl
    have hexec : exec .lineIdle s = .next (s.setLine (beginFrame (idleLine s.line early))) := by
      change execLineIdle s = _
      unfold execLineIdle lineGoesIdle
      rw [if_pos (by simp [hrun, hsender]), hstart]
      rfl
    rw [hexec]
    refine ⟨fun hq => ?_, fun hq => ?_⟩
    · rw [beginFrame_of_empty (l := idleLine s.line early) hq]
      rfl
    · obtain ⟨e, hfirst, hbegin⟩ := beginFrame_of_idle (l := idleLine s.line early) rfl hregister hq
      exact ⟨e, hfirst, by rw [hbegin]; rfl⟩
  case edge =>
    change execLineFallingEdge s = _
    exact congrArg Host.Outcome.next (if_pos (by simp [hrun, h]))
  case busy =>
    change execLineFallingEdge s = _
    exact congrArg Host.Outcome.next (if_neg (by simp [h]))
  case fault =>
    change execReceiveError f s = _
    unfold execReceiveError
    rw [if_pos (by simp [hrun, h]), ← countUp_eq_min]
    rcases hf with rfl | rfl
    · rfl
    · rfl
  case long =>
    change execReceiveError .lengthAbove12 s = _
    unfold execReceiveError
    rw [if_pos (by simp [hrun, h]), ← countUp_eq_min]
    rfl

/-! ## The end of a frame -/

/-- Settles O58: by the sender's state, and a collision by the attempts made. -/
theorem senderEndsItsFrame : Obligations.SenderEndsItsFrame := by
  have hcollision (s : State) (e : TxEntry) (hrun : s.running = true) (hregister : s.line.register = some e)
      (hsender : s.line.sender ≠ .idle) : exec .txCollision s = .next (s.setLine (collide s.line e)) := by
    change execTxCollision s = _
    unfold execTxCollision
    rw [hregister]
    exact congrArg Host.Outcome.next (if_pos (by simp [hrun, hsender]))
  refine ⟨fun s e hrun hregister => ⟨fun hsender => ?lost, fun hsender => ?body, fun hsender =>
    ⟨fun hattempts => ?again, fun hattempts => ?exhausted⟩⟩, fun s hrun hsender => ⟨.discarding, nofun, ?sent⟩⟩
  case lost =>
    change execContentionLoss s = _
    unfold execContentionLoss
    rw [hregister, ← countUp_eq_min]
    exact congrArg Host.Outcome.next (if_pos (by simp [hrun, hsender]))
  case body =>
    change execContentionLoss s = _
    unfold execContentionLoss
    rw [hregister]
    exact congrArg Host.Outcome.next (if_neg (by simp [hsender]))
  case again => rw [hcollision s e hrun hregister hsender, collide, if_neg (by omega), countUp_eq_min]; rfl
  case exhausted =>
    rw [hcollision s e hrun hregister hsender, collide, if_pos (by omega), countUp_eq_min, countUp_eq_min]
    rfl
  case sent =>
    change execFrameSent s = _
    exact congrArg Host.Outcome.next (if_pos (by simp [hrun, hsender]))

/-! ## The receive checks -/

theorem exec_frameReceived_of_receiving {s : State} (hrun : s.running = true) (hreceiver : s.line.receiver = .receiving)
    (hsender : s.line.sender = .idle) (h : Word) (payload : List Byte) (check : Byte) :
    exec (.frameReceived h payload check) s = .next (receiveFrame h payload check s) := by
  change execFrameReceived h payload check s = _
  exact congrArg Host.Outcome.next (if_pos (by simp [hrun, hreceiver, hsender]))

/-- A frame of one of the twelve kinds whose length the kind does not have (R169). -/
def wrongLength (code : BitVec 6) (n : Nat) : Bool :=
  match kindOfCode code with
  | some k => !lengthFits k n
  | none => false

theorem badForm_eq (h : Word) (payload : List Byte) : badForm h payload =
    (headerUrgency h != (headerKind h).extractLsb' 4 2 || wrongLength (headerKind h) (headerLength h)
      || payload.length != headerLength h) := rfl

/-- The kinds and lengths of section 11.2, evaluated: a code of the table with a length it does not have. -/
theorem wrongLength_of_table : ∀ code ∈ [0x05#6, 0x06#6, 0x07#6, 0x18#6, 0x19#6, 0x1A#6, 0x24#6, 0x25#6, 0x26#6,
      0x31#6, 0x32#6, 0x33#6], ∀ n ∈ List.range 16,
    (code, n) ∉ [(0x05#6, 2), (0x06#6, 1), (0x07#6, 1), (0x1A#6, 1), (0x24#6, 5), (0x25#6, 11),
        (0x26#6, 10), (0x31#6, 11), (0x32#6, 12), (0x33#6, 12)]
      ++ ([0x18#6, 0x19#6].product [3, 4, 5, 6, 7, 8, 9, 10, 11, 12]) →
    wrongLength code n = true := by decide +kernel

theorem extract_urgency (h : Word) : (headerKind h).extractLsb' 4 2 = h.extractLsb' 12 2 := by
  refine BitVec.eq_of_getLsbD_eq fun i hi => ?_
  simp only [headerKind, BitVec.getLsbD_extractLsb']
  simp [show 4 + i < 6 by omega, ← Nat.add_assoc]

/-- A header whose urgency differs from its kind's, and a length the kind does not have, are a wrong form. -/
theorem badForm_of_fields {h : Word} {payload : List Byte} (hlen : payload.length = (h.extractLsb' 0 4).toNat)
    (hbad : h.extractLsb' 14 2 ≠ h.extractLsb' 12 2 ∨ wrongLength (h.extractLsb' 8 6) payload.length = true) :
    badForm h payload = true := by
  rw [badForm_eq, extract_urgency]
  rcases hbad with hbad | hbad
  · simp [headerUrgency, hbad]
  · rw [show wrongLength (headerKind h) (headerLength h) = true from (congrArg _ hlen.symm).trans hbad, Bool.or_true, Bool.true_or]

theorem beginFrame_rxClash (l : Line) : (beginFrame l).rxClash = l.rxClash := by
  unfold beginFrame
  split
  · split <;> rfl
  · rfl

theorem takeTelegram_rxClash (l : Line) (t : Telegram) : (takeTelegram l t).rxClash = l.rxClash := by
  unfold takeTelegram
  obtain ⟨q, n, hq⟩ := enqueue_rest { l with nextAge := l.nextAge + 1 } (newEntry l t)
  exact (congrArg Line.rxClash hq).trans rfl

theorem sendTelegram_rxClash (k : Kind) (p : List Byte) (s : State) :
    (sendTelegram k p s).line.rxClash = s.line.rxClash := by
  unfold sendTelegram
  split
  · rfl
  · rw [State.setLine_line, beginFrame_rxClash, takeTelegram_rxClash]

theorem raiseEvent_rxClash (e : Event) (s : State) : (raiseEvent e s).line.rxClash = s.line.rxClash := by
  unfold raiseEvent
  split
  · rfl
  · simp only
    split
    · rfl
    · exact sendTelegram_rxClash _ _ _

theorem inSet_raiseEvent (e : Event) (s : State) : inSet (raiseEvent e s).event.flags e = true := by
  cases h : inSet s.event.flags e with
  | true => rw [raiseEvent_of_set h, h]
  | false => rw [raiseEvent_event_of_clear h, inSet_flagSet, decide_eq_true rfl, Bool.true_or]

theorem receiveFrame_of_badCheck {s : State} {h : Word} {payload : List Byte} {check : Byte}
    (hcheck : checkFrame s.boot.station h payload check = .badCheck) :
    receiveFrame h payload check s = s.setLine (countRxCheck (frameEnded s).line) := by
  unfold receiveFrame
  rw [hcheck]
  rfl

theorem receiveFrame_of_badFormat {s : State} {h : Word} {payload : List Byte} {check : Byte}
    (hcheck : checkFrame s.boot.station h payload check = .badFormat) :
    receiveFrame h payload check s = s.setLine (countRxFormat (frameEnded s).line) := by
  unfold receiveFrame
  rw [hcheck]
  rfl

theorem receiveFrame_of_clash {s : State} {h : Word} {payload : List Byte} {check : Byte}
    (hcheck : checkFrame s.boot.station h payload check = .clash) :
    receiveFrame h payload check s = raiseEvent .clash (s.setLine
      { (frameEnded s).line with rxClash := countUp s.line.rxClash }) := by
  unfold receiveFrame
  rw [hcheck]
  rfl

/-- Settles O57: the checks of R169 in their order. -/
theorem badFramesAreCountedAndDropped : Obligations.BadFramesAreCountedAndDropped := by
  intro s h payload check hrun hreceiver hsender hlen
  rw [exec_frameReceived_of_receiving hrun hreceiver hsender]
  simp only [← countUp_eq_min]
  refine ⟨fun hbad => ?wrongCheck, fun hgood hbad => ?format, fun hgood hform horigin hown => ?clash⟩
  case wrongCheck => rw [receiveFrame_of_badCheck (if_pos hbad)]; rfl
  case format =>
    have hformat : checkFrame s.boot.station h payload check = .badFormat := by
      unfold checkFrame
      rw [if_neg (not_not_intro hgood)]
      rcases hbad with hbad | ⟨hmem, hnot⟩ | hbad
      · rw [if_pos (badForm_of_fields hlen (.inl hbad))]
      · obtain ⟨hcode, hn⟩ := List.pair_mem_product.mp hmem
        rw [if_pos (badForm_of_fields hlen (.inr (wrongLength_of_table _ hcode _ hn hnot)))]
      · split
        · rfl
        · exact if_pos hbad
    rw [receiveFrame_of_badFormat hformat]
    rfl
  case clash =>
    have hclash : checkFrame s.boot.station h payload check = .clash := by
      unfold checkFrame
      rw [if_neg (not_not_intro hgood), if_neg (by rw [hform]; nofun)]
      exact (if_neg horigin).trans (if_pos hown)
    refine ⟨_, rfl, ?_⟩
    rw [receiveFrame_of_clash hclash]
    refine ⟨raiseEvent_rxClash _ _, inSet_raiseEvent _ _, fun b hb => ?_⟩
    obtain ⟨hline, hevent⟩ : b ≠ .line ∧ b ≠ .event := by simpa using hb
    exact blockSame_trans (setLine_blockSame s _ hline) (raiseEvent_blockSame _ _ (by simp [hline, hevent]))

end Sys2Proof.Machine

/-! The load table: what each operation of the budget unit writes in it and in its two lists, and what keeps it
sound. -/

namespace Sys2Proof.Machine

-- As in the tests, so that no command needs threads of its own.
set_option Elab.async false

/-! ## One record written, the lists given -/

/-- The budget unit with record i written, its own totals following (R49), and with these two lists. -/
def place (b : Budget) (i : Fin 17) (r : LoadRecord) (retry admitted : List (Fin 17)) : Budget :=
  { b with loads := b.loads.set i r, own := ownTotals (b.loads.set i r), retry := retry, admitted := admitted }

theorem place_loads (b : Budget) (i j : Fin 17) (r : LoadRecord) (R A : List (Fin 17)) :
    (place b i r R A).loads[j] = if i = j then r else b.loads[j] := vector_get_set _ _ _ _

theorem place_loads_self (b : Budget) (i : Fin 17) (r : LoadRecord) (R A : List (Fin 17)) :
    (place b i r R A).loads[i] = r := (place_loads b i i r R A).trans (if_pos rfl)

theorem place_loads_ne (b : Budget) {i j : Fin 17} (h : i ≠ j) (r : LoadRecord) (R A : List (Fin 17)) :
    (place b i r R A).loads[j] = b.loads[j] := (place_loads b i j r R A).trans (if_neg h)

@[simp] theorem place_retry (b : Budget) (i : Fin 17) (r : LoadRecord) (R A : List (Fin 17)) :
    (place b i r R A).retry = R := by unfold place; rfl
@[simp] theorem place_admitted (b : Budget) (i : Fin 17) (r : LoadRecord) (R A : List (Fin 17)) :
    (place b i r R A).admitted = A := by unfold place; rfl
@[simp] theorem place_own (b : Budget) (i : Fin 17) (r : LoadRecord) (R A : List (Fin 17)) :
    (place b i r R A).own = ownTotals (place b i r R A).loads := by unfold place; rfl
@[simp] theorem place_shed (b : Budget) (i : Fin 17) (r : LoadRecord) (R A : List (Fin 17)) :
    (place b i r R A).shed = b.shed := by unfold place; rfl
@[simp] theorem place_gateOpen (b : Budget) (i : Fin 17) (r : LoadRecord) (R A : List (Fin 17)) :
    (place b i r R A).gateOpen = b.gateOpen := by unfold place; rfl
@[simp] theorem place_caps (b : Budget) (i : Fin 17) (r : LoadRecord) (R A : List (Fin 17)) :
    (place b i r R A).caps = b.caps := by unfold place; rfl
@[simp] theorem place_budget (b : Budget) (i : Fin 17) (r : LoadRecord) (R A : List (Fin 17)) :
    (place b i r R A).budget = b.budget := by unfold place; rfl
@[simp] theorem place_claimSums (b : Budget) (i : Fin 17) (r : LoadRecord) (R A : List (Fin 17)) :
    (place b i r R A).claimSums = b.claimSums := by unfold place; rfl

/-- A list without a record. -/
def without (i : Fin 17) (l : List (Fin 17)) : List (Fin 17) := l.filter (· ≠ i)

theorem mem_without {i j : Fin 17} {l : List (Fin 17)} : j ∈ without i l ↔ j ∈ l ∧ j ≠ i := by
  simp [without]

theorem without_eq_self {i : Fin 17} {l : List (Fin 17)} (h : i ∉ l) : without i l = l :=
  List.filter_eq_self.mpr fun _ hj => decide_eq_true fun hji => h (hji ▸ hj)

theorem without_cons_self {i : Fin 17} {l : List (Fin 17)} (h : i ∉ l) : without i (i :: l) = l := by
  rw [without, List.filter_cons_of_neg (by simp)]
  exact without_eq_self h

/-! ## The operations on one record -/

theorem admitLoad_budget (i : Fin 17) (s : State) : (admitLoad i s).budget =
    place s.budget i
      { s.budget.loads[i] with state := .admitted, claim := s.budget.loads[i].rated, hold := none }
      (without i s.budget.retry) (without i s.budget.admitted ++ [i]) := by
  simp only [admitLoad, joinAdmitted, leaveRetry, State.setBudget_budget, putLoad_budget]
  rfl

theorem setWaiting_budget (i : Fin 17) (s : State) : (setWaiting i s).budget =
    place s.budget i { s.budget.loads[i] with state := .waiting, claim := 0, hold := none }
      s.budget.retry s.budget.admitted := putLoad_budget _ _ _

theorem shedLoad_budget (i : Fin 17) (reason : Reason) (s : State) : (shedLoad i reason s).budget =
    place s.budget i { s.budget.loads[i] with
        state := .shed reason, claim := 0, hold := if reason = .budget then some 0 else none }
      (without i s.budget.retry) (without i s.budget.admitted) := by
  simp only [shedLoad, leaveAdmitted, leaveRetry, State.setBudget_budget, putLoad_budget]
  rfl

theorem setReduced_budget (i : Fin 17) (reason : Reason) (s : State) : (setReduced i reason s).budget =
    place s.budget i { s.budget.loads[i] with
        state := .reduced reason, claim := reducedClaim s i, hold := none }
      s.budget.retry s.budget.admitted := putLoad_budget _ _ _

theorem reduceLevel_budget (i : Fin 17) (s : State) : (reduceLevel i s).budget =
    place s.budget i { s.budget.loads[i] with
        state := .reduced .level, claim := reducedClaim s i, hold := none }
      (without i s.budget.retry)
      (if i ∈ s.budget.admitted then s.budget.admitted else without i s.budget.admitted ++ [i]) := by
  unfold reduceLevel setReduced
  by_cases h : i ∈ s.budget.admitted
  · rw [if_pos h]
    simp only [leaveRetry, State.setBudget_budget, putLoad_budget, List.contains_iff_mem, h, if_true]
    rfl
  · rw [if_neg h]
    simp only [joinAdmitted, leaveRetry, State.setBudget_budget, putLoad_budget, List.contains_iff_mem, h, if_false]
    rfl

theorem turnOff_budget (i : Fin 17) (s : State) : (turnOff i s).budget =
    place s.budget i { s.budget.loads[i] with state := .off, claim := 0, hold := none }
      (without i s.budget.retry) (without i s.budget.admitted) := by
  simp only [turnOff, leaveAdmitted, leaveRetry, State.setBudget_budget, putLoad_budget]
  rfl

/-- The retry list with a record in its place (R55). -/
def inPlace (b : Budget) (i : Fin 17) : List (Fin 17) :=
  b.retry.takeWhile (staysBefore b b.loads[i].cls) ++ i :: b.retry.dropWhile (staysBefore b b.loads[i].cls)

theorem joinRetry_budget_of_notMem {i : Fin 17} {s : State} (h : i ∉ s.budget.retry) :
    (joinRetry i s).budget = { s.budget with retry := inPlace s.budget i } := by
  unfold joinRetry
  rw [if_neg (by rw [List.contains_iff_mem]; exact h)]
  rfl

theorem joinRetry_of_mem {i : Fin 17} {s : State} (h : i ∈ s.budget.retry) : joinRetry i s = s :=
  if_pos (List.contains_iff_mem.mpr h)

theorem mem_inPlace (b : Budget) (i j : Fin 17) : j ∈ inPlace b i ↔ j = i ∨ j ∈ b.retry := by
  have h : j ∈ b.retry ↔ j ∈ b.retry.takeWhile (staysBefore b b.loads[i].cls)
      ∨ j ∈ b.retry.dropWhile (staysBefore b b.loads[i].cls) := by
    rw [← List.mem_append, List.takeWhile_append_dropWhile]
  rw [h, inPlace, List.mem_append, List.mem_cons]
  tauto

theorem inPlace_perm (b : Budget) (i : Fin 17) : (inPlace b i).Perm (i :: b.retry) := by
  have h := List.perm_middle (a := i) (l₁ := b.retry.takeWhile (staysBefore b b.loads[i].cls))
    (l₂ := b.retry.dropWhile (staysBefore b b.loads[i].cls))
  rw [List.takeWhile_append_dropWhile] at h
  exact h

/-- The order of the retry list (R55). -/
def Sorted (b : Budget) : Prop :=
  b.retry.Pairwise fun i j => classNum b.loads[i].cls ≤ classNum b.loads[j].cls

/-- What stands behind the records a joining record passes is of a higher class, in a list in its order. -/
theorem classNum_lt_of_mem_dropWhile {b : Budget} {c : LoadClass} {l : List (Fin 17)}
    (h : l.Pairwise fun i j => classNum b.loads[i].cls ≤ classNum b.loads[j].cls) :
    ∀ j ∈ l.dropWhile (staysBefore b c), classNum c < classNum b.loads[j].cls := by
  induction l with
  | nil => nofun
  | cons a l ih =>
    obtain ⟨ha, hl⟩ := List.pairwise_cons.mp h
    by_cases hs : staysBefore b c a = true
    · rw [List.dropWhile_cons_of_pos hs]
      exact ih hl
    · rw [List.dropWhile_cons_of_neg hs]
      have hlt : classNum c < classNum b.loads[a].cls := by simpa [staysBefore] using hs
      intro j hj
      rcases List.mem_cons.mp hj with rfl | hj
      · exact hlt
      · exact hlt.trans_le (ha j hj)

theorem sorted_inPlace {b : Budget} (h : Sorted b) (i : Fin 17) : Sorted { b with retry := inPlace b i } := by
  change (inPlace b i).Pairwise _
  unfold inPlace
  refine List.pairwise_append.mpr ⟨h.sublist (List.takeWhile_sublist _), List.pairwise_cons.mpr ⟨?_, ?_⟩, ?_⟩
  · exact fun j hj => (classNum_lt_of_mem_dropWhile h j hj).le
  · exact h.sublist (List.dropWhile_sublist _)
  · intro j hj k hk
    have hji : classNum b.loads[j].cls ≤ classNum b.loads[i].cls :=
      of_decide_eq_true (List.mem_takeWhile_imp (p := staysBefore b b.loads[i].cls) hj)
    rcases List.mem_cons.mp hk with rfl | hk
    · exact hji
    · exact hji.trans (classNum_lt_of_mem_dropWhile h k hk).le

theorem setMotorClass_budget (i : Fin 17) (c : LoadClass) (s : State) :
    (setMotorClass i c s).budget =
      { s.budget with loads := s.budget.loads.set i { s.budget.loads[i] with cls := c } } := rfl

/-! ## What leaves the table as it is -/

/-- The load table with its lists and totals, the shed flags, the gate, the inputs and what is computed from them
stand as before, and so do the parameters: only timers and counters of the budget unit have moved. -/
def SameTable (s t : State) : Prop :=
  t.params = s.params ∧ t.budget.loads = s.budget.loads ∧ t.budget.own = s.budget.own
  ∧ t.budget.retry = s.budget.retry ∧ t.budget.admitted = s.budget.admitted ∧ t.budget.shed = s.budget.shed
  ∧ t.budget.gateOpen = s.budget.gateOpen ∧ t.budget.claimSums = s.budget.claimSums
  ∧ t.budget.caps = s.budget.caps ∧ t.budget.budget = s.budget.budget ∧ t.budget.governing = s.budget.governing

theorem SameTable.refl (s : State) : SameTable s s := ⟨rfl, rfl, rfl, rfl, rfl, rfl, rfl, rfl, rfl, rfl, rfl⟩

theorem SameTable.trans {s t u : State} (h : SameTable s t) (k : SameTable t u) : SameTable s u := by
  obtain ⟨h1, h2, h3, h4, h5, h6, h7, h8, h9, h10, h11⟩ := h
  obtain ⟨k1, k2, k3, k4, k5, k6, k7, k8, k9, k10, k11⟩ := k
  exact ⟨k1.trans h1, k2.trans h2, k3.trans h3, k4.trans h4, k5.trans h5, k6.trans h6, k7.trans h7, k8.trans h8,
    k9.trans h9, k10.trans h10, k11.trans h11⟩

theorem sameTable_of_budget {s t : State} (hp : t.params = s.params) (hb : t.budget = s.budget) : SameTable s t := by
  unfold SameTable
  rw [hb]
  exact ⟨hp, rfl, rfl, rfl, rfl, rfl, rfl, rfl, rfl, rfl, rfl⟩

theorem raiseEvent_budget (e : Event) (s : State) : (raiseEvent e s).budget = s.budget := by
  unfold raiseEvent
  split
  · rfl
  · simp only
    split
    · rfl
    · exact sendTelegram_budget _ _ _

theorem sameTable_sendTelegram (k : Kind) (p : List Byte) (s : State) : SameTable s (sendTelegram k p s) :=
  sameTable_of_budget (sendTelegram_params k p s) (sendTelegram_budget k p s)

theorem sameTable_raiseEvent (e : Event) (s : State) : SameTable s (raiseEvent e s) :=
  sameTable_of_budget (raiseEvent_params e s) (raiseEvent_budget e s)

theorem sameTable_evalOver (s : State) : SameTable s (evalOver s) :=
  ⟨rfl, rfl, rfl, rfl, rfl, rfl, rfl, rfl, rfl, rfl, rfl⟩

theorem sameTable_restartDwell (s : State) : SameTable s (restartDwell s) :=
  ⟨rfl, rfl, rfl, rfl, rfl, rfl, rfl, rfl, rfl, rfl, rfl⟩

theorem sameTable_queueClaim (s : State) : SameTable s (queueClaim s) := by
  unfold queueClaim
  split
  · exact .refl s
  · exact SameTable.trans (t := s.setBudget { s.budget with claimTimer := 0, claimDue := false })
      ⟨rfl, rfl, rfl, rfl, rfl, rfl, rfl, rfl, rfl, rfl, rfl⟩ (sameTable_sendTelegram _ _ _)

theorem sameTable_claimAfter (before : PerClass Nat) (s : State) : SameTable s (claimAfter before s) := by
  unfold claimAfter
  split
  · exact .refl s
  · split
    · exact sameTable_queueClaim s
    · exact ⟨rfl, rfl, rfl, rfl, rfl, rfl, rfl, rfl, rfl, rfl, rfl⟩

/-- The end of an event of the budget unit moves, beside timers, what its pass moves. -/
theorem sameTable_settle (before : PerClass Nat) (callsForPass : Bool) (s : State) :
    ∃ t u : State, SameTable s t ∧ SameTable u (settle before callsForPass s)
      ∧ u = if callsForPass then admissionPass t else t := by
  refine ⟨evalOver s, if callsForPass then admissionPass (evalOver s) else evalOver s, sameTable_evalOver s, ?_, rfl⟩
  unfold settle
  cases callsForPass
  · exact sameTable_claimAfter _ _
  · exact (sameTable_evalOver _).trans (sameTable_claimAfter _ _)

/-! ## A sound table -/

/-- The load table is sound, but for the shed flags' promise (`ShedOk`), while the records of X that wait are not in
the retry list. -/
structure TableOk (X : Fin 17 → Prop) (s : State) : Prop where
  hold : ∀ i : Fin 17, s.budget.loads[i].hold.isSome = true ↔ s.budget.loads[i].state = .shed .budget
  claim : ∀ i : Fin 17, s.budget.loads[i].claim = claimOf s i s.budget.loads[i].state
  retry : ∀ i : Fin 17, i ∈ s.budget.retry ↔ waitsInList s.budget.loads[i].state = true ∧ ¬ X i
  admitted : ∀ i : Fin 17, i ∈ s.budget.admitted ↔ drawsCurrent s.budget.loads[i].state = true
  kind : ∀ i : Fin 17, KindOk s i
  gate : ∀ i : Fin 17, GateOk s i
  retryNodup : s.budget.retry.Nodup
  admittedNodup : s.budget.admitted.Nodup
  sorted : Sorted s.budget
  own : s.budget.own = ownTotals s.budget.loads
  classZero : s.budget.shed.c0 = false

theorem budgetOk_iff (s : State) : BudgetOk s ↔ TableOk (fun _ => False) s ∧ ∀ i : Fin 17, ShedOk s i := by
  constructor
  · rintro ⟨hrec, hretry, hadmitted, hsorted, hown, hzero⟩
    refine ⟨⟨fun i => (hrec i).1.1, fun i => (hrec i).1.2.1, fun i => ?_, fun i => (hrec i).1.2.2.2,
      fun i => (hrec i).2.1, fun i => (hrec i).2.2.1, hretry, hadmitted, hsorted, hown, hzero⟩,
      fun i => (hrec i).2.2.2⟩
    rw [(hrec i).1.2.2.1]
    simp
  · rintro ⟨h, hshed⟩
    refine ⟨fun i => ⟨⟨h.hold i, h.claim i, ?_, h.admitted i⟩, h.kind i, h.gate i, hshed i⟩, h.retryNodup,
      h.admittedNodup, h.sorted, h.own, h.classZero⟩
    rw [h.retry i]
    simp

theorem claimOf_congr {s t : State} {i : Fin 17} (hp : t.params = s.params)
    (hr : t.budget.loads[i].rated = s.budget.loads[i].rated) (x : LoadState) : claimOf t i x = claimOf s i x := by
  unfold claimOf reducedClaim
  simp only [hp, hr]

theorem TableOk.congr {X : Fin 17 → Prop} {s t : State} (h : TableOk X s) (k : SameTable s t) : TableOk X t := by
  obtain ⟨hp, hloads, hown, hretry, hadmitted, hshed, hgate, _⟩ := k
  constructor
  case hold => rw [hloads]; exact h.hold
  case claim =>
    intro i
    rw [claimOf_congr hp (by rw [hloads]), hloads]
    exact h.claim i
  case retry => rw [hloads, hretry]; exact h.retry
  case admitted => rw [hloads, hadmitted]; exact h.admitted
  case kind => intro i; unfold KindOk; rw [hloads]; exact h.kind i
  case gate => intro i; unfold GateOk; rw [hloads, hgate]; exact h.gate i
  case retryNodup => rw [hretry]; exact h.retryNodup
  case admittedNodup => rw [hadmitted]; exact h.admittedNodup
  case sorted => unfold Sorted; rw [hretry, hloads]; exact h.sorted
  case own => rw [hown, hloads]; exact h.own
  case classZero => rw [hshed]; exact h.classZero

theorem shedOk_congr {s t : State} (h : ∀ i : Fin 17, ShedOk s i) (k : SameTable s t) (i : Fin 17) : ShedOk t i := by
  obtain ⟨_, hloads, _, _, _, hshed, _⟩ := k
  unfold ShedOk
  rw [hloads, hshed]
  exact h i

theorem budgetOk_congr {s t : State} (h : BudgetOk s) (k : SameTable s t) : BudgetOk t := by
  rw [budgetOk_iff] at h ⊢
  exact ⟨h.1.congr k, shedOk_congr h.2 k⟩

theorem TableOk.congr_set {X Y : Fin 17 → Prop} {s : State} (h : TableOk X s)
    (hxy : ∀ i : Fin 17, waitsInList s.budget.loads[i].state = true → (Y i ↔ X i)) : TableOk Y s :=
  { h with
    retry := fun i => by
      rw [h.retry i]
      exact and_congr_right fun hw => not_congr (hxy i hw).symm }

/-- What a record may be written with: the rated current it had, and its hold timer, claim and state as its class
and kind allow them. -/
structure FitsAt (s : State) (i : Fin 17) (r : LoadRecord) : Prop where
  rated : r.rated = s.budget.loads[i].rated
  allowed : classAllowed i r.cls = true
  hold : r.hold.isSome = true ↔ r.state = .shed .budget
  claim : r.claim = claimOf s i r.state
  kind : r.cls = .c0 ∨ sheddable i = false → r.state = .off ∨ r.state = .admitted
  light : ∀ x, r.state = .reduced x → isLight i = true
  gate : s.budget.gateOpen = false → r.cls ≠ .c0 → drawsCurrent r.state = false

/-- A record that fits, and lists that follow its state, keep the table sound. -/
theorem TableOk.place {X Y : Fin 17 → Prop} {s t : State} {i : Fin 17} {r : LoadRecord} {R A : List (Fin 17)}
    (h : TableOk X s) (ht : t.budget = place s.budget i r R A) (hp : t.params = s.params) (hfits : FitsAt s i r)
    (hcls : r.cls = s.budget.loads[i].cls ∨ i ∉ R) (hR : R.Sublist s.budget.retry) (hA : A.Nodup)
    (hothers : ∀ j : Fin 17, j ≠ i → (j ∈ R ↔ j ∈ s.budget.retry) ∧ (j ∈ A ↔ j ∈ s.budget.admitted) ∧ (Y j ↔ X j))
    (hi : (i ∈ R ↔ waitsInList r.state = true ∧ ¬ Y i) ∧ (i ∈ A ↔ drawsCurrent r.state = true)) : TableOk Y t := by
  obtain ⟨hrated, hallowed, hhold, hclaim, hkind, hlight, hgate⟩ := hfits
  have hself : t.budget.loads[i] = r := by rw [ht]; exact place_loads_self _ _ _ _ _
  have hne {j : Fin 17} (hj : j ≠ i) : t.budget.loads[j] = s.budget.loads[j] := by
    rw [ht]; exact place_loads_ne _ hj.symm _ _ _
  have hratedAll (j : Fin 17) : t.budget.loads[j].rated = s.budget.loads[j].rated := by
    by_cases hj : j = i
    · subst hj; rw [hself, hrated]
    · rw [hne hj]
  have hclsIn {j : Fin 17} (hjR : j ∈ R) : t.budget.loads[j].cls = s.budget.loads[j].cls := by
    by_cases hj : j = i
    · subst hj
      rw [hself]
      exact hcls.resolve_right (not_not_intro hjR)
    · rw [hne hj]
  have hretry : t.budget.retry = R := by rw [ht, place_retry]
  have hadmitted : t.budget.admitted = A := by rw [ht, place_admitted]
  constructor
  case hold =>
    intro j
    by_cases hj : j = i
    · subst hj; rw [hself]; exact hhold
    · rw [hne hj]; exact h.hold j
  case claim =>
    intro j
    rw [claimOf_congr hp (hratedAll j)]
    by_cases hj : j = i
    · subst hj; rw [hself]; exact hclaim
    · rw [hne hj]; exact h.claim j
  case retry =>
    intro j
    rw [hretry]
    by_cases hj : j = i
    · subst hj; rw [hself]; exact hi.1
    · obtain ⟨hjR, _, hjX⟩ := hothers j hj
      rw [hne hj, hjR, hjX, h.retry j]
  case admitted =>
    intro j
    rw [hadmitted]
    by_cases hj : j = i
    · subst hj; rw [hself]; exact hi.2
    · rw [hne hj, (hothers j hj).2.1, h.admitted j]
  case kind =>
    intro j
    unfold KindOk
    by_cases hj : j = i
    · subst hj; rw [hself]; exact ⟨hallowed, hkind, hlight⟩
    · rw [hne hj]; exact h.kind j
  case gate =>
    intro j
    have hopen : t.budget.gateOpen = s.budget.gateOpen := by rw [ht, place_gateOpen]
    unfold GateOk
    rw [hopen]
    by_cases hj : j = i
    · subst hj; rw [hself]; exact hgate
    · rw [hne hj]; exact h.gate j
  case retryNodup => rw [hretry]; exact h.retryNodup.sublist hR
  case admittedNodup => rw [hadmitted]; exact hA
  case sorted =>
    unfold Sorted
    rw [hretry]
    refine (h.sorted.sublist hR).imp_of_mem fun ha hb hab => ?_
    rw [hclsIn ha, hclsIn hb]
    exact hab
  case own => rw [ht, place_own]
  case classZero => rw [ht, place_shed]; exact h.classZero

/-- A record that waits outside the retry list joins it. -/
theorem TableOk.join {X Y : Fin 17 → Prop} {s : State} {i : Fin 17} (h : TableOk X s) (hx : X i)
    (hw : waitsInList s.budget.loads[i].state = true) (hy : ∀ j : Fin 17, Y j ↔ X j ∧ j ≠ i) :
    TableOk Y (joinRetry i s) := by
  have hmem : i ∉ s.budget.retry := fun hm => ((h.retry i).mp hm).2 hx
  have ht := joinRetry_budget_of_notMem hmem
  have hp : (joinRetry i s).params = s.params := (loadSteps_joinRetry i s).frame.params
  have hloads : (joinRetry i s).budget.loads = s.budget.loads := by rw [ht]
  constructor
  case hold => rw [hloads]; exact h.hold
  case claim =>
    intro j
    rw [claimOf_congr hp (by rw [hloads]), hloads]
    exact h.claim j
  case retry =>
    intro j
    rw [hloads, ht, mem_inPlace, h.retry j, hy j]
    by_cases hj : j = i
    · subst hj; simp [hw, -Fin.getElem_fin]
    · simp [hj]
  case admitted => rw [hloads, ht]; exact h.admitted
  case kind => intro j; unfold KindOk; rw [hloads]; exact h.kind j
  case gate => intro j; unfold GateOk; rw [ht]; exact h.gate j
  case retryNodup =>
    rw [ht]
    exact (inPlace_perm s.budget i).nodup_iff.mpr (List.nodup_cons.mpr ⟨hmem, h.retryNodup⟩)
  case admittedNodup => rw [ht]; exact h.admittedNodup
  case sorted => rw [ht]; exact sorted_inPlace h.sorted i
  case own => rw [ht]; exact h.own
  case classZero => rw [ht]; exact h.classZero

end Sys2Proof.Machine

/-! The operations and events of the budget unit keep the load table sound, and with it every step does. -/

namespace Sys2Proof.Machine

-- As in the tests, so that no command needs threads of its own.
set_option Elab.async false

/-! ## The operations on one record keep the table -/

theorem nodup_without_append {i : Fin 17} {l : List (Fin 17)} (h : l.Nodup) : (without i l ++ [i]).Nodup := by
  refine List.nodup_append.mpr ⟨h.filter _, List.nodup_singleton i, fun a ha b hb => ?_⟩
  obtain ⟨_, hne⟩ := mem_without.mp ha
  exact fun hab => hne (hab.trans (List.mem_singleton.mp hb))

theorem admitLoad_params (i : Fin 17) (s : State) : (admitLoad i s).params = s.params :=
  (loadSteps_admit i s).frame.params

/-- A record that is admitted, at a class its travel may have given it. -/
theorem TableOk.admitAs {X : Fin 17 → Prop} {s t : State} {i : Fin 17} {c : LoadClass} (h : TableOk X s)
    (ht : t.budget = Machine.place s.budget i { s.budget.loads[i] with
        cls := c, state := .admitted, claim := s.budget.loads[i].rated, hold := none }
      (without i s.budget.retry) (without i s.budget.admitted ++ [i])) (hp : t.params = s.params)
    (hallowed : classAllowed i c = true) (hgate : c ≠ .c0 → s.budget.gateOpen = true) : TableOk X t := by
  have hnot : i ∉ without i s.budget.retry := fun hm => (mem_without.mp hm).2 rfl
  refine h.place ht hp ⟨rfl, hallowed, ?_, rfl, fun _ => .inr rfl, nofun, fun hclosed hc => ?_⟩ (.inr hnot)
    List.filter_sublist (nodup_without_append h.admittedNodup) (fun j hj => ⟨?_, ?_, Iff.rfl⟩) ⟨?_, ?_⟩
  · exact ⟨nofun, nofun⟩
  · rw [hgate hc] at hclosed
    cases hclosed
  · rw [mem_without]; simp [hj]
  · rw [List.mem_append, mem_without]; simp [hj]
  · exact ⟨fun hm => absurd hm hnot, fun hw => absurd hw.1 nofun⟩
  · exact ⟨fun _ => rfl, fun _ => List.mem_append_right _ (List.mem_singleton_self i)⟩

theorem TableOk.admits {X : Fin 17 → Prop} {s : State} {i : Fin 17} (h : TableOk X s)
    (hgate : s.budget.loads[i].cls ≠ .c0 → s.budget.gateOpen = true) : TableOk X (admitLoad i s) :=
  h.admitAs (admitLoad_budget i s) (admitLoad_params i s) (h.kind i).1 hgate

/-- A record that draws nothing is set WAITING, outside the retry list. -/
theorem TableOk.setWaiting {X Y : Fin 17 → Prop} {s : State} {i : Fin 17} (h : TableOk X s)
    (hmem : i ∉ s.budget.retry) (hdraws : drawsCurrent s.budget.loads[i].state = false)
    (hcls : s.budget.loads[i].cls ≠ .c0) (hsheds : sheddable i = true) (hi : Y i)
    (hothers : ∀ j : Fin 17, j ≠ i → (Y j ↔ X j)) : TableOk Y (setWaiting i s) := by
  refine h.place (setWaiting_budget i s) (loadSteps_setWaiting i s).frame.params
    ⟨rfl, (h.kind i).1, ⟨nofun, nofun⟩, rfl, ?_, nofun, fun _ _ => rfl⟩ (.inl rfl) (List.Sublist.refl _) h.admittedNodup
    (fun j hj => ⟨Iff.rfl, Iff.rfl, hothers j hj⟩) ⟨?_, ?_⟩
  · rintro (hc | hc)
    · exact absurd hc hcls
    · exact absurd (hsheds.symm.trans hc) nofun
  · exact ⟨fun hm => absurd hm hmem, fun hw => absurd hi hw.2⟩
  · rw [h.admitted i, hdraws]
    exact ⟨nofun, nofun⟩

theorem TableOk.wait {X : Fin 17 → Prop} {s : State} {i : Fin 17} (h : TableOk X s) (hx : ¬ X i)
    (hmem : i ∉ s.budget.retry) (hdraws : drawsCurrent s.budget.loads[i].state = false)
    (hcls : s.budget.loads[i].cls ≠ .c0) (hsheds : sheddable i = true) : TableOk X (Machine.wait i s) := by
  have hset : TableOk (fun j => X j ∨ j = i) (Machine.setWaiting i s) :=
    h.setWaiting hmem hdraws hcls hsheds (.inr rfl) fun j hj => by simp [hj]
  have hstate : (Machine.setWaiting i s).budget.loads[i].state = .waiting := by
    rw [setWaiting_budget, place_loads_self]
  refine hset.join (.inr rfl) (by rw [hstate]; rfl) fun j => ?_
  by_cases hj : j = i
  · subst hj; simp [hx]
  · simp [hj]

theorem TableOk.shed {X : Fin 17 → Prop} {s : State} {i : Fin 17} (h : TableOk X s) (reason : Reason)
    (hcls : s.budget.loads[i].cls ≠ .c0) (hsheds : sheddable i = true) : TableOk X (shedLoad i reason s) := by
  refine h.place (shedLoad_budget i reason s) (loadSteps_shedLoad i reason s).frame.params
    ⟨rfl, (h.kind i).1, ?_, rfl, ?_, nofun, fun _ _ => rfl⟩ (.inl rfl) List.filter_sublist (h.admittedNodup.filter _)
    (fun j hj => ⟨by rw [mem_without]; simp [hj], by rw [mem_without]; simp [hj], Iff.rfl⟩) ⟨?_, ?_⟩
  · cases reason
    · exact ⟨nofun, nofun⟩
    · exact ⟨fun _ => rfl, fun _ => rfl⟩
  · rintro (hc | hc)
    · exact absurd hc hcls
    · exact absurd (hsheds.symm.trans hc) nofun
  · rw [mem_without]
    exact ⟨fun hm => absurd rfl hm.2, fun hw => absurd hw.1 nofun⟩
  · rw [mem_without]
    exact ⟨fun hm => absurd rfl hm.2, nofun⟩

theorem sheddable_of_isLight {i : Fin 17} (h : isLight i = true) : sheddable i = true := by
  simp only [isLight, sheddable, decide_eq_true_eq] at *
  omega

/-- A light of class 1 to 3 may be REDUCED behind an open gate, with its reduced claim (R65). -/
theorem fitsAt_reduced {X : Fin 17 → Prop} {s : State} {i : Fin 17} (h : TableOk X s) (reason : Reason)
    (hcls : s.budget.loads[i].cls ≠ .c0) (hlight : isLight i = true) (hgate : s.budget.gateOpen = true) :
    FitsAt s i { s.budget.loads[i] with state := .reduced reason, claim := reducedClaim s i, hold := none } where
  rated := rfl
  allowed := (h.kind i).1
  hold := ⟨nofun, nofun⟩
  claim := rfl
  kind := by
    rintro (hc | hc)
    · exact absurd hc hcls
    · exact absurd ((sheddable_of_isLight hlight).symm.trans hc) nofun
  light := fun _ _ => hlight
  gate := fun hclosed => absurd (hgate.symm.trans hclosed) nofun

/-- A light that draws current becomes REDUCED(BUDGET) at its place, outside the retry list. -/
theorem TableOk.setReduced {X Y : Fin 17 → Prop} {s : State} {i : Fin 17} (h : TableOk X s)
    (hmem : i ∉ s.budget.retry) (hdraws : drawsCurrent s.budget.loads[i].state = true)
    (hcls : s.budget.loads[i].cls ≠ .c0) (hlight : isLight i = true) (hi : Y i)
    (hothers : ∀ j : Fin 17, j ≠ i → (Y j ↔ X j)) : TableOk Y (setReduced i .budget s) := by
  have hgate : s.budget.gateOpen = true := by
    by_contra hclosed
    exact absurd (hdraws.symm.trans (h.gate i (Bool.not_eq_true _ ▸ hclosed) hcls)) nofun
  refine h.place (setReduced_budget i .budget s) (loadSteps_setReduced i .budget s).frame.params
    (fitsAt_reduced h .budget hcls hlight hgate) (.inl rfl) (List.Sublist.refl _) h.admittedNodup
    (fun j hj => ⟨Iff.rfl, Iff.rfl, hothers j hj⟩) ⟨?_, ?_⟩
  · exact ⟨fun hm => absurd hm hmem, fun hw => absurd hi hw.2⟩
  · rw [h.admitted i, hdraws]
    exact ⟨fun _ => rfl, fun _ => rfl⟩

theorem TableOk.reduceLevel {X : Fin 17 → Prop} {s : State} {i : Fin 17} (h : TableOk X s)
    (hcls : s.budget.loads[i].cls ≠ .c0) (hlight : isLight i = true) (hgate : s.budget.gateOpen = true) :
    TableOk X (reduceLevel i s) := by
  refine h.place (reduceLevel_budget i s) (loadSteps_reduceLevel i s).frame.params
    (fitsAt_reduced h .level hcls hlight hgate) (.inl rfl) List.filter_sublist ?_
    (fun j hj => ⟨by rw [mem_without]; simp [hj], ?_, Iff.rfl⟩) ⟨?_, ?_⟩
  · split
    · exact h.admittedNodup
    · exact nodup_without_append h.admittedNodup
  · split
    · rfl
    · rw [List.mem_append, mem_without]; simp [hj]
  · rw [mem_without]
    exact ⟨fun hm => absurd rfl hm.2, fun hw => absurd hw.1 nofun⟩
  · refine ⟨fun _ => rfl, fun _ => ?_⟩
    split
    · assumption
    · exact List.mem_append_right _ (List.mem_singleton_self i)

theorem TableOk.turnOff {X : Fin 17 → Prop} {s : State} (h : TableOk X s) (i : Fin 17) :
    TableOk X (Machine.turnOff i s) := by
  refine h.place (turnOff_budget i s) (loadSteps_turnOff i s).frame.params
    ⟨rfl, (h.kind i).1, ⟨nofun, nofun⟩, rfl, fun _ => .inl rfl, nofun, fun _ _ => rfl⟩ (.inl rfl)
    List.filter_sublist (h.admittedNodup.filter _)
    (fun j hj => ⟨by rw [mem_without]; simp [hj], by rw [mem_without]; simp [hj], Iff.rfl⟩) ⟨?_, ?_⟩
  · rw [mem_without]
    exact ⟨fun hm => absurd rfl hm.2, fun hw => absurd hw.1 nofun⟩
  · rw [mem_without]
    exact ⟨fun hm => absurd rfl hm.2, nofun⟩

/-! ## The shed flags' promise -/

/-- What the shed flags promise of a record in the place of record i. -/
def ShedAt (shed : PerClass Bool) (i : Fin 17) (r : LoadRecord) : Prop :=
  perClass shed r.cls = true → sheddable i = true → r.state ≠ .admitted ∧ waitsInList r.state = false

theorem shedOk_iff (s : State) (i : Fin 17) : ShedOk s i ↔ ShedAt s.budget.shed i s.budget.loads[i] := Iff.rfl

theorem shedOk_place {s t : State} {i : Fin 17} {r : LoadRecord} {R A : List (Fin 17)} (h : ∀ j : Fin 17, ShedOk s j)
    (ht : t.budget = place s.budget i r R A) (hi : ShedAt s.budget.shed i r) (j : Fin 17) : ShedOk t j := by
  rw [shedOk_iff, ht, place_shed]
  by_cases hij : i = j
  · subst hij; rw [place_loads_self]; exact hi
  · rw [place_loads_ne _ hij]; exact h j

/-- A record that neither draws its rated current nor waits keeps the flags' promise. -/
theorem shedAt_of_state {shed : PerClass Bool} {i : Fin 17} {r : LoadRecord} (h : r.state ≠ .admitted)
    (k : waitsInList r.state = false) : ShedAt shed i r := fun _ _ => ⟨h, k⟩

theorem shedAt_of_clear {shed : PerClass Bool} {i : Fin 17} {r : LoadRecord}
    (h : perClass shed r.cls = false ∨ sheddable i = false) : ShedAt shed i r := by
  intro hset hsheds
  rcases h with h | h
  · exact absurd (hset.symm.trans h) nofun
  · exact absurd (hsheds.symm.trans h) nofun

/-! ## A sound budget unit -/

theorem BudgetOk.table {s : State} (h : BudgetOk s) : TableOk (fun _ => False) s := ((budgetOk_iff s).mp h).1

theorem BudgetOk.shedAt {s : State} (h : BudgetOk s) (i : Fin 17) : ShedAt s.budget.shed i s.budget.loads[i] :=
  ((budgetOk_iff s).mp h).2 i

theorem TableOk.budgetOk {s : State} (h : TableOk (fun _ => False) s) (k : ∀ i : Fin 17, ShedOk s i) : BudgetOk s :=
  (budgetOk_iff s).mpr ⟨h, k⟩

theorem BudgetOk.mem_retry {s : State} (h : BudgetOk s) (i : Fin 17) :
    i ∈ s.budget.retry ↔ waitsInList s.budget.loads[i].state = true := by
  rw [h.table.retry i]
  simp

theorem BudgetOk.mem_admitted {s : State} (h : BudgetOk s) (i : Fin 17) :
    i ∈ s.budget.admitted ↔ drawsCurrent s.budget.loads[i].state = true := h.table.admitted i

theorem perClass_c0_of_budgetOk {s : State} (h : BudgetOk s) : perClass s.budget.shed .c0 = false := h.table.classZero

/-- A record in another state than OFF and ADMITTED is sheddable and of class 1 to 3. -/
theorem TableOk.sheddable_of_state {X : Fin 17 → Prop} {s : State} (h : TableOk X s) {i : Fin 17}
    (hoff : s.budget.loads[i].state ≠ .off) (hadm : s.budget.loads[i].state ≠ .admitted) :
    s.budget.loads[i].cls ≠ .c0 ∧ sheddable i = true := by
  obtain ⟨_, hkind, _⟩ := h.kind i
  refine ⟨fun hc => ?_, ?_⟩
  · exact (hkind (.inl hc)).elim hoff hadm
  · by_contra hs
    exact (hkind (.inr (Bool.not_eq_true _ ▸ hs))).elim hoff hadm

/-- A record of class 1 to 3 other than a motor's is sheddable. -/
theorem sheddable_of_class {i : Fin 17} {c : LoadClass} (h : classAllowed i c = true) (hc : c ≠ .c0) (hi : i.val < 15) :
    sheddable i = true := by
  by_cases h14 : i.val = 14
  · have hi14 : i = 14 := Fin.ext h14
    subst hi14
    cases c with
    | c0 => exact absurd rfl hc
    | _ => cases h
  · simp only [sheddable, decide_eq_true_eq]
    omega

theorem BudgetOk.admits {s : State} {i : Fin 17} (h : BudgetOk s)
    (hgate : s.budget.loads[i].cls ≠ .c0 → s.budget.gateOpen = true)
    (hclear : perClass s.budget.shed s.budget.loads[i].cls = false ∨ sheddable i = false) : BudgetOk (admitLoad i s) :=
  (h.table.admits hgate).budgetOk (shedOk_place h.shedAt (admitLoad_budget i s) (shedAt_of_clear hclear))

theorem BudgetOk.shed {s : State} {i : Fin 17} (h : BudgetOk s) (reason : Reason)
    (hcls : s.budget.loads[i].cls ≠ .c0) (hsheds : sheddable i = true) : BudgetOk (shedLoad i reason s) :=
  (h.table.shed reason hcls hsheds).budgetOk
    (shedOk_place h.shedAt (shedLoad_budget i reason s) (shedAt_of_state nofun rfl))

theorem BudgetOk.turnOff {s : State} (h : BudgetOk s) (i : Fin 17) : BudgetOk (Machine.turnOff i s) :=
  (h.table.turnOff i).budgetOk (shedOk_place h.shedAt (turnOff_budget i s) (shedAt_of_state nofun rfl))

theorem BudgetOk.reduceLevel {s : State} {i : Fin 17} (h : BudgetOk s)
    (hcls : s.budget.loads[i].cls ≠ .c0) (hlight : isLight i = true) (hgate : s.budget.gateOpen = true) :
    BudgetOk (Machine.reduceLevel i s) :=
  (h.table.reduceLevel hcls hlight hgate).budgetOk
    (shedOk_place h.shedAt (reduceLevel_budget i s) (shedAt_of_state nofun rfl))

theorem joinRetry_shed (i : Fin 17) (s : State) : (joinRetry i s).budget.shed = s.budget.shed := by
  by_cases h : i ∈ s.budget.retry
  · rw [joinRetry_of_mem h]
  · rw [joinRetry_budget_of_notMem h]

theorem shedOk_joinRetry {s : State} (h : ∀ j : Fin 17, ShedOk s j) (i j : Fin 17) : ShedOk (joinRetry i s) j := by
  rw [shedOk_iff, joinRetry_loads, joinRetry_shed]
  exact h j

/-- A record that draws nothing and does not wait is WAITING in the retry list, its flag being clear. -/
theorem BudgetOk.wait {s : State} {i : Fin 17} (h : BudgetOk s) (hwaits : waitsInList s.budget.loads[i].state = false)
    (hdraws : drawsCurrent s.budget.loads[i].state = false) (hcls : s.budget.loads[i].cls ≠ .c0)
    (hsheds : sheddable i = true) (hclear : perClass s.budget.shed s.budget.loads[i].cls = false) :
    BudgetOk (Machine.wait i s) := by
  have hmem : i ∉ s.budget.retry := by rw [h.mem_retry, hwaits]; nofun
  refine (h.table.wait id hmem hdraws hcls hsheds).budgetOk (shedOk_joinRetry ?_ i)
  exact shedOk_place h.shedAt (setWaiting_budget i s) (shedAt_of_clear (.inl hclear))

/-- A record that waits in the list of a sound unit is sheddable, of class 1 to 3, and its flag is clear. -/
theorem BudgetOk.of_waits {s : State} {i : Fin 17} (h : BudgetOk s) (hw : waitsInList s.budget.loads[i].state = true) :
    s.budget.loads[i].cls ≠ .c0 ∧ sheddable i = true ∧ perClass s.budget.shed s.budget.loads[i].cls = false := by
  have hoff : s.budget.loads[i].state ≠ .off := fun h' => by rw [h'] at hw; cases hw
  have hadm : s.budget.loads[i].state ≠ .admitted := fun h' => by rw [h'] at hw; cases hw
  obtain ⟨hcls, hsheds⟩ := h.table.sheddable_of_state hoff hadm
  refine ⟨hcls, hsheds, Bool.eq_false_iff.mpr fun hset => ?_⟩
  exact absurd (hw.symm.trans (h.shedAt i hset hsheds).2) nofun

/-! ## The admission pass and the end of an event -/

/-- An admission pass walks on over a record whose test it passes, and otherwise ends. -/
theorem passOver_cons (i : Fin 17) (rest : List (Fin 17)) (s : State) :
    passOver (i :: rest) s = s
    ∨ waitsInList s.budget.loads[i].state = true ∧ passOver (i :: rest) s = passOver rest (admitLoad i s) := by
  rw [passOver]
  split
  · next h =>
    split
    · exact .inr ⟨by rw [h]; rfl, rfl⟩
    · exact .inl rfl
  · next h =>
    split
    · exact .inr ⟨by rw [h]; rfl, rfl⟩
    · exact .inl rfl
  · exact .inl rfl

theorem admitLoad_gateOpen (i : Fin 17) (s : State) : (admitLoad i s).budget.gateOpen = s.budget.gateOpen := by
  rw [admitLoad_budget, place_gateOpen]

theorem BudgetOk.passOver {l : List (Fin 17)} {s : State} (h : BudgetOk s) (hgate : s.budget.gateOpen = true) :
    BudgetOk (Machine.passOver l s) := by
  induction l generalizing s with
  | nil => exact h
  | cons i rest ih =>
    rcases passOver_cons i rest s with he | ⟨hw, he⟩
    · rw [he]; exact h
    · rw [he]
      obtain ⟨_, _, hclear⟩ := h.of_waits hw
      exact ih (h.admits (fun _ => hgate) (.inl hclear)) ((admitLoad_gateOpen i s).trans hgate)

theorem BudgetOk.admissionPass {s : State} (h : BudgetOk s) : BudgetOk (Machine.admissionPass s) := by
  unfold Machine.admissionPass
  split
  · next hgate => exact h.passOver hgate
  · exact h

theorem BudgetOk.settle {s : State} (h : BudgetOk s) (before : PerClass Nat) (callsForPass : Bool) :
    BudgetOk (Machine.settle before callsForPass s) := by
  obtain ⟨t, u, hst, hus, rfl⟩ := sameTable_settle before callsForPass s
  have ht : BudgetOk t := budgetOk_congr h hst
  refine budgetOk_congr ?_ hus
  split
  · exact ht.admissionPass
  · exact ht

/-! ## Asks and releases -/

theorem BudgetOk.ask {s : State} (h : BudgetOk s) {i : Fin 17} (hi : i.val < 15) : BudgetOk (Machine.ask i s) := by
  unfold Machine.ask
  simp only
  split
  · exact h
  · next hoff =>
    have hoff : s.budget.loads[i].state = .off := not_not.mp hoff
    split
    · next hc =>
      refine (h.admits (fun hne => absurd hc hne) (.inl ?_)).settle _ _
      rw [hc]
      exact perClass_c0_of_budgetOk h
    · next hc =>
      have hsheds := sheddable_of_class (h.table.kind i).1 hc hi
      split
      · split
        · next hlight =>
          obtain ⟨hlight, hgate⟩ := Bool.and_eq_true_iff.mp hlight
          exact (h.reduceLevel hc hlight hgate).settle _ _
        · exact (h.shed .level hc hsheds).settle _ _
      · next hclear =>
        exact (h.wait (by rw [hoff]; rfl) (by rw [hoff]; rfl) hc hsheds (Bool.not_eq_true _ ▸ hclear)).settle _ _

theorem BudgetOk.release {s : State} (h : BudgetOk s) (i : Fin 17) : BudgetOk (Machine.release i s) := by
  unfold Machine.release
  split
  · exact h
  · exact (h.turnOff i).settle _ _

theorem motorLoad_notSheddable (a : Actuator) : sheddable (motorLoad a) = false := by cases a <;> rfl

theorem classAllowed_motor (a : Actuator) : classAllowed (motorLoad a) .c0 = true ∧ classAllowed (motorLoad a) .c2 = true := by
  cases a <;> decide

theorem place_setMotorClass (i : Fin 17) (c : LoadClass) (s : State) (r : LoadRecord) (R A : List (Fin 17)) :
    place (setMotorClass i c s).budget i r R A = place s.budget i r R A := by
  unfold place
  simp only [setMotorClass_budget, Vector.set_set]

/-- A motor that is admitted at a class stands in the table as that record. -/
theorem admitMotor_budget (i : Fin 17) (c : LoadClass) (s : State) : (admitLoad i (setMotorClass i c s)).budget =
    place s.budget i { s.budget.loads[i] with
        cls := c, state := .admitted, claim := s.budget.loads[i].rated, hold := none }
      (without i s.budget.retry) (without i s.budget.admitted ++ [i]) := by
  have hrec : (setMotorClass i c s).budget.loads[i] = { s.budget.loads[i] with cls := c } :=
    (setMotorClass_loads i i c s).trans (if_pos rfl)
  rw [admitLoad_budget, place_setMotorClass, hrec]
  rfl

/-- A motor is admitted, at class 0 or behind an open gate. -/
theorem BudgetOk.admitMotor {s : State} (h : BudgetOk s) (a : Actuator) (c : LoadClass)
    (hallowed : classAllowed (motorLoad a) c = true) (hgate : c ≠ .c0 → s.budget.gateOpen = true) :
    BudgetOk (admitLoad (motorLoad a) (setMotorClass (motorLoad a) c s)) := by
  have hbudget := admitMotor_budget (motorLoad a) c s
  have hparams : (admitLoad (motorLoad a) (setMotorClass (motorLoad a) c s)).params = s.params :=
    (admitLoad_params _ _).trans (loadSteps_setMotorClass (motorLoad a) c s).frame.params
  exact (h.table.admitAs hbudget hparams hallowed hgate).budgetOk
    (shedOk_place h.shedAt hbudget (shedAt_of_clear (.inr (motorLoad_notSheddable a))))

theorem BudgetOk.askRetraction {s : State} (h : BudgetOk s) (a : Actuator) :
    BudgetOk (Machine.askRetraction (motorLoad a) s) := by
  unfold Machine.askRetraction
  split
  · exact h
  · exact (h.admitMotor a .c0 (classAllowed_motor a).1 (fun hc => absurd rfl hc)).settle _ _

theorem BudgetOk.askExtension {s : State} (h : BudgetOk s) (a : Actuator) :
    BudgetOk (Machine.askExtension (motorLoad a) s) := by
  unfold Machine.askExtension
  split
  · exact h
  · split
    · exact h
    · next hrefused =>
      have hgate : s.budget.gateOpen = true := by
        simp only [extensionRefused, Bool.or_eq_true, Bool.not_eq_true', not_or, Bool.not_eq_false] at hrefused
        exact hrefused.1.1
      exact (h.admitMotor a .c2 (classAllowed_motor a).2 (fun _ => hgate)).settle _ _

end Sys2Proof.Machine

/-! Level shedding, the over-budget watch and the handovers: what each does to each record, and that each keeps the
load table sound. -/

namespace Sys2Proof.Machine

-- As in the tests, so that no command needs threads of its own.
set_option Elab.async false

/-! ## Folds that treat each record once -/

theorem foldl_loads_of_notMem {f : State → Fin 17 → State}
    (hother : ∀ (s : State) (i j : Fin 17), i ≠ j → (f s i).budget.loads[j] = s.budget.loads[j])
    {l : List (Fin 17)} {j : Fin 17} (hj : j ∉ l) (s : State) :
    (l.foldl f s).budget.loads[j] = s.budget.loads[j] := by
  induction l generalizing s with
  | nil => rfl
  | cons i l ih =>
    rw [List.mem_cons, not_or] at hj
    exact (ih hj.2 (f s i)).trans (hother s i j (Ne.symm hj.1))

/-- Where each step treats its own record only, a record of the list is treated once, in a state that loads have moved
to and that holds the record as it was. -/
theorem foldl_loads_of_mem {f : State → Fin 17 → State}
    (hother : ∀ (s : State) (i j : Fin 17), i ≠ j → (f s i).budget.loads[j] = s.budget.loads[j])
    (hsteps : ∀ (s : State) (i : Fin 17), LoadSteps s (f s i))
    {l : List (Fin 17)} (hl : l.Nodup) {j : Fin 17} (hj : j ∈ l) (s : State) :
    ∃ m : State, LoadSteps s m ∧ m.budget.loads[j] = s.budget.loads[j]
      ∧ (l.foldl f s).budget.loads[j] = (f m j).budget.loads[j] := by
  induction l generalizing s with
  | nil => cases hj
  | cons i l ih =>
    obtain ⟨hi, hl⟩ := List.nodup_cons.mp hl
    by_cases hij : i = j
    · subst hij
      exact ⟨s, .refl, rfl, foldl_loads_of_notMem hother hi _⟩
    · have hj : j ∈ l := (List.mem_cons.mp hj).resolve_left (Ne.symm hij)
      obtain ⟨m, hm, hmj, hfold⟩ := ih hl hj (f s i)
      exact ⟨m, (hsteps s i).trans hm, hmj.trans (hother s i j hij), hfold⟩

theorem foldl_induction {P : State → Prop} {f : State → Fin 17 → State} (h : ∀ (s : State) (i : Fin 17), P s → P (f s i))
    (l : List (Fin 17)) {s : State} (hs : P s) : P (l.foldl f s) := by
  induction l generalizing s with
  | nil => exact hs
  | cons i l ih => exact ih (h s i hs)

theorem reducedClaim_congr {s t : State} (h : LoadSteps s t) (i : Fin 17) : reducedClaim t i = reducedClaim s i := by
  unfold reducedClaim
  simp only [h.frame.params, h.frame.rated]

theorem LoadSteps.gateOpen {s t : State} (h : LoadSteps s t) : t.budget.gateOpen = s.budget.gateOpen := by
  obtain ⟨_, _, _, _, _, _, _, _, hgate⟩ := h.frame.basis
  exact hgate

/-! ## Setting a shed flag (R59) -/

theorem shedOne_of_other {c : LoadClass} {s : State} {i : Fin 17}
    (h : ¬ (s.budget.loads[i].cls = c ∧ sheddable i = true)) : shedOne c s i = s := if_neg h

/-- The setting of a flag leaves a record of its class, or reduces a light, or sheds it (R59). -/
theorem shedOne_cases {c : LoadClass} {s : State} {i : Fin 17}
    (h : s.budget.loads[i].cls = c ∧ sheddable i = true) :
    shedOne c s i = s ∧ (s.budget.loads[i].state = .off ∨ s.budget.loads[i].state = .reduced .level
      ∨ s.budget.loads[i].state = .shed .level)
    ∨ shedOne c s i = reduceLevel i s ∧ isLight i = true
      ∧ (s.budget.loads[i].state = .waiting ∧ s.budget.gateOpen = true ∨ s.budget.loads[i].state = .admitted
        ∨ s.budget.loads[i].state = .reduced .budget)
    ∨ shedOne c s i = shedLoad i .level s
      ∧ (s.budget.loads[i].state = .waiting ∧ ¬ (isLight i = true ∧ s.budget.gateOpen = true)
        ∨ (s.budget.loads[i].state = .admitted ∨ s.budget.loads[i].state = .reduced .budget) ∧ ¬ isLight i = true
        ∨ s.budget.loads[i].state = .shed .budget) := by
  have hone : shedOne c s i = (match s.budget.loads[i].state with
    | .off | .reduced .level | .shed .level => s
    | .waiting => if isLight i && s.budget.gateOpen then reduceLevel i s else shedLoad i .level s
    | .admitted | .reduced .budget => if isLight i then reduceLevel i s else shedLoad i .level s
    | .shed .budget => shedLoad i .level s) := if_pos h
  have hlight (hl : isLight i = true) : (if isLight i then reduceLevel i s else shedLoad i .level s) = reduceLevel i s :=
    if_pos hl
  have hdark (hl : ¬ isLight i = true) :
      (if isLight i then reduceLevel i s else shedLoad i .level s) = shedLoad i .level s := if_neg hl
  cases hst : s.budget.loads[i].state with
  | off => rw [hst] at hone; exact .inl ⟨hone, .inl rfl⟩
  | waiting =>
    rw [hst] at hone
    by_cases hl : isLight i = true ∧ s.budget.gateOpen = true
    · exact .inr (.inl ⟨hone.trans (if_pos (Bool.and_eq_true_iff.mpr hl)), hl.1, .inl ⟨rfl, hl.2⟩⟩)
    · exact .inr (.inr ⟨hone.trans (if_neg (mt Bool.and_eq_true_iff.mp hl)), .inl ⟨rfl, hl⟩⟩)
  | admitted =>
    rw [hst] at hone
    by_cases hl : isLight i = true
    · exact .inr (.inl ⟨hone.trans (hlight hl), hl, .inr (.inl rfl)⟩)
    · exact .inr (.inr ⟨hone.trans (hdark hl), .inr (.inl ⟨.inl rfl, hl⟩)⟩)
  | reduced reason =>
    rw [hst] at hone
    cases reason with
    | level => exact .inl ⟨hone, .inr (.inl rfl)⟩
    | budget =>
      by_cases hl : isLight i = true
      · exact .inr (.inl ⟨hone.trans (hlight hl), hl, .inr (.inr rfl)⟩)
      · exact .inr (.inr ⟨hone.trans (hdark hl), .inr (.inl ⟨.inr rfl, hl⟩)⟩)
  | shed reason =>
    rw [hst] at hone
    cases reason with
    | level => exact .inl ⟨hone, .inr (.inr rfl)⟩
    | budget => exact .inr (.inr ⟨hone, .inr (.inr rfl)⟩)

theorem shedOne_eq (c : LoadClass) (s : State) (i : Fin 17) :
    shedOne c s i = s ∨ shedOne c s i = reduceLevel i s ∨ shedOne c s i = shedLoad i .level s := by
  by_cases h : s.budget.loads[i].cls = c ∧ sheddable i = true
  · rcases shedOne_cases h with ⟨he, _⟩ | ⟨he, _⟩ | ⟨he, _⟩
    · exact .inl he
    · exact .inr (.inl he)
    · exact .inr (.inr he)
  · exact .inl (shedOne_of_other h)

theorem shedOne_loads_ne (c : LoadClass) (s : State) (i j : Fin 17) (h : i ≠ j) :
    (shedOne c s i).budget.loads[j] = s.budget.loads[j] := by
  rcases shedOne_eq c s i with he | he | he
  · rw [he]
  · rw [he, reduceLevel_budget, place_loads_ne _ h]
  · rw [he, shedLoad_budget, place_loads_ne _ h]

theorem shedOne_shed (c : LoadClass) (s : State) (i : Fin 17) : (shedOne c s i).budget.shed = s.budget.shed := by
  rcases shedOne_eq c s i with he | he | he
  · rw [he]
  · rw [he, reduceLevel_budget, place_shed]
  · rw [he, shedLoad_budget, place_shed]

/-- The record that the table of R59 makes of a record of the class, in a state whose gate is as the record's state
needs it. -/
def shedRecord (s : State) (i : Fin 17) : LoadRecord :=
  match s.budget.loads[i].state with
  | .off | .reduced .level | .shed .level => s.budget.loads[i]
  | .reduced .budget => { s.budget.loads[i] with state := .reduced .level, claim := reducedClaim s i, hold := none }
  | .waiting | .admitted =>
    if isLight i = true ∧ s.budget.gateOpen = true then
      { s.budget.loads[i] with state := .reduced .level, claim := reducedClaim s i, hold := none }
    else { s.budget.loads[i] with state := .shed .level, claim := 0, hold := none }
  | .shed .budget => { s.budget.loads[i] with state := .shed .level, claim := 0, hold := none }

theorem shedLoad_loads_self (i : Fin 17) (s : State) : (shedLoad i .level s).budget.loads[i]
    = { s.budget.loads[i] with state := .shed .level, claim := 0, hold := none } := by
  rw [shedLoad_budget, place_loads_self]
  rfl

theorem reduceLevel_loads_self (i : Fin 17) (s : State) : (reduceLevel i s).budget.loads[i]
    = { s.budget.loads[i] with state := .reduced .level, claim := reducedClaim s i, hold := none } := by
  rw [reduceLevel_budget, place_loads_self]

/-- What the setting of a flag makes of a record, given what a sound table says of it: an ADMITTED record of class 1
to 3 stands behind an open gate (R50), and only a light is REDUCED (R65). -/
theorem shedOne_loads_self {c : LoadClass} {s : State} {i : Fin 17}
    (hgate : s.budget.loads[i].state = .admitted → s.budget.loads[i].cls = c → s.budget.gateOpen = true)
    (hlight : ∀ x, s.budget.loads[i].state = .reduced x → isLight i = true) :
    (shedOne c s i).budget.loads[i]
      = if s.budget.loads[i].cls = c ∧ sheddable i = true then shedRecord s i else s.budget.loads[i] := by
  by_cases hi : s.budget.loads[i].cls = c ∧ sheddable i = true
  · rw [if_pos hi]
    unfold shedRecord
    rcases shedOne_cases hi with ⟨he, hst⟩ | ⟨he, hl, hst⟩ | ⟨he, hst⟩
    · rw [he]
      rcases hst with hst | hst | hst <;> rw [hst]
    · rw [he, reduceLevel_loads_self]
      rcases hst with ⟨hst, hopen⟩ | hst | hst
      · simp only [hst, if_pos (And.intro hl hopen)]
      · simp only [hst, if_pos (And.intro hl (hgate hst hi.1))]
      · simp only [hst]
    · rw [he, shedLoad_loads_self]
      rcases hst with ⟨hst, hl⟩ | ⟨hst | hst, hl⟩ | hst
      · simp only [hst, if_neg hl]
      · simp only [hst, if_neg (fun h : isLight i = true ∧ s.budget.gateOpen = true => hl h.1)]
      · exact absurd (hlight _ hst) hl
      · simp only [hst]
  · rw [if_neg hi, shedOne_of_other hi]

theorem TableOk.shedOne {X : Fin 17 → Prop} {s : State} (h : TableOk X s) {c : LoadClass} (hc : c ≠ .c0) (i : Fin 17) :
    TableOk X (Machine.shedOne c s i) := by
  by_cases hi : s.budget.loads[i].cls = c ∧ sheddable i = true
  · obtain ⟨hcls, hsheds⟩ := hi
    have hne : s.budget.loads[i].cls ≠ .c0 := fun h' => hc (hcls.symm.trans h')
    have hgate (hdraws : drawsCurrent s.budget.loads[i].state = true) : s.budget.gateOpen = true := by
      by_contra hclosed
      exact absurd (hdraws.symm.trans (h.gate i (Bool.not_eq_true _ ▸ hclosed) hne)) nofun
    rcases shedOne_cases ⟨hcls, hsheds⟩ with ⟨he, _⟩ | ⟨he, hl, hst⟩ | ⟨he, _⟩
    · rw [he]
      exact h
    · rw [he]
      refine h.reduceLevel hne hl ?_
      rcases hst with ⟨_, hopen⟩ | hst | hst
      · exact hopen
      · exact hgate (by rw [hst]; rfl)
      · exact hgate (by rw [hst]; rfl)
    · rw [he]
      exact h.shed .level hne hsheds
  · rw [shedOne_of_other hi]
    exact h

/-- The state in which the setting or clearing of a flag treats the records. -/
def withFlag (c : LoadClass) (value : Bool) (s : State) : State :=
  s.setBudget { s.budget with shed := setClass s.budget.shed c value }

theorem perClass_setClass {α : Type} (p : PerClass α) (c d : LoadClass) (x : α) :
    perClass (setClass p c x) d = if d = c then x else perClass p d := by
  cases c <;> cases d <;> rfl

theorem TableOk.withFlag {X : Fin 17 → Prop} {s : State} (h : TableOk X s) {c : LoadClass} {value : Bool}
    (hc : c = .c0 → value = false) : TableOk X (withFlag c value s) where
  hold := h.hold
  claim := h.claim
  retry := h.retry
  admitted := h.admitted
  kind := h.kind
  gate := h.gate
  retryNodup := h.retryNodup
  admittedNodup := h.admittedNodup
  sorted := h.sorted
  own := h.own
  classZero := by
    have hzero := perClass_setClass s.budget.shed c .c0 value
    change perClass (setClass s.budget.shed c value) .c0 = false
    rw [hzero]
    split
    · next h0 => exact hc h0.symm
    · exact h.classZero

/-- The state after records have been treated under a flag being set, before the events are raised. -/
def shedAll (c : LoadClass) (l : List (Fin 17)) (s : State) : State := l.foldl (shedOne c) (withFlag c true s)

theorem setShedFlag_eq (c : LoadClass) (s : State) : setShedFlag c s =
    if c = .c1 then raiseEvent .socLow (raiseEvent .levelShed (countLevelShed (shedAll c (List.finRange 17) s)))
    else raiseEvent .levelShed (countLevelShed (shedAll c (List.finRange 17) s)) := rfl

theorem TableOk.shedAll {s : State} {X : Fin 17 → Prop} (h : TableOk X s) {c : LoadClass} (hc : c ≠ .c0)
    (l : List (Fin 17)) : TableOk X (Machine.shedAll c l s) :=
  foldl_induction (P := TableOk X) (fun _ i ht => ht.shedOne hc i) l (h.withFlag fun h0 => absurd h0 hc)

/-- What the setting of a flag makes of each record (R59). -/
theorem shedAll_loads {s : State} (h : BudgetOk s) {c : LoadClass} (hc : c ≠ .c0) {l : List (Fin 17)} (hl : l.Nodup)
    {i : Fin 17} (hi : i ∈ l) : (shedAll c l s).budget.loads[i]
      = if s.budget.loads[i].cls = c ∧ sheddable i = true then shedRecord s i else s.budget.loads[i] := by
  obtain ⟨m, hm, hmi, hfold⟩ : ∃ m : State, LoadSteps (withFlag c true s) m
      ∧ m.budget.loads[i] = s.budget.loads[i] ∧ (shedAll c l s).budget.loads[i] = (shedOne c m i).budget.loads[i] :=
    foldl_loads_of_mem (shedOne_loads_ne c) (loadSteps_shedOne c) hl hi _
  have hopen : m.budget.gateOpen = s.budget.gateOpen := hm.gateOpen
  have hclaim : reducedClaim m i = reducedClaim s i := reducedClaim_congr hm i
  have hrecord : shedRecord m i = shedRecord s i := by
    unfold shedRecord
    rw [hmi, hopen, hclaim]
  rw [hfold, shedOne_loads_self, hmi, hrecord]
  · intro hadm hcls
    rw [hmi] at hadm hcls
    rw [hopen]
    by_contra hclosed
    have hd := h.table.gate i (Bool.not_eq_true _ ▸ hclosed) (fun h0 => hc (hcls.symm.trans h0))
    rw [hadm] at hd
    cases hd
  · intro x hx
    rw [hmi] at hx
    exact (h.table.kind i).2.2 x hx

theorem shedAll_shed (c : LoadClass) (l : List (Fin 17)) (s : State) :
    (shedAll c l s).budget.shed = setClass s.budget.shed c true :=
  foldl_keeps (fun s => s.budget.shed) (shedOne c) (shedOne_shed c) l (withFlag c true s)

/-- After its records the setting of a flag moves counters and flags only. -/
theorem sameTable_setShedFlag (c : LoadClass) (s : State) :
    SameTable (shedAll c (List.finRange 17) s) (setShedFlag c s) := by
  rw [setShedFlag_eq]
  generalize shedAll c (List.finRange 17) s = u
  have hcount : SameTable u (countLevelShed u) := ⟨rfl, rfl, rfl, rfl, rfl, rfl, rfl, rfl, rfl, rfl, rfl⟩
  have hraise := hcount.trans (sameTable_raiseEvent .levelShed _)
  split
  · exact hraise.trans (sameTable_raiseEvent .socLow _)
  · exact hraise

theorem shedRecord_sound {s : State} (i : Fin 17) :
    (shedRecord s i).state ≠ .admitted ∧ waitsInList (shedRecord s i).state = false := by
  unfold shedRecord
  split
  · next h => rw [h]; exact ⟨nofun, rfl⟩
  · next h => rw [h]; exact ⟨nofun, rfl⟩
  · next h => rw [h]; exact ⟨nofun, rfl⟩
  · exact ⟨nofun, rfl⟩
  · split <;> exact ⟨nofun, rfl⟩
  · split <;> exact ⟨nofun, rfl⟩
  · exact ⟨nofun, rfl⟩

theorem BudgetOk.shedAll {s : State} (h : BudgetOk s) {c : LoadClass} (hc : c ≠ .c0) {l : List (Fin 17)}
    (hl : l.Nodup) (hmem : ∀ i, i ∈ l) : BudgetOk (Machine.shedAll c l s) := by
  refine (h.table.shedAll hc l).budgetOk fun i => ?_
  rw [shedOk_iff, shedAll_shed, shedAll_loads h hc hl (hmem i)]
  split
  · exact fun _ _ => shedRecord_sound i
  · next hi =>
    intro hset hsheds
    rw [perClass_setClass, if_neg (fun hcls => hi ⟨hcls, hsheds⟩)] at hset
    exact h.shedAt i hset hsheds

theorem BudgetOk.setShedFlag {s : State} (h : BudgetOk s) {c : LoadClass} (hc : c ≠ .c0) :
    BudgetOk (Machine.setShedFlag c s) :=
  budgetOk_congr (h.shedAll hc (List.nodup_finRange 17) List.mem_finRange) (sameTable_setShedFlag c s)

/-! ## Clearing a shed flag (R60) -/

theorem restoreLight_of_other {c : LoadClass} {s : State} {i : Fin 17}
    (h : ¬ (s.budget.loads[i].cls = c ∧ s.budget.loads[i].state = .reduced .level)) : restoreLight c s i = s := if_neg h

/-- A light restored is ADMITTED again, or becomes REDUCED(BUDGET) (R60). -/
theorem restoreLight_cases {c : LoadClass} {s : State} {i : Fin 17}
    (h : s.budget.loads[i].cls = c ∧ s.budget.loads[i].state = .reduced .level) :
    restoreLight c s i = admitLoad i s ∨ restoreLight c s i = setReduced i .budget s := by
  have hone : restoreLight c s i
      = if admissionTest s.budget c (s.budget.loads[i].rated - s.budget.loads[i].claim) then admitLoad i s
        else setReduced i .budget s := if_pos h
  rw [hone]
  split
  · exact .inl rfl
  · exact .inr rfl

theorem restoreShed_of_other {c : LoadClass} {s : State} {i : Fin 17}
    (h : ¬ (s.budget.loads[i].cls = c ∧ s.budget.loads[i].state = .shed .level)) : restoreShed c s i = s := if_neg h

theorem restoreShed_of_shed {c : LoadClass} {s : State} {i : Fin 17}
    (h : s.budget.loads[i].cls = c ∧ s.budget.loads[i].state = .shed .level) :
    restoreShed c s i = setWaiting i s := if_pos h

theorem joinRestored_loads (c : LoadClass) (s : State) (i : Fin 17) :
    (joinRestored c s i).budget.loads = s.budget.loads := by
  unfold joinRestored
  simp only
  split
  · exact joinRetry_loads i s
  · rfl

theorem joinRestored_shed (c : LoadClass) (s : State) (i : Fin 17) :
    (joinRestored c s i).budget.shed = s.budget.shed := by
  unfold joinRestored
  simp only
  split
  · exact joinRetry_shed i s
  · rfl

/-- The records that wait but have not yet joined the retry list, while a flag is being cleared. -/
def Restored (c : LoadClass) (s : State) (i : Fin 17) : Prop :=
  s.budget.loads[i].cls = c ∧ (s.budget.loads[i].state = .reduced .level ∨ s.budget.loads[i].state = .shed .level)

theorem restoreLight_loads_ne (c : LoadClass) (s : State) (i j : Fin 17) (h : i ≠ j) :
    (restoreLight c s i).budget.loads[j] = s.budget.loads[j] := by
  by_cases hi : s.budget.loads[i].cls = c ∧ s.budget.loads[i].state = .reduced .level
  · rcases restoreLight_cases hi with he | he
    · rw [he, admitLoad_budget, place_loads_ne _ h]
    · rw [he, setReduced_budget, place_loads_ne _ h]
  · rw [restoreLight_of_other hi]

theorem restoreShed_loads_ne (c : LoadClass) (s : State) (i j : Fin 17) (h : i ≠ j) :
    (restoreShed c s i).budget.loads[j] = s.budget.loads[j] := by
  by_cases hi : s.budget.loads[i].cls = c ∧ s.budget.loads[i].state = .shed .level
  · rw [restoreShed_of_shed hi, setWaiting_budget, place_loads_ne _ h]
  · rw [restoreShed_of_other hi]

theorem restoreLight_shed (c : LoadClass) (s : State) (i : Fin 17) :
    (restoreLight c s i).budget.shed = s.budget.shed := by
  by_cases hi : s.budget.loads[i].cls = c ∧ s.budget.loads[i].state = .reduced .level
  · rcases restoreLight_cases hi with he | he
    · rw [he, admitLoad_budget, place_shed]
    · rw [he, setReduced_budget, place_shed]
  · rw [restoreLight_of_other hi]

theorem restoreShed_shed (c : LoadClass) (s : State) (i : Fin 17) :
    (restoreShed c s i).budget.shed = s.budget.shed := by
  by_cases hi : s.budget.loads[i].cls = c ∧ s.budget.loads[i].state = .shed .level
  · rw [restoreShed_of_shed hi, setWaiting_budget, place_shed]
  · rw [restoreShed_of_other hi]

section
variable {X : Fin 17 → Prop} {c : LoadClass}

/-- The table with the records still to join apart: they are X, of the class, and every record of the class that is
REDUCED(LEVEL) or SHED(LEVEL) is one of them. -/
def Clearing (X : Fin 17 → Prop) (c : LoadClass) (s : State) : Prop :=
  TableOk X s ∧ (∀ i : Fin 17, Restored c s i → X i) ∧ ∀ i : Fin 17, X i → s.budget.loads[i].cls = c

theorem notMem_retry_of_restored {s : State} (h : Clearing X c s) {i : Fin 17} (hi : Restored c s i) :
    i ∉ s.budget.retry := fun hm => ((h.1.retry i).mp hm).2 (h.2.1 i hi)

/-- A record of the class written with its class kept, and not REDUCED(LEVEL) or SHED(LEVEL), keeps the rest. -/
theorem clearing_place {s t : State} (h : Clearing X c s) {i : Fin 17} {r : LoadRecord} {R A : List (Fin 17)}
    (ht : t.budget = place s.budget i r R A) (htable : TableOk X t) (hcls : r.cls = s.budget.loads[i].cls)
    (hr : r.state ≠ .reduced .level ∧ r.state ≠ .shed .level) : Clearing X c t := by
  obtain ⟨_, hrestored, hclass⟩ := h
  refine ⟨htable, fun j hj => ?_, fun j hj => ?_⟩
  · unfold Restored at hj
    by_cases hij : i = j
    · subst hij
      rw [ht, place_loads_self] at hj
      exact (hj.2.elim hr.1 hr.2).elim
    · rw [ht, place_loads_ne _ hij] at hj
      exact hrestored j hj
  · by_cases hij : i = j
    · subst hij; rw [ht, place_loads_self, hcls]; exact hclass _ hj
    · rw [ht, place_loads_ne _ hij]; exact hclass j hj

theorem Clearing.restoreLight {s : State} (h : Clearing X c s) (i : Fin 17) :
    Clearing X c (Machine.restoreLight c s i) := by
  by_cases hi : s.budget.loads[i].cls = c ∧ s.budget.loads[i].state = .reduced .level
  · obtain ⟨hcls, hst⟩ := hi
    have hrestored : Restored c s i := ⟨hcls, .inl hst⟩
    obtain ⟨hne, hsheds⟩ := h.1.sheddable_of_state (i := i) (by rw [hst]; nofun) (by rw [hst]; nofun)
    have hdraws : drawsCurrent s.budget.loads[i].state = true := by rw [hst]; rfl
    have hgate : s.budget.gateOpen = true := by
      by_contra hclosed
      exact absurd (hdraws.symm.trans (h.1.gate i (Bool.not_eq_true _ ▸ hclosed) hne)) nofun
    rcases restoreLight_cases ⟨hcls, hst⟩ with he | he
    · rw [he]
      exact clearing_place h (admitLoad_budget i s) (h.1.admits fun _ => hgate) rfl ⟨nofun, nofun⟩
    · rw [he]
      exact clearing_place h (setReduced_budget i .budget s)
        (h.1.setReduced (notMem_retry_of_restored h hrestored) hdraws hne ((h.1.kind i).2.2 _ hst)
          (h.2.1 i hrestored) fun _ _ => Iff.rfl) rfl ⟨nofun, nofun⟩
  · rw [restoreLight_of_other hi]
    exact h

theorem Clearing.restoreShed {s : State} (h : Clearing X c s) (i : Fin 17) :
    Clearing X c (Machine.restoreShed c s i) := by
  by_cases hi : s.budget.loads[i].cls = c ∧ s.budget.loads[i].state = .shed .level
  · obtain ⟨hcls, hst⟩ := hi
    have hrestored : Restored c s i := ⟨hcls, .inr hst⟩
    obtain ⟨hne, hsheds⟩ := h.1.sheddable_of_state (i := i) (by rw [hst]; nofun) (by rw [hst]; nofun)
    rw [restoreShed_of_shed ⟨hcls, hst⟩]
    exact clearing_place h (setWaiting_budget i s)
      (h.1.setWaiting (notMem_retry_of_restored h hrestored) (by rw [hst]; rfl) hne hsheds
        (h.2.1 i hrestored) fun _ _ => Iff.rfl) rfl ⟨nofun, nofun⟩
  · rw [restoreShed_of_other hi]
    exact h

/-- Each record of the class that waits joins the list as the join comes to it. -/
theorem TableOk.joinRestored {s : State} (h : TableOk X s) (hclass : ∀ i : Fin 17, X i → s.budget.loads[i].cls = c)
    (i : Fin 17) : TableOk (fun j => X j ∧ j ≠ i) (Machine.joinRestored c s i) := by
  unfold Machine.joinRestored
  simp only
  by_cases hx : X i
  · by_cases hw : waitsInList s.budget.loads[i].state = true
    · have hstate : s.budget.loads[i].state = .waiting ∨ s.budget.loads[i].state = .reduced .budget := by
        simpa [waitsInList, -Fin.getElem_fin] using hw
      rw [if_pos ⟨hclass i hx, hstate⟩]
      exact h.join hx hw fun _ => Iff.rfl
    · have hstate : ¬ (s.budget.loads[i].cls = c
          ∧ (s.budget.loads[i].state = .waiting ∨ s.budget.loads[i].state = .reduced .budget)) := fun h' =>
        hw (by rcases h'.2 with h' | h' <;> rw [h'] <;> rfl)
      rw [if_neg hstate]
      refine h.congr_set fun j hj => ⟨And.left, fun hxj => ⟨hxj, fun hji => ?_⟩⟩
      subst hji
      exact hw hj
  · have hset : TableOk (fun j => X j ∧ j ≠ i) s :=
      h.congr_set fun j _ => ⟨And.left, fun hxj => ⟨hxj, fun hji => hx (hji ▸ hxj)⟩⟩
    split
    · next hi =>
      have hw : waitsInList s.budget.loads[i].state = true := by rcases hi.2 with h' | h' <;> rw [h'] <;> rfl
      have hmem : i ∈ s.budget.retry := (h.retry i).mpr ⟨hw, hx⟩
      rw [joinRetry_of_mem hmem]
      exact hset
    · exact hset

theorem TableOk.joinAll {s : State} (h : TableOk X s) (hclass : ∀ i : Fin 17, X i → s.budget.loads[i].cls = c)
    (l : List (Fin 17)) : TableOk (fun j => X j ∧ j ∉ l) (l.foldl (Machine.joinRestored c) s) := by
  induction l generalizing X s with
  | nil => exact h.congr_set fun j _ => by simp
  | cons i l ih =>
    have hnext := ih (h.joinRestored hclass i) fun j hj => by rw [joinRestored_loads]; exact hclass j hj.1
    exact hnext.congr_set fun j _ => by simp [and_assoc]

end

end Sys2Proof.Machine

/-! The clearing of a shed flag as a whole, the events of the budget unit, and the two statements they settle. -/

namespace Sys2Proof.Machine

-- As in the tests, so that no command needs threads of its own.
set_option Elab.async false

/-- The clearing of a flag, over given lists of records. -/
def clearedAll (c : LoadClass) (lights sheds joins : List (Fin 17)) (s : State) : State :=
  joins.foldl (joinRestored c) (sheds.foldl (restoreShed c) (lights.foldl (restoreLight c) (withFlag c false s)))

theorem clearShedFlag_eq (c : LoadClass) (s : State) :
    clearShedFlag c s = clearedAll c s.budget.admitted (List.finRange 17) (List.finRange 17) s := rfl

section
variable {s : State} {c : LoadClass} {lights sheds joins : List (Fin 17)}

theorem clearedAll_shed : (clearedAll c lights sheds joins s).budget.shed = setClass s.budget.shed c false := by
  unfold clearedAll
  rw [foldl_keeps (fun s => s.budget.shed) (joinRestored c) (joinRestored_shed c),
    foldl_keeps (fun s => s.budget.shed) (restoreShed c) (restoreShed_shed c),
    foldl_keeps (fun s => s.budget.shed) (restoreLight c) (restoreLight_shed c)]
  rfl

theorem clearedAll_loads : (clearedAll c lights sheds joins s).budget.loads
    = (sheds.foldl (restoreShed c) (lights.foldl (restoreLight c) (withFlag c false s))).budget.loads := by
  unfold clearedAll
  rw [foldl_keeps (fun s => s.budget.loads) (joinRestored c) (joinRestored_loads c)]

/-- The lights' step leaves a record that is not a light of the class held at REDUCED(LEVEL). -/
theorem foldl_restoreLight_of_other {i : Fin 17} (l : List (Fin 17))
    (h : ¬ (s.budget.loads[i].cls = c ∧ s.budget.loads[i].state = .reduced .level)) :
    (l.foldl (restoreLight c) s).budget.loads[i] = s.budget.loads[i] := by
  refine foldl_induction (P := fun t => t.budget.loads[i] = s.budget.loads[i]) (fun t j ht => ?_) l rfl
  by_cases hji : j = i
  · subst hji; rw [restoreLight_of_other (by rwa [ht]), ht]
  · rw [restoreLight_loads_ne c t j i hji, ht]

/-- The shed records' step leaves a record that is not a SHED(LEVEL) one of the class. -/
theorem foldl_restoreShed_of_other {i : Fin 17} (l : List (Fin 17))
    (h : ¬ (s.budget.loads[i].cls = c ∧ s.budget.loads[i].state = .shed .level)) :
    (l.foldl (restoreShed c) s).budget.loads[i] = s.budget.loads[i] := by
  refine foldl_induction (P := fun t => t.budget.loads[i] = s.budget.loads[i]) (fun t j ht => ?_) l rfl
  by_cases hji : j = i
  · subst hji; rw [restoreShed_of_other (by rwa [ht]), ht]
  · rw [restoreShed_loads_ne c t j i hji, ht]

theorem clearedAll_loads_of_other {i : Fin 17} (h : ¬ Restored c s i) :
    (clearedAll c lights sheds joins s).budget.loads[i] = s.budget.loads[i] := by
  have hlight : (lights.foldl (restoreLight c) (withFlag c false s)).budget.loads[i] = s.budget.loads[i] :=
    foldl_restoreLight_of_other lights fun h' => h ⟨h'.1, .inl h'.2⟩
  rw [clearedAll_loads, foldl_restoreShed_of_other sheds, hlight]
  rw [hlight]
  exact fun h' => h ⟨h'.1, .inr h'.2⟩

/-- A SHED(LEVEL) record of the class becomes WAITING. -/
theorem clearedAll_loads_of_shed {i : Fin 17} (hsheds : sheds.Nodup) (hi : i ∈ sheds)
    (h : s.budget.loads[i].cls = c ∧ s.budget.loads[i].state = .shed .level) :
    (clearedAll c lights sheds joins s).budget.loads[i]
      = { s.budget.loads[i] with state := .waiting, claim := 0, hold := none } := by
  have hlight : (lights.foldl (restoreLight c) (withFlag c false s)).budget.loads[i] = s.budget.loads[i] :=
    foldl_restoreLight_of_other lights fun h' => absurd (h.2.symm.trans h'.2) nofun
  obtain ⟨m, _, hmi, hfold⟩ := foldl_loads_of_mem (restoreShed_loads_ne c) (loadSteps_restoreShed c) hsheds hi
    (lights.foldl (restoreLight c) (withFlag c false s))
  rw [hlight] at hmi
  rw [clearedAll_loads, hfold, restoreShed_of_shed (by rwa [hmi]), setWaiting_budget, place_loads_self, hmi]

/-- A light of the class held at REDUCED(LEVEL) is ADMITTED again, or becomes REDUCED(BUDGET). -/
theorem clearedAll_loads_of_light {i : Fin 17} (hlights : lights.Nodup) (hi : i ∈ lights)
    (h : s.budget.loads[i].cls = c ∧ s.budget.loads[i].state = .reduced .level) :
    (clearedAll c lights sheds joins s).budget.loads[i]
        = { s.budget.loads[i] with state := .admitted, claim := s.budget.loads[i].rated, hold := none }
    ∨ (clearedAll c lights sheds joins s).budget.loads[i]
        = { s.budget.loads[i] with state := .reduced .budget, claim := reducedClaim s i, hold := none } := by
  obtain ⟨m, hm, hmi, hfold⟩ : ∃ m : State, LoadSteps (withFlag c false s) m
      ∧ m.budget.loads[i] = s.budget.loads[i]
      ∧ (lights.foldl (restoreLight c) (withFlag c false s)).budget.loads[i] = (restoreLight c m i).budget.loads[i] :=
    foldl_loads_of_mem (restoreLight_loads_ne c) (loadSteps_restoreLight c) hlights hi _
  have hclaim : reducedClaim m i = reducedClaim s i := reducedClaim_congr hm i
  rcases restoreLight_cases (c := c) (s := m) (i := i) (by rwa [hmi]) with he | he
  · rw [he, admitLoad_budget, place_loads_self, hmi] at hfold
    left
    rw [clearedAll_loads, foldl_restoreShed_of_other sheds, hfold]
    rw [hfold]
    exact fun h' => absurd h'.2 nofun
  · rw [he, setReduced_budget, place_loads_self, hmi, hclaim] at hfold
    right
    rw [clearedAll_loads, foldl_restoreShed_of_other sheds, hfold]
    rw [hfold]
    exact fun h' => absurd h'.2 nofun

theorem clearedAll_cls (h : BudgetOk s) (hsheds : sheds.Nodup) (hmem : ∀ i, i ∈ sheds) (i : Fin 17) :
    (clearedAll c s.budget.admitted sheds joins s).budget.loads[i].cls = s.budget.loads[i].cls := by
  by_cases hl : s.budget.loads[i].cls = c ∧ s.budget.loads[i].state = .reduced .level
  · have hi : i ∈ s.budget.admitted := by rw [h.mem_admitted, hl.2]; rfl
    rcases clearedAll_loads_of_light (sheds := sheds) (joins := joins) h.table.admittedNodup hi hl with he | he
    · rw [he]
    · rw [he]
  · by_cases hs : s.budget.loads[i].cls = c ∧ s.budget.loads[i].state = .shed .level
    · rw [clearedAll_loads_of_shed hsheds (hmem i) hs]
    · rw [clearedAll_loads_of_other fun hr => hr.2.elim (fun h' => hl ⟨hr.1, h'⟩) fun h' => hs ⟨hr.1, h'⟩]

theorem shedOk_clearedAll (h : BudgetOk s) (hsheds : sheds.Nodup) (hmem : ∀ i, i ∈ sheds) (i : Fin 17) :
    ShedOk (clearedAll c s.budget.admitted sheds joins s) i := by
  rw [shedOk_iff, clearedAll_shed]
  by_cases hi : s.budget.loads[i].cls = c
  · refine shedAt_of_clear (.inl ?_)
    rw [clearedAll_cls h hsheds hmem, perClass_setClass, if_pos hi]
  · rw [clearedAll_loads_of_other fun hr => hi hr.1]
    intro hset
    rw [perClass_setClass, if_neg hi] at hset
    exact h.shedAt i hset

theorem BudgetOk.clearedAll (h : BudgetOk s) (hsheds : sheds.Nodup) (hmem : ∀ i, i ∈ sheds)
    (hjoins : ∀ i, i ∈ joins) : BudgetOk (Machine.clearedAll c s.budget.admitted sheds joins s) := by
  have hstart : Clearing (Restored c s) c (withFlag c false s) := by
    refine ⟨(h.table.withFlag fun _ => rfl).congr_set fun i hw => ⟨fun hr => ?_, False.elim⟩, fun i hi => hi,
      fun i hi => hi.1⟩
    have hw : waitsInList s.budget.loads[i].state = true := hw
    rcases hr.2 with hst | hst <;> rw [hst] at hw <;> cases hw
  have hlights := foldl_induction (P := Clearing (Restored c s) c) (fun _ i ht => ht.restoreLight i) s.budget.admitted hstart
  have hrestored := foldl_induction (P := Clearing (Restored c s) c) (fun _ i ht => ht.restoreShed i) sheds hlights
  have htable := hrestored.1.joinAll hrestored.2.2 joins
  exact (htable.congr_set fun i _ => ⟨False.elim, fun hx => hx.2 (hjoins i)⟩).budgetOk (shedOk_clearedAll h hsheds hmem)

end

theorem BudgetOk.clearShedFlag {s : State} (h : BudgetOk s) (c : LoadClass) : BudgetOk (Machine.clearShedFlag c s) := by
  rw [clearShedFlag_eq]
  exact h.clearedAll (List.nodup_finRange 17) List.mem_finRange List.mem_finRange

/-! ## The events of the budget unit keep it sound -/

theorem BudgetOk.evalShedFlag {s : State} (h : BudgetOk s) {c : LoadClass} (hc : c ≠ .c0) :
    BudgetOk (Machine.evalShedFlag s c) := by
  unfold Machine.evalShedFlag
  simp only
  split
  · split
    · exact h.clearShedFlag c
    · exact h
  · split
    · split
      · exact h.clearShedFlag c
      · exact h
    · split
      · exact h.setShedFlag hc
      · exact h

theorem BudgetOk.evalShedFlags {s : State} (h : BudgetOk s) : BudgetOk (Machine.evalShedFlags s) := by
  unfold Machine.evalShedFlags
  split
  · exact ((h.evalShedFlag (by decide)).evalShedFlag (by decide)).evalShedFlag (by decide)
  · exact h

/-- Inputs replaced, and what is computed from them, leave the table as it is. -/
theorem budgetOk_setBudget {s : State} (h : BudgetOk s) {b : Budget} (hloads : b.loads = s.budget.loads := by rfl)
    (hown : b.own = s.budget.own := by rfl) (hretry : b.retry = s.budget.retry := by rfl)
    (hadmitted : b.admitted = s.budget.admitted := by rfl) (hshed : b.shed = s.budget.shed := by rfl)
    (hgate : b.gateOpen = s.budget.gateOpen := by rfl) : BudgetOk (s.setBudget b) := by
  unfold BudgetOk RecordOk KindOk GateOk ShedOk claimOf reducedClaim at h ⊢
  simp only [State.setBudget_budget, State.setBudget_params, hloads, hown, hretry, hadmitted, hshed, hgate]
  exact h

theorem BudgetOk.reevaluate {s : State} (h : BudgetOk s) (b : Budget) : BudgetOk (Machine.reevaluate b s) := by
  have hcompute : BudgetOk (computeBudget s) := budgetOk_setBudget h
  exact hcompute.evalShedFlags.settle _ _

theorem victim_mem {b : Budget} {i : Fin 17} (h : victim b = some i) :
    i ∈ b.admitted ∧ (victimIn b .c3 i = true ∨ victimIn b .c2 i = true ∨ victimIn b .c1 i = true) := by
  unfold victim at h
  simp only [Option.or_eq_some_iff] at h
  rcases h with h | ⟨_, h | ⟨_, h⟩⟩
  · exact ⟨List.mem_reverse.mp (List.mem_of_find?_eq_some h), .inl (List.find?_some h)⟩
  · exact ⟨List.mem_reverse.mp (List.mem_of_find?_eq_some h), .inr (.inl (List.find?_some h))⟩
  · exact ⟨List.mem_reverse.mp (List.mem_of_find?_eq_some h), .inr (.inr (List.find?_some h))⟩

theorem victimIn_iff (b : Budget) (c : LoadClass) (i : Fin 17) : victimIn b c i = true ↔
    sheddable i = true ∧ b.loads[i].cls = c ∧ drawsCurrent b.loads[i].state = true := by
  unfold victimIn
  cases hst : b.loads[i].state <;> simp [hst, drawsCurrent, -Fin.getElem_fin]

theorem victim_sound {b : Budget} {i : Fin 17} (h : victim b = some i) :
    sheddable i = true ∧ b.loads[i].cls ≠ .c0 ∧ drawsCurrent b.loads[i].state = true := by
  obtain ⟨_, h⟩ := victim_mem h
  simp only [victimIn_iff] at h
  rcases h with ⟨hs, hc, hd⟩ | ⟨hs, hc, hd⟩ | ⟨hs, hc, hd⟩
  · exact ⟨hs, by rw [hc]; nofun, hd⟩
  · exact ⟨hs, by rw [hc]; nofun, hd⟩
  · exact ⟨hs, by rw [hc]; nofun, hd⟩

theorem BudgetOk.takeVictim {s : State} (h : BudgetOk s) {i : Fin 17} (hv : victim s.budget = some i) :
    BudgetOk (Machine.takeVictim i s) := by
  obtain ⟨hsheds, hcls, hdraws⟩ := victim_sound hv
  unfold Machine.takeVictim
  split
  · next hl =>
    obtain ⟨hlight, hadm⟩ := Bool.and_eq_true_iff.mp hl
    have hadm : s.budget.loads[i].state = .admitted := by simpa using hadm
    have hmem : i ∉ s.budget.retry := by rw [h.mem_retry, hadm]; nofun
    have hset : TableOk (fun j => j = i) (Machine.setReduced i .budget s) :=
      h.table.setReduced hmem hdraws hcls hlight rfl fun j hj => by simp [hj]
    have hstate : (Machine.setReduced i .budget s).budget.loads[i].state = .reduced .budget := by
      rw [setReduced_budget, place_loads_self]
    refine (hset.join rfl (by rw [hstate]; rfl) fun j => by simp).budgetOk (shedOk_joinRetry ?_ i)
    refine shedOk_place h.shedAt (setReduced_budget i .budget s) (shedAt_of_clear (.inl ?_))
    by_contra hset
    exact (h.shedAt i (Bool.not_eq_false _ ▸ hset) hsheds).1 hadm
  · exact h.shed .budget hcls hsheds

theorem BudgetOk.dwellExpires {s : State} (h : BudgetOk s) : BudgetOk (Machine.dwellExpires s) := by
  unfold Machine.dwellExpires
  split
  · exact budgetOk_congr h (sameTable_restartDwell s)
  · next i hi =>
    have hcount : BudgetOk ((Machine.takeVictim i s).setBudget { (Machine.takeVictim i s).budget with
        budgetSheds := countUp (Machine.takeVictim i s).budget.budgetSheds }) := budgetOk_setBudget (h.takeVictim hi)
    have hraise := budgetOk_congr hcount (sameTable_raiseEvent .budgetShed _)
    exact (budgetOk_congr hraise (sameTable_restartDwell _)).settle _ _

theorem BudgetOk.holdExpires {s : State} (h : BudgetOk s) {i : Fin 17} (hi : s.budget.loads[i].state = .shed .budget) :
    BudgetOk (Machine.holdExpires i s) := by
  obtain ⟨hcls, hsheds⟩ := h.table.sheddable_of_state (i := i) (by rw [hi]; nofun) (by rw [hi]; nofun)
  unfold Machine.holdExpires
  simp only
  refine BudgetOk.settle ?_ _ _
  split
  · exact h.shed .level hcls hsheds
  · next hset => exact h.wait (by rw [hi]; rfl) (by rw [hi]; rfl) hcls hsheds (Bool.not_eq_true _ ▸ hset)

theorem BudgetOk.openGate {s : State} (h : BudgetOk s) : BudgetOk (Machine.openGate s) := by
  unfold Machine.openGate
  refine BudgetOk.settle ?_ _ _
  obtain ⟨hrec, hrest⟩ := h
  exact ⟨fun i => ⟨(hrec i).1, (hrec i).2.1, nofun, (hrec i).2.2.2⟩, hrest⟩

theorem LoadEvent.budgetOk {e : Effect} {s t : State} (h : LoadEvent e s t) (hs : BudgetOk s) : BudgetOk t := by
  cases h with
  | ask i _ hi => exact hs.ask hi
  | release i => exact hs.release i
  | askRetraction a => exact hs.askRetraction a
  | askExtension a => exact hs.askExtension a
  | ownBank o =>
    have hinput : BudgetOk (s.setBudget { s.budget with ownBank := some o }) := budgetOk_setBudget hs
    exact hinput.reevaluate _
  | quantities banks supply known sums =>
    have hinput : BudgetOk (s.setBudget { s.budget with
      peerBanks := banks, supplySum := supply, supplyKnown := known, claimSums := sums }) := budgetOk_setBudget hs
    exact hinput.reevaluate _
  | dwell => exact hs.dwellExpires
  | hold i _ hi => exact hs.holdExpires hi
  | gate => exact hs.openGate
  | claim => exact budgetOk_congr hs (sameTable_queueClaim s)

theorem sameTable_clearPage (page : Nat) (s : State) : SameTable s (clearPage page s) := by
  unfold clearPage
  split
  · exact ⟨rfl, rfl, rfl, rfl, rfl, rfl, rfl, rfl, rfl, rfl, rfl⟩
  · split <;> exact ⟨rfl, rfl, rfl, rfl, rfl, rfl, rfl, rfl, rfl, rfl, rfl⟩

/-- A chain of acts keeps the budget unit sound. -/
theorem Acts.budgetOk {L : List Effect} {s t : State} (h : Acts L s t) (hs : BudgetOk s) : BudgetOk t := by
  induction h with
  | refl => exact hs
  | event _ _ k ih => exact k.budgetOk ih
  | send _ _ _ _ ih => exact budgetOk_congr ih (sameTable_sendTelegram _ _ _)
  | raise _ _ ih => exact budgetOk_congr ih (sameTable_raiseEvent _ _)
  | write _ _ k ih => exact budgetOk_congr ih (sameTable_of_budget k.params k.budget)
  | clear _ _ _ ih => exact budgetOk_congr ih (sameTable_clearPage _ _)

/-! ## What a command can do -/

/-- The next states a command can have: a chain of its acts, the reset values, the wait for the second read, the
blocks' start, the line's own change, a CLASH, and a valid frame handed on. -/
inductive Ran (c : Instr) (s : State) : State → Prop where
  | chain {t : State} : isChain c = true → Acts (effectsOf c) s t → Ran c s t
  | stays : Ran c s s
  | reset (straps : Station) (storage : Bool) (bank : Bank) :
      (storage = false ∨ storage = s.boot.storage) → (bank = Bank.reset ∨ bank = retainBank s.running s.bank) →
      Ran c s (keepModelFields s (State.afterReset straps storage bank))
  | waits : s.running = false → Ran c s (awaitRetry s)
  | starts (record : List Byte) (passed : Bool) (inputs : StartInputs) : s.running = false →
      Ran c s (startBlocks record passed inputs s)
  | line (l : Line) : (s.running = false → l = s.line) → Ran c s (s.setLine l)
  | clash (l : Line) : s.running = true → Ran c s (raiseEvent .clash (s.setLine l))
  | hands (h : Word) (payload : List Byte) : s.running = true → headerOrigin h ≠ 0#4 →
      headerOrigin h ≠ s.boot.station → Ran c s (handTelegram h payload (frameEnded s))

theorem checkFrame_valid {own : Station} {h : Word} {payload : List Byte} {check : Byte}
    (hvalid : checkFrame own h payload check = .valid) : headerOrigin h ≠ 0#4 ∧ headerOrigin h ≠ own := by
  unfold checkFrame at hvalid
  split at hvalid
  · cases hvalid
  · split at hvalid
    · cases hvalid
    · split at hvalid
      · cases hvalid
      · next h0 =>
        split at hvalid
        · cases hvalid
        · next hown => exact ⟨h0, hown⟩

theorem exec_ran {c : Instr} {s t : State} (he : exec c s = .next t) : Ran c s t := by
  have heq {u : State} (hu : exec c s = .next u) : t = u := Host.Outcome.next.inj (he.symm.trans hu)
  by_cases hc : isChain c = true
  · obtain ⟨u, hu, hacts⟩ := exec_nextBy c s hc
    rw [heq hu]
    exact .chain hc hacts
  · have hread (hread : (∃ r inputs, c = .recordReadComplete r inputs) ∨ ∃ r inputs, c = .recordReadRetry r inputs) :
        Ran c s t := by
      rcases exec_recordRead_cases s hread with hr | ⟨hrun, hr⟩ | ⟨hrun, record, passed, inputs, hr⟩
      · rw [heq hr]; exact .stays
      · rw [heq hr]; exact .waits hrun
      · rw [heq hr]; exact .starts record passed inputs hrun
    have hline (hline : isLineEvent c = true) : Ran c s t := by
      obtain ⟨l, hl, hsame⟩ := exec_lineEvent c s hline
      rw [heq hl]
      exact .line l hsame
    cases c with
    | powerOnReset straps =>
      rw [heq (u := keepModelFields s (State.afterReset straps false Bank.reset)) rfl]
      exact .reset straps false _ (.inl rfl) (.inl rfl)
    | resetPinReset straps =>
      rw [heq (u := keepModelFields s (State.afterReset straps s.boot.storage (retainBank s.running s.bank))) rfl]
      exact .reset straps _ _ (.inr rfl) (.inr rfl)
    | recordReadComplete r inputs => exact hread (.inl ⟨r, inputs, rfl⟩)
    | recordReadRetry r inputs => exact hread (.inr ⟨r, inputs, rfl⟩)
    | frameReceived h payload check =>
      rcases exec_frameReceived_cases h payload check s with hr | ⟨hrun, l, _, _, _, hr | hr⟩ | ⟨hrun, hvalid, hr⟩
      · rw [heq hr]; exact .stays
      · rw [heq hr]; exact .line l fun h' => absurd (hrun.symm.trans h') nofun
      · rw [heq hr]; exact .clash l hrun
      · rw [heq hr]
        obtain ⟨h0, hown⟩ := checkFrame_valid hvalid
        exact .hands h payload hrun h0 hown
    | lineIdle | lineFallingEdge | contentionLoss | txCollision | frameSent | receiveError => exact hline rfl
    | _ => exact absurd rfl hc

/-! ## The load table stays consistent -/

theorem ownTotals_of_off {loads : Vector LoadRecord 17} (h : ∀ i : Fin 17, loads[i].state = .off) :
    ownTotals loads = ⟨0, 0, 0, 0⟩ := by
  have hzero (c : LoadClass) : ownTotal loads c = 0 := by
    unfold ownTotal
    refine List.sum_eq_zero fun x hx => ?_
    obtain ⟨i, _, rfl⟩ := List.mem_map.mp hx
    unfold claimIn
    rw [h i]
  unfold ownTotals
  rw [hzero, hzero, hzero, hzero]

/-- A budget unit with every load OFF, no list filled and no flag of class 0 set is sound. -/
theorem budgetOk_of_off {s : State} (hstate : ∀ i : Fin 17, s.budget.loads[i].state = .off)
    (hclaim : ∀ i : Fin 17, s.budget.loads[i].claim = 0) (hhold : ∀ i : Fin 17, s.budget.loads[i].hold = none)
    (hcls : ∀ i : Fin 17, classAllowed i s.budget.loads[i].cls = true) (hretry : s.budget.retry = [])
    (hadmitted : s.budget.admitted = []) (hown : s.budget.own = ⟨0, 0, 0, 0⟩) (hshed : s.budget.shed.c0 = false) :
    BudgetOk s := by
  refine ⟨fun i => ⟨⟨?_, ?_, ?_, ?_⟩, ⟨hcls i, fun _ => .inl (hstate i), ?_⟩, fun _ _ => ?_, fun _ _ => ⟨?_, ?_⟩⟩,
    by rw [hretry]; exact .nil, by rw [hadmitted]; exact .nil, by rw [hretry]; exact .nil,
    by rw [hown, ownTotals_of_off hstate], hshed⟩
  · rw [hhold i, hstate i]; exact ⟨nofun, nofun⟩
  · rw [hclaim i, hstate i]; rfl
  · rw [hretry, hstate i]; exact ⟨nofun, nofun⟩
  · rw [hadmitted, hstate i]; exact ⟨nofun, nofun⟩
  · rw [hstate i]; nofun
  · rw [hstate i]; rfl
  · rw [hstate i]; nofun
  · rw [hstate i]; rfl

theorem reset_loads (i : Fin 17) : Budget.reset.loads[i] = LoadRecord.reset i := by
  simp [Budget.reset]

theorem startedBudget_loads (p : Params) (i : Fin 17) : (startedBudget p).loads[i] =
    { LoadRecord.reset i with cls := startClass p i, rated := startRated p i } := by
  simp [startedBudget]

theorem classAllowed_initial : ∀ i : Fin 17, classAllowed i (LoadClass.initial i) = true := by decide

theorem classAllowed_startClass (p : Params) (i : Fin 17) : classAllowed i (startClass p i) = true := by
  unfold startClass
  split
  · next h => unfold classAllowed
              rw [if_pos h]
              split <;> rfl
  · exact classAllowed_initial i

theorem budgetOk_of_reset {s : State} (h : s.budget = Budget.reset) : BudgetOk s := by
  refine budgetOk_of_off ?_ ?_ ?_ ?_ ?_ ?_ ?_ ?_ <;> rw [h]
  · intro i; rw [reset_loads]; rfl
  · intro i; rw [reset_loads]; rfl
  · intro i; rw [reset_loads]; rfl
  · intro i; rw [reset_loads]; exact classAllowed_initial i
  all_goals rfl

theorem budgetOk_settledState (record : List Byte) (passed : Bool) (s : State) :
    BudgetOk (settledState record passed s) := by
  have hbudget : (settledState record passed s).budget
      = startedBudget (if passed then paramsOfRecord record else Params.fallback) := rfl
  refine budgetOk_of_off ?_ ?_ ?_ ?_ ?_ ?_ ?_ ?_ <;> rw [hbudget]
  · intro i; rw [startedBudget_loads]; rfl
  · intro i; rw [startedBudget_loads]; rfl
  · intro i; rw [startedBudget_loads]; rfl
  · intro i; rw [startedBudget_loads]; exact classAllowed_startClass _ i
  all_goals rfl

theorem tickLoad_hold_isSome (r : LoadRecord) : (tickLoad r).hold.isSome = r.hold.isSome := by
  rw [tickLoad_hold, Option.isSome_map]

theorem ownTotals_tick (station : Station) (b : Budget) : ownTotals (tickBudget station b).loads = ownTotals b.loads := by
  have htotal (c : LoadClass) : ownTotal (tickBudget station b).loads c = ownTotal b.loads c := by
    unfold ownTotal
    refine congrArg List.sum (List.map_congr_left fun i _ => ?_)
    rw [tickBudget_loads]
    rfl
  unfold ownTotals
  rw [htotal, htotal, htotal, htotal]

/-- A millisecond moves the timers of the budget unit only. -/
theorem budgetOk_tickBudget {s t : State} (h : BudgetOk s) (station : Station) (hp : t.params = s.params)
    (hb : t.budget = tickBudget station s.budget) : BudgetOk t := by
  obtain ⟨hown, hretry, hadmitted⟩ := tickBudget_kept station s.budget
  have hload (i : Fin 17) : t.budget.loads[i] = tickLoad s.budget.loads[i] := by rw [hb, tickBudget_loads]
  have htable := h.table
  have hclass : t.budget.shed = s.budget.shed ∧ t.budget.gateOpen = s.budget.gateOpen := by
    rw [hb]; unfold tickBudget; exact ⟨rfl, rfl⟩
  obtain ⟨hshed, hgate⟩ := hclass
  refine TableOk.budgetOk ?_ fun i => ?_
  · constructor
    case hold => intro i; rw [hload, tickLoad_hold_isSome]; exact htable.hold i
    case claim => intro i; rw [claimOf_congr hp (by rw [hload]; rfl), hload]; exact htable.claim i
    case retry => intro i; rw [hb, hretry, tickBudget_loads]; exact htable.retry i
    case admitted => intro i; rw [hb, hadmitted, tickBudget_loads]; exact htable.admitted i
    case kind => intro i; unfold KindOk; rw [hload]; exact htable.kind i
    case gate => intro i; unfold GateOk; rw [hload, hgate]; exact htable.gate i
    case retryNodup => rw [hb, hretry]; exact htable.retryNodup
    case admittedNodup => rw [hb, hadmitted]; exact htable.admittedNodup
    case sorted =>
      unfold Sorted
      rw [show t.budget.retry = s.budget.retry by rw [hb, hretry]]
      simp only [hload]
      exact htable.sorted
    case own => rw [hb, hown, ownTotals_tick]; exact htable.own
    case classZero => rw [hshed]; exact htable.classZero
  · rw [shedOk_iff, hload, hshed]
    exact h.shedAt i

/-- A cell's time leaves the parameters, and the budget unit but for a millisecond of its timers. -/
theorem tick_budget (s : State) : (tick s).budget = s.budget ∨ (tick s).budget = tickBudget s.boot.station s.budget := by
  unfold tick
  have hline : (if s.running then s.setLine (tickLine s.line) else s).budget = s.budget
      ∧ (if s.running then s.setLine (tickLine s.line) else s).boot = s.boot := by split <;> exact ⟨rfl, rfl⟩
  obtain ⟨hbudget, hboot⟩ := hline
  simp only
  generalize (if s.running then s.setLine (tickLine s.line) else s) = u at hbudget hboot
  split
  · cases hr : u.running with
    | true => rw [tickMs_of_running hr]; exact .inr (by rw [hbudget, hboot])
    | false => rw [tickMs_of_not_running hr]; exact .inl hbudget
  · exact .inl hbudget

theorem budgetOk_tick {s : State} (h : BudgetOk s) : BudgetOk (tick s) := by
  rcases tick_budget s with hb | hb
  · exact budgetOk_congr h (sameTable_of_budget (tick_params s) hb)
  · exact budgetOk_tickBudget h _ (tick_params s) hb

theorem exec_budgetOk {c : Instr} {s t : State} (hs : BudgetOk s) (he : exec c s = .next t) : BudgetOk t := by
  cases exec_ran he with
  | chain _ hacts => exact hacts.budgetOk hs
  | stays => exact hs
  | reset => exact budgetOk_of_reset rfl
  | waits => exact budgetOk_congr hs (sameTable_of_budget rfl rfl)
  | starts record passed inputs =>
    exact (acts_startBlocks record passed inputs s).budgetOk (budgetOk_settledState record passed s)
  | line l => exact budgetOk_congr hs (sameTable_of_budget rfl rfl)
  | clash l => exact budgetOk_congr (budgetOk_congr hs (sameTable_of_budget rfl rfl)) (sameTable_raiseEvent _ _)
  | hands h payload =>
    exact (acts_handTelegram h payload _).budgetOk (budgetOk_congr hs (sameTable_of_budget rfl rfl))

/-- Settles O7: every operation of the budget unit writes one record soundly with its place in the lists, and a flag
change treats its records one by one. -/
theorem loadTableStaysConsistent : Obligations.LoadTableStaysConsistent :=
  keptByEveryStep (fun _ _ h => h) (fun _ _ _ => exec_budgetOk) (fun _ => budgetOk_tick)

end Sys2Proof.Machine

/-! The budget unit's own statements: handovers, shed flags, asks, the admission pass and the over-budget watch. -/

namespace Sys2Proof.Machine

-- As in the tests, so that no command needs threads of its own.
set_option Elab.async false

/-! ## The pass and the end of an event leave the flags and counters -/

@[simp] theorem place_levelSheds (b : Budget) (i : Fin 17) (r : LoadRecord) (R A : List (Fin 17)) :
    (place b i r R A).levelSheds = b.levelSheds := by unfold place; rfl
@[simp] theorem place_budgetSheds (b : Budget) (i : Fin 17) (r : LoadRecord) (R A : List (Fin 17)) :
    (place b i r R A).budgetSheds = b.budgetSheds := by unfold place; rfl

/-- What a pass and the end of an event leave of the budget unit: the flags and the two counters. -/
def flagsAndCounters (s : State) : PerClass Bool × Nat × Nat :=
  (s.budget.shed, s.budget.levelSheds, s.budget.budgetSheds)

theorem flagsAndCounters_place {s t : State} {i : Fin 17} {r : LoadRecord} {R A : List (Fin 17)}
    (h : t.budget = place s.budget i r R A) : flagsAndCounters t = flagsAndCounters s := by
  unfold flagsAndCounters
  rw [h, place_shed, place_levelSheds, place_budgetSheds]

theorem flagsAndCounters_of_budget {s t : State} (h : t.budget = s.budget) : flagsAndCounters t = flagsAndCounters s := by
  unfold flagsAndCounters
  rw [h]

theorem flagsAndCounters_passOver (l : List (Fin 17)) (s : State) :
    flagsAndCounters (passOver l s) = flagsAndCounters s := by
  induction l generalizing s with
  | nil => rfl
  | cons i rest ih =>
    rcases passOver_cons i rest s with he | ⟨_, he⟩
    · rw [he]
    · rw [he, ih, flagsAndCounters_place (admitLoad_budget i s)]

theorem flagsAndCounters_admissionPass (s : State) : flagsAndCounters (admissionPass s) = flagsAndCounters s := by
  unfold admissionPass
  split
  · exact flagsAndCounters_passOver _ s
  · rfl

theorem flagsAndCounters_claimAfter (before : PerClass Nat) (s : State) :
    flagsAndCounters (claimAfter before s) = flagsAndCounters s := by
  unfold claimAfter
  split
  · rfl
  · split
    · unfold queueClaim
      split
      · rfl
      · exact flagsAndCounters_of_budget (s := s.setBudget { s.budget with claimTimer := 0, claimDue := false })
          (sendTelegram_budget _ _ _)
    · rfl

theorem flagsAndCounters_settle (before : PerClass Nat) (callsForPass : Bool) (s : State) :
    flagsAndCounters (settle before callsForPass s) = flagsAndCounters s := by
  unfold settle
  cases callsForPass
  · exact flagsAndCounters_claimAfter _ _
  · exact (flagsAndCounters_claimAfter _ _).trans (flagsAndCounters_admissionPass (evalOver s))

/-! ## The governing SoC and the budget (R41, R43) -/

theorem lowestSoc_eq_min? (l : List (Nat × Nat)) : lowestSoc l = (l.map Prod.fst).min? := by
  induction l with
  | nil => rfl
  | cons b rest ih =>
    obtain ⟨soc, limit⟩ := b
    rw [List.map_cons, List.min?_cons, ← ih, lowestSoc]
    cases lowestSoc rest <;> rfl

theorem clipInt_eq_max_min (n : Int) : clipInt 0 256 n = max 0 (min 256 n) := by
  unfold clipInt
  split
  · omega
  · split <;> omega

theorem bankAllowance_eq (table : List Point) (soc limit : Nat) :
    bankAllowance table soc limit = limit * (max 0 (min 256 (lookup table soc))).toNat / 256 := by
  unfold bankAllowance
  rw [clipInt_eq_max_min]

theorem LoadSteps.governing_budget {s t : State} (h : LoadSteps s t) :
    t.budget.governing = s.budget.governing ∧ t.budget.budget = s.budget.budget
    ∧ t.budget.claimSums = s.budget.claimSums := by
  obtain ⟨_, _, _, _, hsums, hgoverning, hbudget, _⟩ := h.frame.basis
  exact ⟨hgoverning, hbudget, hsums⟩

/-- What a re-evaluation computes stands after it (R40). -/
theorem reevaluate_computed (b : Budget) (s : State) :
    (reevaluate b s).budget.governing = lowestSoc (knownBanks s.budget)
    ∧ (reevaluate b s).budget.budget = budgetOf s.params s.budget
    ∧ (reevaluate b s).budget.claimSums = s.budget.claimSums :=
  (loadSteps_reevaluate b s).governing_budget

/-- The budget as R43 gives it, its banks and supply given. -/
theorem budgetOf_eq (p : Params) (b : Budget) : budgetOf p b =
    if knownBanks b = [] ∧ b.supplyKnown = false then p.fallbackBudget
    else min 65535 (b.supplySum + ((knownBanks b).map fun k =>
      k.2 * (max 0 (min 256 (lookup p.allowance k.1))).toNat / 256).sum) := by
  unfold budgetOf
  simp only [bankAllowance_eq, Bool.and_eq_true, List.isEmpty_iff, Bool.not_eq_true']

/-! ## The shed flags after an evaluation (R42) -/

/-- A shed flag after its evaluation against the governing SoC. -/
def flagAfter (p : Params) (governing : Option Nat) (c : LoadClass) (set : Bool) : Bool :=
  match governing with
  | none => false
  | some g => if set then decide (g < perClass p.resume c) else decide (g ≤ perClass p.pause c)

theorem setClass_self (p : PerClass Bool) (c : LoadClass) : setClass p c (perClass p c) = p := by cases c <;> rfl

theorem setShedFlag_shed (c : LoadClass) (s : State) :
    (setShedFlag c s).budget.shed = setClass s.budget.shed c true := by
  obtain ⟨_, _, _, _, _, hshed, _⟩ := sameTable_setShedFlag c s
  rw [hshed, shedAll_shed]

theorem clearShedFlag_shed (c : LoadClass) (s : State) :
    (clearShedFlag c s).budget.shed = setClass s.budget.shed c false := by
  rw [clearShedFlag_eq, clearedAll_shed]

theorem evalShedFlag_shed (s : State) (c : LoadClass) : (evalShedFlag s c).budget.shed
    = setClass s.budget.shed c (flagAfter s.params s.budget.governing c (perClass s.budget.shed c)) := by
  have hkeep {x : Bool} (h : x = perClass s.budget.shed c) : s.budget.shed = setClass s.budget.shed c x := by
    rw [h, setClass_self]
  cases hg : s.budget.governing with
  | none =>
    simp only [evalShedFlag, hg, flagAfter]
    split
    · exact clearShedFlag_shed c s
    · next hset => exact hkeep (Bool.eq_false_iff.mpr hset).symm
  | some g =>
    simp only [evalShedFlag, hg, flagAfter]
    split
    · next hset =>
      split
      · next hle => rw [clearShedFlag_shed, decide_eq_false (by omega)]
      · next hle => exact hkeep (by rw [hset, decide_eq_true (by omega)])
    · next hset =>
      split
      · next hle => rw [setShedFlag_shed, decide_eq_true hle]
      · next hle => exact hkeep (by rw [Bool.eq_false_iff.mpr hset, decide_eq_false hle])

theorem evalShedFlags_shed (s : State) (h : s.params.levelShedding = true) (c : LoadClass) :
    perClass (evalShedFlags s).budget.shed c
      = if c = .c0 then perClass s.budget.shed c
        else flagAfter s.params s.budget.governing c (perClass s.budget.shed c) := by
  have hframe (u : State) (d : LoadClass) : (evalShedFlag u d).params = u.params
      ∧ (evalShedFlag u d).budget.governing = u.budget.governing :=
    ⟨(loadSteps_evalShedFlag u d).frame.params, (loadSteps_evalShedFlag u d).governing_budget.1⟩
  have hthree : evalShedFlags s = evalShedFlag (evalShedFlag (evalShedFlag s .c1) .c2) .c3 := if_pos h
  rw [hthree]
  simp only [evalShedFlag_shed, perClass_setClass, (hframe _ _).1, (hframe _ _).2]
  cases c <;> simp

theorem reevaluate_shed (b : Budget) (s : State) :
    (reevaluate b s).budget.shed = (evalShedFlags (computeBudget s)).budget.shed :=
  congrArg Prod.fst (flagsAndCounters_settle _ _ _)

theorem reevaluate_shed_eq (b : Budget) (s : State) (h : s.params.levelShedding = true) (c : LoadClass) :
    perClass (reevaluate b s).budget.shed c
      = if c = .c0 then perClass s.budget.shed c
        else flagAfter s.params (reevaluate b s).budget.governing c (perClass s.budget.shed c) := by
  have hparams : (computeBudget s).params.levelShedding = true := h
  rw [reevaluate_shed, evalShedFlags_shed _ hparams, (reevaluate_computed b s).1]
  rfl

theorem reevaluate_shed_of_off (b : Budget) (s : State) (h : s.params.levelShedding = false) :
    (reevaluate b s).budget.shed = s.budget.shed := by
  have hoff : ¬(computeBudget s).params.levelShedding = true := Bool.eq_false_iff.mp h
  rw [reevaluate_shed, evalShedFlags, if_neg hoff]
  rfl

/-- Settles O23: a handover writes its input and re-evaluates, and an evaluation sets each class's flag by the
governing SoC. -/
theorem handoversSetBudgetAndShedFlags : Obligations.HandoversSetBudgetAndShedFlags := by
  refine ⟨⟨fun s o => ?own, fun s peers supply known sums => ?quantities⟩, fun s c h => ?flags,
    fun s t c h ht => ?handed, rfl, fun s h => ⟨if_neg (by rw [h]; nofun), fun o => ?ownOff, fun _ _ _ _ => ?factsOff⟩⟩
  case own =>
    obtain ⟨hgoverning, hbudget, _⟩ := reevaluate_computed s.budget (s.setBudget { s.budget with ownBank := some o })
    refine ⟨hgoverning.trans (lowestSoc_eq_min? _), hbudget.trans ((budgetOf_eq _ _).trans (if_neg ?_))⟩
    exact fun hnone => absurd hnone.1 nofun
  case quantities =>
    obtain ⟨hgoverning, hbudget, hsums⟩ := reevaluate_computed s.budget (s.setBudget { s.budget with
      peerBanks := peers, supplySum := supply, supplyKnown := known, claimSums := sums })
    have hbanks : knownBanks { s.budget with
        peerBanks := peers, supplySum := supply, supplyKnown := known, claimSums := sums } = (match s.budget.ownBank with
          | none => []
          | some o => [(o.soc, o.limit)]) ++ peers.map fun b => (b.soc, b.limit) := by
      unfold knownBanks
      cases s.budget.ownBank <;> rfl
    rw [State.setBudget_budget, budgetOf_eq, hbanks] at hbudget
    rw [State.setBudget_budget, hbanks] at hgoverning
    exact ⟨hgoverning.trans (lowestSoc_eq_min? _), hsums, hbudget⟩
  case flags =>
    rw [evalShedFlags_shed s h]
    exact ⟨fun hc => if_pos hc, fun hc => if_neg hc⟩
  case handed =>
    rcases ht with ⟨o, rfl⟩ | ⟨peers, supply, known, sums, rfl⟩
    · have hshed := reevaluate_shed_eq s.budget (s.setBudget { s.budget with ownBank := some o }) h c
      exact ⟨fun hc => hshed.trans (if_pos hc), fun hc => hshed.trans (if_neg hc)⟩
    · have hshed := reevaluate_shed_eq s.budget (s.setBudget { s.budget with
        peerBanks := peers, supplySum := supply, supplyKnown := known, claimSums := sums }) h c
      exact ⟨fun hc => hshed.trans (if_pos hc), fun hc => hshed.trans (if_neg hc)⟩
  case ownOff => exact reevaluate_shed_of_off _ (s.setBudget { s.budget with ownBank := some o }) h
  case factsOff => exact reevaluate_shed_of_off _ (s.setBudget _) h

/-! ## Flag changes -/

theorem flagsAndCounters_shedOne (c : LoadClass) (s : State) (i : Fin 17) :
    (shedOne c s i).budget.levelSheds = s.budget.levelSheds := by
  rcases shedOne_eq c s i with he | he | he
  · rw [he]
  · rw [he, reduceLevel_budget, place_levelSheds]
  · rw [he, shedLoad_budget, place_levelSheds]

theorem shedAll_levelSheds (c : LoadClass) (l : List (Fin 17)) (s : State) :
    (shedAll c l s).budget.levelSheds = s.budget.levelSheds :=
  foldl_keeps (fun s => s.budget.levelSheds) (shedOne c) (flagsAndCounters_shedOne c) l (withFlag c true s)

theorem setShedFlag_levelSheds (c : LoadClass) (s : State) :
    (setShedFlag c s).budget.levelSheds = countUp s.budget.levelSheds := by
  rw [setShedFlag_eq, ← shedAll_levelSheds c (List.finRange 17) s]
  generalize shedAll c (List.finRange 17) s = u
  split
  · rw [raiseEvent_budget, raiseEvent_budget]; rfl
  · rw [raiseEvent_budget]; rfl

theorem inSet_raiseEvent_of_set {e k : Event} {s : State} (h : inSet s.event.flags e = true) :
    inSet (raiseEvent k s).event.flags e = true := (loadSteps_raiseEvent k s).frame.flags _ h

theorem setShedFlag_raises (c : LoadClass) (s : State) :
    inSet (setShedFlag c s).event.flags .levelShed = true
    ∧ (c = .c1 → inSet (setShedFlag c s).event.flags .socLow = true) := by
  rw [setShedFlag_eq]
  generalize shedAll c (List.finRange 17) s = u
  split
  · exact ⟨inSet_raiseEvent_of_set (inSet_raiseEvent _ _), fun _ => inSet_raiseEvent _ _⟩
  · next hc => exact ⟨inSet_raiseEvent _ _, fun h => absurd h hc⟩

theorem setShedFlag_loads {s : State} (h : BudgetOk s) {c : LoadClass} (hc : c ≠ .c0) (i : Fin 17) :
    (setShedFlag c s).budget.loads[i]
      = if s.budget.loads[i].cls = c ∧ sheddable i = true then shedRecord s i else s.budget.loads[i] := by
  obtain ⟨_, hloads, _⟩ := sameTable_setShedFlag c s
  rw [hloads]
  exact shedAll_loads h hc (List.nodup_finRange 17) (List.mem_finRange i)

theorem clearedAll_levelSheds (c : LoadClass) (lights sheds joins : List (Fin 17)) (s : State) :
    (clearedAll c lights sheds joins s).budget.levelSheds = s.budget.levelSheds := by
  have hjoin (s : State) (i : Fin 17) : (joinRestored c s i).budget.levelSheds = s.budget.levelSheds := by
    unfold joinRestored
    simp only
    split
    · unfold joinRetry
      split <;> rfl
    · rfl
  have hshed (s : State) (i : Fin 17) : (restoreShed c s i).budget.levelSheds = s.budget.levelSheds := by
    unfold restoreShed
    simp only
    split
    · rw [setWaiting_budget, place_levelSheds]
    · rfl
  have hlight (s : State) (i : Fin 17) : (restoreLight c s i).budget.levelSheds = s.budget.levelSheds := by
    unfold restoreLight
    simp only
    split
    · split
      · rw [admitLoad_budget, place_levelSheds]
      · rw [setReduced_budget, place_levelSheds]
    · rfl
  unfold clearedAll
  rw [foldl_keeps (fun s => s.budget.levelSheds) (joinRestored c) hjoin,
    foldl_keeps (fun s => s.budget.levelSheds) (restoreShed c) hshed,
    foldl_keeps (fun s => s.budget.levelSheds) (restoreLight c) hlight]
  rfl

/-- Settles O25: each record is treated once, by its class and state. -/
theorem shedFlagChangesTreatTheirClass : Obligations.ShedFlagChangesTreatTheirClass := by
  refine ⟨fun s c hs hc => ⟨setShedFlag_loads hs hc, fun i hi => ?_, (setShedFlag_raises c s).1,
    (setShedFlag_raises c s).2, (setShedFlag_levelSheds c s).trans (countUp_eq_min _)⟩,
    fun s c hs => ⟨fun i => ?_, clearShedFlag_event c s, ?_⟩⟩
  · by_contra hnot
    rw [not_or, not_not, Bool.not_eq_false] at hnot
    rw [(hs.setShedFlag hc).mem_retry, setShedFlag_loads hs hc, if_pos hnot] at hi
    exact absurd (hi.symm.trans (shedRecord_sound i).2) nofun
  · have hmem := (hs.clearShedFlag c).mem_retry i
    rw [clearShedFlag_eq] at hmem ⊢
    refine ⟨fun hi => ?_, fun hi => ?_, fun hi => ?_⟩
    · have hadm : i ∈ s.budget.admitted := by rw [hs.mem_admitted, hi.2]; rfl
      rcases clearedAll_loads_of_light (sheds := List.finRange 17) (joins := List.finRange 17)
        hs.table.admittedNodup hadm hi with he | he
      · rw [he]
        exact .inl ⟨rfl, rfl⟩
      · rw [he] at hmem ⊢
        exact .inr ⟨rfl, rfl, hmem.mpr rfl⟩
    · have he := clearedAll_loads_of_shed (lights := s.budget.admitted) (joins := List.finRange 17)
        (List.nodup_finRange 17) (List.mem_finRange i) hi
      rw [he] at hmem ⊢
      exact ⟨rfl, hmem.mpr rfl⟩
    · refine clearedAll_loads_of_other fun hr => ?_
      rcases hi with hi | ⟨hlevel, hshed⟩
      · exact hi hr.1
      · exact hr.2.elim hlevel hshed
  · rw [clearShedFlag_eq, clearedAll_levelSheds]

end Sys2Proof.Machine

/-! The budget unit's pass: asks, the admission pass and the over-budget watch. -/

namespace Sys2Proof.Machine

-- As in the tests, so that no command needs threads of its own.
set_option Elab.async false

/-! ## One record under a pass -/

/-- A record as its admission leaves it, at its rated current (R58). -/
def admittedRecord (r : LoadRecord) : LoadRecord := { r with state := .admitted, claim := r.rated, hold := none }

/-- The record i with its places in the two lists stands as it was. -/
def RecordSame (i : Fin 17) (b c : Budget) : Prop :=
  c.loads[i] = b.loads[i] ∧ (i ∈ c.retry ↔ i ∈ b.retry) ∧ (i ∈ c.admitted ↔ i ∈ b.admitted)

/-- The record i has been admitted out of the retry list. -/
def TakenIn (i : Fin 17) (b c : Budget) : Prop :=
  waitsInList b.loads[i].state = true ∧ c.loads[i] = admittedRecord b.loads[i] ∧ i ∉ c.retry ∧ i ∈ c.admitted

theorem RecordSame.trans {i : Fin 17} {b c d : Budget} (h : RecordSame i b c) (k : RecordSame i c d) : RecordSame i b d := by
  obtain ⟨hl, hr, ha⟩ := h
  obtain ⟨kl, kr, ka⟩ := k
  exact ⟨kl.trans hl, kr.trans hr, ka.trans ha⟩

theorem recordSame_of_sameTable {s t : State} (h : SameTable s t) (i : Fin 17) : RecordSame i s.budget t.budget := by
  obtain ⟨_, hloads, _, hretry, hadmitted, _⟩ := h
  rw [RecordSame, hloads, hretry, hadmitted]
  exact ⟨rfl, Iff.rfl, Iff.rfl⟩

theorem admitLoad_self (i : Fin 17) (s : State) : (admitLoad i s).budget.loads[i] = admittedRecord s.budget.loads[i]
    ∧ i ∉ (admitLoad i s).budget.retry ∧ i ∈ (admitLoad i s).budget.admitted := by
  rw [admitLoad_budget, place_loads_self, place_retry, place_admitted]
  exact ⟨rfl, fun hm => (mem_without.mp hm).2 rfl, List.mem_append_right _ (List.mem_singleton_self i)⟩

theorem recordSame_admitLoad {i j : Fin 17} (h : i ≠ j) (s : State) : RecordSame j s.budget (admitLoad i s).budget := by
  rw [RecordSame, admitLoad_budget, place_loads_ne _ h, place_retry, place_admitted, List.mem_append, mem_without,
    mem_without]
  simp [h.symm]

/-- A pass leaves a record as it was, or admits it out of the list it waits in. -/
theorem passOver_record (l : List (Fin 17)) (s : State) (i : Fin 17) :
    RecordSame i s.budget (passOver l s).budget ∨ TakenIn i s.budget (passOver l s).budget := by
  induction l generalizing s with
  | nil => exact .inl ⟨rfl, Iff.rfl, Iff.rfl⟩
  | cons j rest ih =>
    rcases passOver_cons j rest s with he | ⟨hw, he⟩
    · rw [he]
      exact .inl ⟨rfl, Iff.rfl, Iff.rfl⟩
    · rw [he]
      by_cases hij : j = i
      · subst hij
        obtain ⟨hl, hr, ha⟩ := admitLoad_self j s
        rcases ih (admitLoad j s) with ⟨kl, kr, ka⟩ | ⟨kw, _⟩
        · exact .inr ⟨hw, kl.trans hl, fun hm => hr (kr.mp hm), ka.mpr ha⟩
        · rw [hl] at kw
          cases kw
      · have hsame := recordSame_admitLoad hij s
        rcases ih (admitLoad j s) with hk | ⟨kw, kl, kr, ka⟩
        · exact .inl (hsame.trans hk)
        · rw [hsame.1] at kw kl
          exact .inr ⟨kw, kl, kr, ka⟩

/-- The end of an event leaves a record as it was, or its pass, behind an open gate, admits it. -/
theorem settle_record (before : PerClass Nat) (callsForPass : Bool) (s : State) (i : Fin 17) :
    RecordSame i s.budget (settle before callsForPass s).budget
    ∨ s.budget.gateOpen = true ∧ TakenIn i s.budget (settle before callsForPass s).budget := by
  obtain ⟨t, u, hst, hus, hu⟩ := sameTable_settle before callsForPass s
  have hgate : t.budget.gateOpen = s.budget.gateOpen := by
    obtain ⟨_, _, _, _, _, _, hgate, _⟩ := hst
    exact hgate
  have hfirst := recordSame_of_sameTable hst i
  have hlast := recordSame_of_sameTable hus i
  rw [hu] at hlast
  by_cases hpass : callsForPass = true ∧ t.budget.gateOpen = true
  · rw [if_pos hpass.1, admissionPass, if_pos hpass.2] at hlast
    rcases passOver_record t.budget.retry t i with hp | ⟨hw, hl, hr, ha⟩
    · exact .inl ((hfirst.trans hp).trans hlast)
    · rw [hfirst.1] at hw hl
      exact .inr ⟨hgate ▸ hpass.2, hw, hlast.1.trans hl, fun hm => hr (hlast.2.1.mp hm), hlast.2.2.mpr ha⟩
  · have hsame : (if callsForPass = true then admissionPass t else t) = t := by
      split
      · next hc => exact if_neg fun hg => hpass ⟨hc, hg⟩
      · rfl
    rw [hsame] at hlast
    exact .inl (hfirst.trans hlast)

/-- A record that does not wait stands after the end of an event as before it. -/
theorem settle_record_of_still (before : PerClass Nat) (callsForPass : Bool) {s : State} {i : Fin 17}
    (h : waitsInList s.budget.loads[i].state = false) :
    RecordSame i s.budget (settle before callsForPass s).budget :=
  (settle_record before callsForPass s i).resolve_right fun k => absurd (h.symm.trans k.2.1) nofun

theorem wait_record (i : Fin 17) (s : State) :
    (wait i s).budget.loads[i] = { s.budget.loads[i] with state := .waiting, claim := 0, hold := none }
    ∧ i ∈ (wait i s).budget.retry := by
  have hloads : (wait i s).budget.loads[i]
      = { s.budget.loads[i] with state := .waiting, claim := 0, hold := none } := by
    have hset := setWaiting_budget i s
    rw [show (wait i s).budget.loads = (setWaiting i s).budget.loads from joinRetry_loads _ _, hset, place_loads_self]
  refine ⟨hloads, ?_⟩
  change i ∈ (joinRetry i (setWaiting i s)).budget.retry
  by_cases hm : i ∈ (setWaiting i s).budget.retry
  · rw [joinRetry_of_mem hm]; exact hm
  · rw [joinRetry_budget_of_notMem hm]
    exact (mem_inPlace _ _ _).mpr (.inl rfl)

theorem ask_of_off {i : Fin 17} {s : State} (hoff : s.budget.loads[i].state = .off) : ask i s =
    if s.budget.loads[i].cls = .c0 then settle s.budget.own false (admitLoad i s)
    else if perClass s.budget.shed s.budget.loads[i].cls = true then
      if (isLight i && s.budget.gateOpen) = true then settle s.budget.own false (reduceLevel i s)
      else settle s.budget.own false (shedLoad i .level s)
    else settle s.budget.own true (wait i s) := if_neg (not_not.mpr hoff)

/-- Settles O26: an ask writes the record as its class, flag and gate say, and the pass that may follow can only
take in one that waits. -/
theorem askIsAnsweredByClassAndFlag : Obligations.AskIsAnsweredByClassAndFlag := by
  intro s i _
  refine ⟨fun h => if_pos h, fun hoff hc => ?zero, fun hoff hc hset => ?flagged, fun hoff hc hset => ?waits⟩
  case zero =>
    have hask : ask i s = settle s.budget.own false (admitLoad i s) := (ask_of_off hoff).trans (if_pos hc)
    obtain ⟨hl, _⟩ := admitLoad_self i s
    have hsame := settle_record_of_still s.budget.own false (s := admitLoad i s) (i := i) (by rw [hl]; rfl)
    rw [hask, hsame.1, hl]
    rfl
  case flagged =>
    by_cases hlight : isLight i = true ∧ s.budget.gateOpen = true
    · have hask : ask i s = settle s.budget.own false (reduceLevel i s) := by
        rw [ask_of_off hoff, if_neg hc, if_pos hset, if_pos (Bool.and_eq_true_iff.mpr hlight)]
      have hl : (reduceLevel i s).budget.loads[i].state = .reduced .level := by
        rw [reduceLevel_budget, place_loads_self]
      have hsame := settle_record_of_still s.budget.own false (s := reduceLevel i s) (i := i) (by rw [hl]; rfl)
      rw [hask, hsame.1, hl, if_pos hlight]
    · have hask : ask i s = settle s.budget.own false (shedLoad i .level s) := by
        rw [ask_of_off hoff, if_neg hc, if_pos hset, if_neg (mt Bool.and_eq_true_iff.mp hlight)]
      have hl : (shedLoad i .level s).budget.loads[i].state = .shed .level := by
        rw [shedLoad_budget, place_loads_self]
      have hsame := settle_record_of_still s.budget.own false (s := shedLoad i .level s) (i := i) (by rw [hl]; rfl)
      rw [hask, hsame.1, hl, if_neg hlight]
  case waits =>
    have hask : ask i s = settle s.budget.own true (wait i s) := by
      rw [ask_of_off hoff, if_neg hc, if_neg (Bool.eq_false_iff.mp hset)]
    obtain ⟨hl, hm⟩ := wait_record i s
    have hgate : (wait i s).budget.gateOpen = s.budget.gateOpen := (loadSteps_wait i s).gateOpen
    rw [hask]
    rcases settle_record s.budget.own true (wait i s) i with ⟨kl, kr, _⟩ | ⟨kg, _, kl, kr, _⟩
    · rw [kl, hl]
      exact .inr ⟨rfl, kr.mpr hm⟩
    · rw [kl]
      exact .inl ⟨rfl, hgate ▸ kg, kr⟩

/-! ## The pass as the front of the retry list (R56) -/

/-- The load records with some of them admitted. -/
def withAdmitted (b : Budget) (l : List (Fin 17)) : Vector LoadRecord 17 :=
  Vector.ofFn fun i : Fin 17 => if i ∈ l then admittedRecord b.loads[i] else b.loads[i]

theorem withAdmitted_get (b : Budget) (l : List (Fin 17)) (i : Fin 17) :
    (withAdmitted b l)[i] = if i ∈ l then admittedRecord b.loads[i] else b.loads[i] := by
  simp [withAdmitted]

theorem totalsWith_eq (b : Budget) (l : List (Fin 17)) :
    totalsWith b l = totals { b with own := ownTotals (withAdmitted b l) } := rfl

theorem ownTotals_congr {v w : Vector LoadRecord 17} (h : ∀ i : Fin 17, v[i] = w[i]) : ownTotals v = ownTotals w := by
  simp only [ownTotals, ownTotal, h]

theorem totalsWith_nil {s : State} (h : BudgetOk s) : totalsWith s.budget [] = totals s.budget := by
  have hown : ownTotals (withAdmitted s.budget []) = s.budget.own :=
    (ownTotals_congr fun i => by rw [withAdmitted_get, if_neg List.not_mem_nil]).trans h.table.own.symm
  rw [totalsWith_eq, hown]

theorem totalsWith_cons (i : Fin 17) (l : List (Fin 17)) (s : State) :
    totalsWith s.budget (i :: l) = totalsWith (admitLoad i s).budget l := by
  have hsums : (admitLoad i s).budget.claimSums = s.budget.claimSums := by rw [admitLoad_budget, place_claimSums]
  have hown : ownTotals (withAdmitted s.budget (i :: l)) = ownTotals (withAdmitted (admitLoad i s).budget l) := by
    refine ownTotals_congr fun j => ?_
    rw [withAdmitted_get, withAdmitted_get]
    by_cases hij : i = j
    · subst hij
      rw [(admitLoad_self i s).1, if_pos List.mem_cons_self]
      split <;> rfl
    · rw [(recordSame_admitLoad hij s).1]
      simp only [List.mem_cons, Ne.symm hij, false_or]
  rw [totalsWith_eq, totalsWith_eq, hown]
  simp only [totals, hsums]

theorem admitLoad_caps (i : Fin 17) (s : State) : (admitLoad i s).budget.caps = s.budget.caps := by
  rw [admitLoad_budget, place_caps]

/-- The room a record still needs for its rated current, within its class's cap (R46, R56). -/
def Fits (b : Budget) (totals : PerClass Nat) (r : LoadRecord) : Prop :=
  sumUpTo totals r.cls + (r.rated - r.claim) ≤ perClass b.caps r.cls

theorem admissionTest_iff (b : Budget) {c : LoadClass} (x : Nat) (h : c ≠ .c0) :
    admissionTest b c x = true ↔ sumUpTo (totals b) c + x ≤ perClass b.caps c := by
  cases c
  · exact absurd rfl h
  all_goals exact decide_eq_true_iff

/-- A walk over a list whose first record waits goes on over it exactly when it fits. -/
theorem passOver_cons_of_waits {i : Fin 17} {rest : List (Fin 17)} {s : State} (h : BudgetOk s)
    (hw : waitsInList s.budget.loads[i].state = true) :
    Fits s.budget (totals s.budget) s.budget.loads[i] ∧ passOver (i :: rest) s = passOver rest (admitLoad i s)
    ∨ ¬ Fits s.budget (totals s.budget) s.budget.loads[i] ∧ passOver (i :: rest) s = s := by
  obtain ⟨hc, _⟩ := h.of_waits hw
  have hclaim := h.table.claim i
  cases hst : s.budget.loads[i].state with
  | waiting =>
    rw [hst] at hclaim
    have hzero : s.budget.loads[i].claim = 0 := hclaim
    have htest := admissionTest_iff s.budget s.budget.loads[i].rated hc
    rw [Fits, hzero, Nat.sub_zero, ← htest]
    simp only [passOver, hst]
    split
    · next ht => exact .inl ⟨ht, rfl⟩
    · next ht => exact .inr ⟨ht, rfl⟩
  | reduced reason =>
    cases reason with
    | level => rw [hst] at hw; cases hw
    | budget =>
      rw [Fits, ← admissionTest_iff s.budget (s.budget.loads[i].rated - s.budget.loads[i].claim) hc]
      simp only [passOver, hst]
      split
      · next ht => exact .inl ⟨ht, rfl⟩
      · next ht => exact .inr ⟨ht, rfl⟩
  | off => rw [hst] at hw; cases hw
  | admitted => rw [hst] at hw; cases hw
  | shed reason => rw [hst] at hw; cases hw

/-- What a pass over the retry list does: it admits `front`, each record fitting the totals as the ones before
it leave them, and ends before one that does not fit. -/
structure PassOf (s t : State) (front : List (Fin 17)) : Prop where
  list : s.budget.retry = front ++ t.budget.retry
  loads : ∀ i : Fin 17, t.budget.loads[i] = if i ∈ front then admittedRecord s.budget.loads[i] else s.budget.loads[i]
  fit : ∀ (earlier later : List (Fin 17)) (i : Fin 17), front = earlier ++ i :: later →
    Fits s.budget (totalsWith s.budget earlier) s.budget.loads[i]
  stop : ∀ (i : Fin 17) (rest : List (Fin 17)), t.budget.retry = i :: rest →
    ¬ Fits t.budget (totals t.budget) s.budget.loads[i]

theorem passOver_passOf {l : List (Fin 17)} {s : State} (h : BudgetOk s) (hgate : s.budget.gateOpen = true)
    (hl : s.budget.retry = l) : ∃ front, PassOf s (passOver l s) front := by
  induction l generalizing s with
  | nil =>
    refine ⟨[], rfl, fun i => rfl, fun earlier later i he => ?_, fun i rest he => ?_⟩
    · exact absurd he.symm (by simp)
    · exact absurd (hl.symm.trans he) nofun
  | cons i rest ih =>
    have hmem : i ∈ s.budget.retry := hl ▸ List.mem_cons_self
    have hw := (h.mem_retry i).mp hmem
    obtain ⟨hc, _, hclear⟩ := h.of_waits hw
    have hnodup : i ∉ rest ∧ rest.Nodup := List.nodup_cons.mp (hl ▸ h.table.retryNodup)
    rcases passOver_cons_of_waits (rest := rest) h hw with ⟨hfits, he⟩ | ⟨hfull, he⟩
    · rw [he]
      have hretry : (admitLoad i s).budget.retry = rest := by
        rw [admitLoad_budget, place_retry, hl, without_cons_self hnodup.1]
      obtain ⟨front, hp⟩ := ih (h.admits (fun _ => hgate) (.inl hclear)) ((admitLoad_gateOpen i s).trans hgate) hretry
      have hrest : rest = front ++ (passOver rest (admitLoad i s)).budget.retry := hretry.symm.trans hp.list
      have hkeep {j : Fin 17} (hj : j ∈ rest) : (admitLoad i s).budget.loads[j] = s.budget.loads[j] :=
        (recordSame_admitLoad (fun hij => hnodup.1 (by rw [hij]; exact hj)) s).1
      refine ⟨i :: front, ?_, fun j => ?_, fun earlier later j hsplit => ?_, fun j tail htail => ?_⟩
      · rw [hl, List.cons_append, ← hrest]
      · rw [hp.loads j]
        by_cases hij : i = j
        · subst hij
          rw [if_pos List.mem_cons_self, (admitLoad_self i s).1]
          split <;> rfl
        · rw [(recordSame_admitLoad hij s).1]
          simp only [List.mem_cons, Ne.symm hij, false_or]
      · cases earlier with
        | nil =>
          obtain ⟨rfl, -⟩ := List.cons.inj hsplit
          rw [totalsWith_nil h]
          exact hfits
        | cons k earlier =>
          obtain ⟨rfl, htail⟩ := List.cons.inj hsplit
          have hj : j ∈ rest := by
            rw [hrest, htail]
            exact List.mem_append_left _ (List.mem_append_right _ List.mem_cons_self)
          have hfit := hp.fit earlier later j htail
          rw [Fits, admitLoad_caps, hkeep hj, ← totalsWith_cons] at hfit
          exact hfit
      · have hj : j ∈ rest := by
          rw [hrest, htail]
          simp
        have hstop := hp.stop j tail htail
        rw [hkeep hj] at hstop
        exact hstop
    · rw [he]
      refine ⟨[], rfl, fun i => rfl, fun earlier later i hsplit => ?_, fun j tail htail => ?_⟩
      · exact absurd hsplit.symm (by simp)
      · obtain ⟨rfl, -⟩ := List.cons.inj (hl.symm.trans htail)
        exact hfull

/-- Settles O27: the walk over the retry list, by induction on what is left of it. -/
theorem passAdmitsUntilFirstFailure : Obligations.PassAdmitsUntilFirstFailure := by
  intro s hs
  refine ⟨fun hclosed => if_neg (by rw [hclosed]; nofun), fun hopen => ?_⟩
  have hpass : admissionPass s = passOver s.budget.retry s := if_pos hopen
  obtain ⟨front, hp⟩ := passOver_passOf hs hopen rfl
  rw [hpass]
  exact ⟨front, hp.list, hp.loads, hp.fit, fun i rest he => Nat.lt_of_not_le (hp.stop i rest he)⟩

/-! ## What a command that only moves loads leaves (R20, R49) -/

theorem LoadFrame.onlyLoadsMoved {s t : State} (h : LoadFrame s t) : OnlyLoadsMoved s t :=
  ⟨h.budgetSame, ⟨h.zones, h.zoneTimer⟩, waterFixed_of_waterCore h.water, ⟨h.channels, h.lights⟩⟩

/-- A command whose effect only moves loads: what it publishes beside is at most a TANKS. -/
theorem publish_of_loadSteps {s t : State} (h : LoadSteps s t) :
    OnlyLoadsMoved s (publish s t) ∧ (publish s t).budget = t.budget ∧ (publish s t).event = t.event := by
  obtain ⟨hbudget, hzones, hwater, hlights⟩ := h.frame.onlyLoadsMoved
  obtain ⟨l, w, he, hfixed⟩ := tanksAfter_eq s t
  rw [publish_eq_tanksAfter h.frame.params h.frame.motion, he]
  exact ⟨⟨hbudget, hzones, hfixed.trans hwater, hlights⟩, rfl, rfl⟩

/-! ## The victim (R62) -/

theorem find?_reverse_of_last {α : Type} {p : α → Bool} {front back : List α} {a : α} (ha : p a = true)
    (hback : ∀ x ∈ back, p x = false) : (front ++ a :: back).reverse.find? p = some a := by
  have hnone : back.reverse.find? p = none :=
    List.find?_eq_none.mpr fun x hx => Bool.eq_false_iff.mp (hback x (List.mem_reverse.mp hx))
  rw [List.reverse_append, List.reverse_cons, List.append_assoc, List.find?_append, hnone, Option.none_or,
    List.singleton_append, List.find?_cons_of_pos ha]

theorem qualifies_iff_victimIn (b : Budget) (i : Fin 17) :
    qualifies b i ↔ b.loads[i].cls ≠ .c0 ∧ victimIn b b.loads[i].cls i = true := by
  rw [victimIn_iff]
  unfold qualifies
  tauto

theorem victim_none {b : Budget} (h : ∀ i : Fin 17, i ∈ b.admitted → ¬ qualifies b i) : victim b = none := by
  have hnone {c : LoadClass} (hc : c ≠ .c0) : b.admitted.reverse.find? (victimIn b c) = none := by
    refine List.find?_eq_none.mpr fun i hi hv => h i (List.mem_reverse.mp hi) ?_
    obtain ⟨hs, hcls, hd⟩ := (victimIn_iff b c i).mp hv
    exact ⟨hs, by rw [hcls]; exact hc, hd⟩
  simp only [victim, hnone (c := .c3) nofun, hnone (c := .c2) nofun, hnone (c := .c1) nofun, Option.or_none]

theorem victim_of_isVictim {b : Budget} {i : Fin 17} (h : IsVictim b i) : victim b = some i := by
  obtain ⟨front, back, hlist, hq, hfront, hback⟩ := h
  obtain ⟨hcls, hv⟩ := (qualifies_iff_victimIn b i).mp hq
  have hqual {c : LoadClass} (hc : c ≠ .c0) {j : Fin 17} (hj : victimIn b c j = true) :
      qualifies b j ∧ b.loads[j].cls = c := by
    obtain ⟨hs, hcj, hd⟩ := (victimIn_iff b c j).mp hj
    exact ⟨⟨hs, by rw [hcj]; exact hc, hd⟩, hcj⟩
  have hself : b.admitted.reverse.find? (victimIn b b.loads[i].cls) = some i := by
    rw [hlist]
    refine find?_reverse_of_last hv fun j hj => Bool.eq_false_iff.mpr fun hvj => ?_
    obtain ⟨hqj, hcj⟩ := hqual hcls hvj
    exact absurd (hback j hj hqj) (by rw [hcj]; exact lt_irrefl _)
  have hhigher {c : LoadClass} (hlt : classNum b.loads[i].cls < classNum c) :
      b.admitted.reverse.find? (victimIn b c) = none := by
    refine List.find?_eq_none.mpr fun j hj hvj => ?_
    have hc : c ≠ .c0 := fun h0 => by rw [h0] at hlt; exact absurd hlt (Nat.not_lt_zero _)
    obtain ⟨hqj, hcj⟩ := hqual hc hvj
    rw [List.mem_reverse, hlist, List.mem_append, List.mem_cons] at hj
    rcases hj with hj | rfl | hj
    · exact absurd (hfront j hj hqj) (by rw [hcj]; exact Nat.not_le_of_lt hlt)
    · rw [hcj] at hlt
      exact absurd hlt (lt_irrefl _)
    · exact absurd (hback j hj hqj) (by rw [hcj]; exact Nat.not_lt_of_lt hlt)
  unfold victim
  cases hc : b.loads[i].cls with
  | c0 => exact absurd hc hcls
  | c3 =>
    rw [hc] at hself
    simp only [hself, Option.some_or]
  | c2 =>
    rw [hc] at hself hhigher
    simp only [hself, hhigher (c := .c3) (by decide), Option.some_or, Option.none_or]
  | c1 =>
    rw [hc] at hself hhigher
    simp only [hself, hhigher (c := .c3) (by decide), hhigher (c := .c2) (by decide), Option.none_or]

/-! ## The dwell's expiry -/

/-- The event raised and counted for a victim that has been taken, and the dwell after it (R62, R65). -/
def victimCounted (s : State) : State :=
  restartDwell (raiseEvent .budgetShed (s.setBudget { s.budget with budgetSheds := countUp s.budget.budgetSheds }))

theorem sameTable_victimCounted (s : State) : SameTable s (victimCounted s) :=
  SameTable.trans (t := s.setBudget { s.budget with budgetSheds := countUp s.budget.budgetSheds })
    ⟨rfl, rfl, rfl, rfl, rfl, rfl, rfl, rfl, rfl, rfl, rfl⟩
    ((sameTable_raiseEvent _ _).trans (sameTable_restartDwell _))

theorem victimCounted_counts (s : State) : inSet (victimCounted s).event.flags .budgetShed = true
    ∧ (victimCounted s).budget.budgetSheds = countUp s.budget.budgetSheds := by
  refine ⟨inSet_raiseEvent _ _, ?_⟩
  change (raiseEvent .budgetShed _).budget.budgetSheds = _
  rw [raiseEvent_budget]
  rfl

theorem joinRetry_budgetSheds (i : Fin 17) (s : State) : (joinRetry i s).budget.budgetSheds = s.budget.budgetSheds := by
  unfold joinRetry
  split <;> rfl

theorem takeVictim_budgetSheds (i : Fin 17) (s : State) :
    (takeVictim i s).budget.budgetSheds = s.budget.budgetSheds := by
  unfold takeVictim
  split
  · rw [joinRetry_budgetSheds, setReduced_budget, place_budgetSheds]
  · rw [shedLoad_budget, place_budgetSheds]

/-- The expiry with a victim: it is taken, counted, and the event ends with a pass or without. -/
theorem dwellExpires_of_victim {s : State} {i : Fin 17} (h : victim s.budget = some i) :
    ∃ pass, dwellExpires s = settle s.budget.own pass (victimCounted (takeVictim i s)) := by
  simp only [dwellExpires, h]
  exact ⟨_, rfl⟩

theorem inSet_settle {before : PerClass Nat} {pass : Bool} {s : State} {e : Event} (h : inSet s.event.flags e = true) :
    inSet (settle before pass s).event.flags e = true := (loadSteps_settle before pass s).frame.flags _ h

theorem settle_budgetSheds (before : PerClass Nat) (pass : Bool) (s : State) :
    (settle before pass s).budget.budgetSheds = s.budget.budgetSheds :=
  congrArg (fun x => x.2.2) (flagsAndCounters_settle before pass s)

/-! ## A reduced light is not admitted again while the budget is exceeded -/

theorem sum_le_sum_add_of_one {f g : Fin 17 → Nat} {i : Fin 17} {d : Nat} (hi : f i ≤ g i + d)
    (hne : ∀ j : Fin 17, j ≠ i → f j ≤ g j) {l : List (Fin 17)} (hl : l.Nodup) :
    (l.map f).sum ≤ (l.map g).sum + d := by
  induction l with
  | nil => exact Nat.zero_le _
  | cons j l ih =>
    obtain ⟨hj, hl⟩ := List.nodup_cons.mp hl
    rw [List.map_cons, List.map_cons, List.sum_cons, List.sum_cons]
    by_cases hji : j = i
    · have hrest : (l.map f).sum ≤ (l.map g).sum :=
        List.sum_le_sum fun k hk => hne k fun hki => hj (by rw [hji, ← hki]; exact hk)
      rw [hji]
      omega
    · have hhead := hne j hji
      have htail := ih hl
      omega

theorem reducedClaim_le {s : State} (h : ∀ n : Fin 8, s.params.channels[n].ceiling ≤ 255) (i : Fin 17) :
    reducedClaim s i ≤ s.budget.loads[i].rated := by
  unfold reducedClaim
  split
  · next hi =>
    have hceiling := h ⟨i.val, hi⟩
    unfold ceilDiv
    have hmul := Nat.mul_le_mul_left s.budget.loads[i].rated hceiling
    exact Nat.le_of_lt_succ ((Nat.div_lt_iff_lt_mul (by decide)).mpr (by
      simp only [Fin.getElem_fin] at hmul ⊢
      omega))
  · exact Nat.zero_le _

theorem BudgetOk.claim_le {s : State} (h : BudgetOk s) (hc : ∀ n : Fin 8, s.params.channels[n].ceiling ≤ 255)
    (i : Fin 17) : s.budget.loads[i].claim ≤ s.budget.loads[i].rated := by
  rw [h.table.claim i]
  cases s.budget.loads[i].state with
  | off => exact Nat.zero_le _
  | waiting => exact Nat.zero_le _
  | admitted => exact le_refl _
  | reduced => exact reducedClaim_le hc i
  | shed => exact Nat.zero_le _

theorem claimIn_admitted (c : LoadClass) (r : LoadRecord) :
    claimIn c (admittedRecord r) = if r.cls = c then r.rated else 0 := rfl

theorem claimIn_le {r : LoadRecord} (h : r.claim ≤ r.rated) (c : LoadClass) : claimIn c r ≤ claimIn c (admittedRecord r) := by
  rw [claimIn_admitted]
  unfold claimIn
  split
  · split
    · exact h
    · exact le_refl _
  · split
    · exact h
    · exact le_refl _
  · exact Nat.zero_le _

/-- A light at class 3 reduced for an exceeded budget (R62): with whatever a pass admits before it, the room it
gave up is not there again. -/
theorem notFits_of_reduced {s t : State} {i : Fin 17} (hs : BudgetOk s) (ht : BudgetOk t)
    (hceiling : ∀ n : Fin 8, t.params.channels[n].ceiling ≤ 255) (hcls : s.budget.loads[i].cls = .c3)
    (hadm : s.budget.loads[i].state = .admitted)
    (hi : t.budget.loads[i] = { s.budget.loads[i] with
      state := .reduced .budget, claim := reducedClaim s i, hold := none })
    (hne : ∀ j : Fin 17, j ≠ i → t.budget.loads[j] = s.budget.loads[j])
    (hsums : t.budget.claimSums = s.budget.claimSums) (hcaps : t.budget.caps = s.budget.caps)
    (hcap : s.budget.caps.c3 < totalAll s.budget) (l : List (Fin 17)) :
    ¬ Fits t.budget (totalsWith t.budget l) t.budget.loads[i] := by
  have hclaim : s.budget.loads[i].claim = s.budget.loads[i].rated := by rw [hs.table.claim i, hadm]; rfl
  have hclsT : t.budget.loads[i].cls = .c3 := (congrArg (fun r : LoadRecord => r.cls) hi).trans hcls
  have hgrow (c : LoadClass) (j : Fin 17) : claimIn c t.budget.loads[j] ≤ claimIn c (withAdmitted t.budget l)[j] := by
    rw [withAdmitted_get]
    split
    · exact claimIn_le (ht.claim_le hceiling j) c
    · exact le_refl _
  have hother {c : LoadClass} (hc : c ≠ .c3) : ownTotal s.budget.loads c ≤ ownTotal (withAdmitted t.budget l) c := by
    refine List.sum_le_sum fun j _ => ?_
    by_cases hji : j = i
    · have hzero : claimIn c s.budget.loads[i] = 0 := by
        rw [claimIn, hadm]
        exact if_neg (by rw [hcls]; exact hc.symm)
      rw [hji, hzero]
      exact Nat.zero_le _
    · rw [← hne j hji]
      exact hgrow c j
  have hthree : ownTotal s.budget.loads .c3
      ≤ ownTotal (withAdmitted t.budget l) .c3 + (t.budget.loads[i].rated - t.budget.loads[i].claim) := by
    refine sum_le_sum_add_of_one (i := i) ?_ (fun j hji => ?_) (List.nodup_finRange 17)
    · have hbefore : claimIn .c3 s.budget.loads[i] = s.budget.loads[i].rated := by
        rw [claimIn, hadm, hclaim]
        exact if_pos hcls
      have hafter : claimIn .c3 t.budget.loads[i] = t.budget.loads[i].claim := by
        rw [claimIn, hi]
        exact if_pos hcls
      have hrated : t.budget.loads[i].rated = s.budget.loads[i].rated := by rw [hi]
      have := hgrow .c3 i
      omega
    · rw [← hne j hji]
      exact hgrow .c3 j
  have h0 := hother (c := .c0) nofun
  have h1 := hother (c := .c1) nofun
  have h2 := hother (c := .c2) nofun
  have hown := hs.table.own
  intro hfit
  unfold Fits at hfit
  simp only [hclsT, totalsWith_eq, totals, sumUpTo, ownTotals, hsums, hcaps, perClass] at hfit
  simp only [totalAll, totals, sumUpTo, hown, ownTotals] at hcap
  omega

/-- The end of an event cannot take in a record that waits and never fits. -/
theorem settle_record_of_notFits (before : PerClass Nat) (pass : Bool) {s : State} (h : BudgetOk s) {i : Fin 17}
    (hfits : ∀ l : List (Fin 17), ¬ Fits s.budget (totalsWith s.budget l) s.budget.loads[i]) :
    RecordSame i s.budget (settle before pass s).budget := by
  obtain ⟨t, u, hst, hus, hu⟩ := sameTable_settle before pass s
  have ht : BudgetOk t := budgetOk_congr h hst
  have hlast := recordSame_of_sameTable hus i
  have hfirst := recordSame_of_sameTable hst i
  obtain ⟨_, hloads, hown, _, _, _, _, hsums, hcaps, _⟩ := hst
  rw [hu] at hlast
  refine (hfirst.trans ?_).trans hlast
  split
  · unfold admissionPass
    split
    · next hopen =>
      obtain ⟨front, hp⟩ := passOver_passOf ht hopen rfl
      have hmem : i ∉ front := by
        intro hm
        obtain ⟨earlier, later, hsplit⟩ := List.append_of_mem hm
        have hfit := hp.fit earlier later i hsplit
        refine hfits earlier ?_
        rw [Fits, totalsWith_eq] at hfit ⊢
        simpa only [withAdmitted, totals, hloads, hsums, hcaps] using hfit
      refine (passOver_record t.budget.retry t i).resolve_right fun hk => hmem ?_
      by_contra hn
      have hsame := (hp.loads i).trans (if_neg hn)
      have hstate := congrArg LoadRecord.state (hsame.symm.trans hk.2.1)
      have hw := hk.1
      rw [hstate] at hw
      cases hw
    · exact ⟨rfl, Iff.rfl, Iff.rfl⟩
  · exact ⟨rfl, Iff.rfl, Iff.rfl⟩

/-- A light that is a victim is of class 3 (R47, R62). -/
theorem cls_of_light {s : State} (h : BudgetOk s) {i : Fin 17} (hl : isLight i = true)
    (hc : s.budget.loads[i].cls ≠ .c0) : s.budget.loads[i].cls = .c3 := by
  have hi : i.val < 8 := of_decide_eq_true hl
  have hallowed := (h.table.kind i).1
  simp only [classAllowed, hi, if_true, Bool.or_eq_true, beq_iff_eq] at hallowed
  exact hallowed.resolve_left hc

/-- An ADMITTED light that is taken is REDUCED(BUDGET) in the retry list (R62). -/
theorem takeVictim_light {s : State} {i : Fin 17} (hs : BudgetOk s) (hlight : isLight i = true)
    (hadm : s.budget.loads[i].state = .admitted) :
    (takeVictim i s).budget.loads[i] = { s.budget.loads[i] with
        state := .reduced .budget, claim := reducedClaim s i, hold := none }
    ∧ i ∈ (takeVictim i s).budget.retry
    ∧ (∀ j : Fin 17, j ≠ i → (takeVictim i s).budget.loads[j] = s.budget.loads[j])
    ∧ (takeVictim i s).budget.caps = s.budget.caps ∧ (takeVictim i s).budget.claimSums = s.budget.claimSums := by
  have htake : takeVictim i s = joinRetry i (setReduced i .budget s) :=
    if_pos (by rw [hlight, hadm]; rfl)
  have hmem : i ∉ (setReduced i .budget s).budget.retry := by
    rw [setReduced_budget, place_retry, hs.mem_retry, hadm]
    nofun
  have hbasis := (loadSteps_takeVictim i s).frame.basis
  obtain ⟨_, _, _, _, hsums, _, _, hcaps, _⟩ := hbasis
  have hloads : (takeVictim i s).budget.loads = (setReduced i .budget s).budget.loads := by
    rw [htake]
    exact joinRetry_loads _ _
  refine ⟨?_, ?_, fun j hj => ?_, hcaps, hsums⟩
  · rw [hloads, setReduced_budget, place_loads_self]
  · rw [htake, joinRetry_budget_of_notMem hmem]
    exact (mem_inPlace _ _ _).mpr (.inl rfl)
  · rw [hloads, setReduced_budget, place_loads_ne _ hj.symm]

/-- Settles O28: the victim's record is written and its new state outlasts the event's own pass. -/
theorem overBudgetWatchShedsAndReturns : Obligations.OverBudgetWatchShedsAndReturns := by
  refine ⟨fun s d hrun hs hceiling hd hlength => ?dwell, fun s i h hrun hs hst hh hlength => ?hold⟩
  case dwell =>
    have hexec : exec .overBudgetDwellExpiry s = .next (publish s (dwellExpires s)) := by
      change effectWhen (reached (dwellLength s.boot.station) s.budget.dwell) dwellExpires s = _
      simp [effectWhen, hrun, hd, reached, dwellLength, hlength]
    rw [hexec]
    refine ⟨fun hnone => ?_, fun i hi => ?_⟩
    · have hexp : dwellExpires s = restartDwell s := by simp only [dwellExpires, victim_none hnone]
      have hpub : publish s (restartDwell s) = restartDwell s :=
        publish_of_untracked rfl (fun _ => rfl) rfl
      rw [hexp, hpub]
      simp only [restartDwell, overBudget, decide_eq_true_eq]
      rfl
    · have hv := victim_of_isVictim hi
      obtain ⟨hsheds, hcls, hdraws⟩ := victim_sound hv
      obtain ⟨pass, hexp⟩ := dwellExpires_of_victim hv
      have hok : BudgetOk (victimCounted (takeVictim i s)) := budgetOk_congr (hs.takeVictim hv) (sameTable_victimCounted _)
      obtain ⟨hraised, hcount⟩ := victimCounted_counts (takeVictim i s)
      obtain ⟨hmoved, hbudget, hevent⟩ := publish_of_loadSteps (loadSteps_dwellExpires s)
      have hcounted := recordSame_of_sameTable (sameTable_victimCounted (takeVictim i s)) i
      refine ⟨_, rfl, hmoved, ?_, ?_, fun hnot => ?_, fun hlight hadm hcap hover => ?_⟩
      · rw [hevent, hexp]
        exact inSet_settle hraised
      · rw [hbudget, hexp, settle_budgetSheds, hcount, takeVictim_budgetSheds]
        exact countUp_eq_min _
      · have htake : takeVictim i s = shedLoad i .budget s := by
          refine if_neg fun hboth => ?_
          obtain ⟨hl, ha⟩ := Bool.and_eq_true_iff.mp hboth
          exact hnot.elim (fun hn => absurd (hl.symm.trans hn) nofun) fun hn => hn (by simpa using ha)
        have hshed : (shedLoad i .budget s).budget.loads[i]
            = { s.budget.loads[i] with state := .shed .budget, claim := 0, hold := some 0 } := by
          rw [shedLoad_budget, place_loads_self]
          rfl
        rw [htake] at hcounted
        have hstill := settle_record_of_still s.budget.own pass (s := victimCounted (takeVictim i s)) (i := i)
          (by rw [htake, hcounted.1, hshed]; rfl)
        rw [htake] at hstill
        rw [hbudget, hexp, htake, hstill.1, hstill.2.1, hcounted.1, hcounted.2.1, hshed, shedLoad_budget, place_retry]
        exact ⟨rfl, fun hm => (mem_without.mp hm).2 rfl⟩
      · have hparams : (victimCounted (takeVictim i s)).params = s.params :=
          (sameTable_victimCounted (takeVictim i s)).1.trans (loadSteps_takeVictim i s).frame.params
        have htake := takeVictim_light hs hlight hadm
        obtain ⟨hself, hretry, hne, hcaps, hsums⟩ := htake
        obtain ⟨_, hloads, _, _, _, _, _, hsumsC, hcapsC, _⟩ := sameTable_victimCounted (takeVictim i s)
        have hselfC := hcounted.1.trans hself
        have hkept := settle_record_of_notFits s.budget.own pass hok (notFits_of_reduced hs hok
          (fun n => by rw [hparams]; exact hceiling n) (cls_of_light hs hlight hcls) hadm hselfC
          (fun j hj => by rw [hloads]; exact hne j hj) (hsumsC.trans hsums) (hcapsC.trans hcaps)
          (Nat.lt_of_le_of_lt hcap hover))
        rw [hbudget, hexp, hkept.1, hkept.2.1, hcounted.2.1]
        exact ⟨hselfC, hretry⟩
  case hold =>
    have hexec : exec (.budgetShedHoldExpiry i) s = .next (publish s (holdExpires i s)) := by
      change effectWhen (s.budget.loads[i].state == .shed .budget && reached Config.holdMs s.budget.loads[i].hold)
        (holdExpires i) s = _
      have hconst : Config.holdMs ≤ h := hlength
      simp [effectWhen, hrun, hst, hh, reached, hconst, -Fin.getElem_fin]
    obtain ⟨hmoved, hbudget, _⟩ := publish_of_loadSteps (loadSteps_holdExpires i s)
    refine ⟨_, hexec, hmoved, ?_⟩
    rw [hbudget]
    cases hset : perClass s.budget.shed s.budget.loads[i].cls with
    | true =>
      have hexp : holdExpires i s = settle s.budget.own true (shedLoad i .level s) := by
        simp only [holdExpires, hset, if_true]
      have hl : (shedLoad i .level s).budget.loads[i]
          = { s.budget.loads[i] with state := .shed .level, claim := 0, hold := none } := by
        rw [shedLoad_budget, place_loads_self]
        rfl
      obtain ⟨kl, kr, ka⟩ := settle_record_of_still s.budget.own true (s := shedLoad i .level s) (i := i)
        (by rw [hl]; rfl)
      rw [hexp, kl, kr, ka, hl, shedLoad_budget, place_retry, place_admitted]
      exact ⟨rfl, fun _ => ⟨rfl, rfl, fun hm => (mem_without.mp hm).2 rfl, fun hm => (mem_without.mp hm).2 rfl⟩, nofun⟩
    | false =>
      have hexp : holdExpires i s = settle s.budget.own true (wait i s) := by
        simp only [holdExpires, hset, Bool.false_eq_true, if_false]
      obtain ⟨hl, hm⟩ := wait_record i s
      rw [hexp]
      rcases settle_record s.budget.own true (wait i s) i with ⟨kl, kr, _⟩ | ⟨_, _, kl, _, ka⟩
      · rw [kl, hl]
        exact ⟨rfl, nofun, fun _ => .inl ⟨rfl, kr.mpr hm⟩⟩
      · rw [kl]
        exact ⟨rfl, nofun, fun _ => .inr ⟨rfl, ka⟩⟩

end Sys2Proof.Machine

/-! What a command does in its owner's words. A command that is a chain of acts is one round: one operation of its
owner, and what a status telegram reports of it published; a request's round ends with its REPLY. A valid frame is at
most two rounds. A property that every operation with its publishing keeps is kept by every step. -/

namespace Sys2Proof.Machine

-- As in the tests, so that no command needs threads of its own.
set_option Elab.async false

/-! ## The owners' operations -/

/-- One operation of a block's owner, with the effects of its acts. -/
inductive Did (s : State) : List Effect → State → Prop where
  | decided {code : Nat} {args : List Byte} {d : State → State × Answer} : Decides code args d →
      Did s requestEffects (d s).1
  | entersRun : Did s [.writes .boot, .opensGate] (enterRun s)
  | samples (p : BankParams) (current : Int) (voltage : Nat) : s.params.bank = some p →
      Did s sampleEffects (sampleBank p current voltage s)
  | derates (p : BankParams) (reading : Adc) : s.params.bank = some p →
      Did s [.writes .bank, .ownBank] (evalDerate p reading s)
  | formsBattery (p : BankParams) : s.params.bank = some p →
      Did s [.writes .bank, .sends] (formBattery p s)
  | goesStale (n : Station) : Did s [.writes .peers] (goStale n s)
  | expires (n : Station) : Did s peerEffects (expirePeer n s)
  | hears (n : Station) (k : Option Kind) (payload : List Byte) : n ≠ 0#4 → n ≠ s.boot.station →
      Did s peerEffects (peerArrival n k payload s)
  | dwellExpires : Did s [.dwells] (dwellExpires s)
  | holdExpires (i : Fin 17) : s.budget.loads[i].state = .shed .budget → Did s [.holds] (holdExpires i s)
  | queuesClaim : Did s [.claims] (queueClaim s)
  | evaluatesZones (readings : Vector Adc 4) :
      Did s (zoneEffects ++ [.raises .zoneSensorFault, .sends, .writes .freeCount]) (evalZones readings s)
  | stepsWindow : Did s [.writes .zone] (stepWindow s)
  | readsTanks (fresh grey black temp : Adc) : Did s tankEffects (tankPeriodOf fresh grey black temp s)
  | pressure (closing : Bool) : Did s pumpEffects (pressureEdge closing s)
  | runsDry : Did s (.raises .pumpDry :: pumpEffects) (pumpRunsDry s)
  | opensValve : s.water.frost.dwell ≠ none →
      Did s [.asks 14, .writes .water, .raises .frostDump, .asks 13] (openValve s)
  | queuesTanks : Did s tanksEffects (queueTanks s)
  | arrives (a : Actuator) (e : StopEnd) : (s.params.actuator a).hosted = true → Did s faultEffects (arrivalAt a e s)
  | departs (a : Actuator) (e : StopEnd) : (s.params.actuator a).hosted = true →
      Did s (.raises .interlockRetract :: motorEffects) (departureAt a e s)
  | edges (a : Actuator) : (s.params.actuator a).hosted = true → Did s [.writes .motion] (hallEdgeAt a s)
  | fails (a : Actuator) (f : ActFault) : (s.params.actuator a).hosted = true →
      ((act s.motion a).latched ≠ none ∨ (act s.motion a).stallTimer ≠ none) → Did s faultEffects (enterFault a f s)
  | crosses (a : Actuator) (current : Nat) : (s.params.actuator a).hosted = true →
      Did s [.writes .motion] (currentCrossing a current s)
  | overcurrent (a : Actuator) : (s.params.actuator a).hosted = true → (act s.motion a).overTimer ≠ none →
      Did s faultEffects (overcurrentAt a s)
  | endsPause (a : Actuator) : (s.params.actuator a).hosted = true → (act s.motion a).pauseTimer ≠ none →
      Did s motorEffects (endPause a s)
  | windEdge : Did s (.raises .windRetract :: motorEffects) (windEdge s)
  | windSilent : Did s [.writes .motion] (windFallsSilent s)
  | stows (override : Bool) : Did s stowEffects (takeStow override s)
  | queuesMotion : Did s motionTelegramEffects (queueMotion s)
  | switches (n : Fin 8) (rising : Bool) : Did s lightEffects (switchEdgeAt n rising s)
  | recalls (number : Byte) : Did s lightEffects (recallScene number s)
  | fades : Did s [.writes .light] (fadeAll s)
  | advances : Did s [.writes .light] (advancePwm s)

/-- An operation is a chain of acts with its effects. -/
theorem Did.acts {L : List Effect} {s t : State} (h : Did s L t) : Acts L s t := by
  cases h with
  | decided h =>
    cases h with
    | zoneSet => exact (acts_decideZoneSet _ _ _ s).mono (by decide)
    | lightSet => exact (acts_decideLightSet _ _ _ s).mono (by decide)
    | move => exact (acts_decideMove _ _ s).mono (by decide)
    | halt => exact (acts_decideHalt _ s).mono (by decide)
    | holdSet => exact (acts_decideHoldSet _ _ s).mono (by decide)
    | faultClear => exact (acts_decideFaultClear _ s).mono (by decide)
    | pumpSet => exact (acts_decidePumpSet _ s).mono (by decide)
    | valveClose => exact (acts_decideValveClose s).mono (by decide)
    | eventsClear => exact (acts_decideEventsClear _ s).mono (by decide)
    | storageSet => exact (acts_decideStorageSet _ s).mono (by decide)
    | diagQuery => exact (acts_decideDiagQuery _ s).mono (by decide)
  | entersRun => exact acts_enterRun s
  | samples => exact acts_sampleBank _ _ _ s
  | derates => exact acts_evalDerate _ _ s
  | formsBattery => exact acts_bankFormBattery _ s
  | goesStale n => exact acts_goStale n s
  | expires n => exact acts_expirePeer n s
  | hears n k payload => exact acts_peerArrival n k payload s
  | dwellExpires => exact LoadEvent.acts (.dwell s)
  | holdExpires i hi => exact LoadEvent.acts (.hold i s hi)
  | queuesClaim => exact LoadEvent.acts (.claim s)
  | evaluatesZones readings => exact acts_evalZones readings s
  | stepsWindow => exact acts_stepWindow s
  | readsTanks fresh grey black temp => exact acts_tankPeriodOf fresh grey black temp s
  | pressure closing => exact acts_pressureEdge closing s
  | runsDry => exact acts_pumpRunsDry s
  | opensValve => exact acts_openValve s
  | queuesTanks => exact acts_queueTanks s
  | arrives a e => exact acts_arrivalAt a e s
  | departs a e => exact acts_departureAt a e s
  | edges a => exact acts_hallEdgeAt a s
  | fails a f => exact acts_enterFault a f s
  | crosses a current => exact acts_currentCrossing a current s
  | overcurrent a => exact acts_overcurrentAt a s
  | endsPause a => exact acts_endPause a s
  | windEdge => exact acts_windEdge s
  | windSilent => exact acts_putWind _ s
  | stows override => exact acts_takeStow override s
  | queuesMotion => exact acts_queueMotion s
  | switches n rising => exact acts_switchEdgeAt n rising s
  | recalls number => exact acts_recallScene number s
  | fades => exact acts_fadeAll s
  | advances => exact acts_advancePwm s

/-! ## Rounds -/

/-- Rounds one after another: an operation of a running part and its publishing, or a REPLY. -/
inductive Rounds (s : State) : State → Prop where
  | refl : Rounds s s
  | round {t u : State} {L : List Effect} : Rounds s t → t.running = true → Did t L u → Rounds s (publish t u)
  | reply {t : State} (payload : List Byte) : Rounds s t → t.running = true → Rounds s (sendTelegram .reply payload t)

theorem Rounds.running {s t : State} (h : Rounds s t) : t.running = s.running := by
  induction h with
  | refl => rfl
  | round _ _ hd ih => exact ((acts_publish _ _).running.trans hd.acts.running).trans ih
  | reply payload _ _ ih => exact (acts_sendTelegram .reply payload _).running.trans ih

/-- At most one operation of a running part with its publishing, and a REPLY. -/
inductive Round (s : State) : State → Prop where
  | idle : Round s s
  | did {u : State} {L : List Effect} : s.running = true → Did s L u → Round s (publish s u)
  | answered {u : State} {L : List Effect} (payload : List Byte) : s.running = true → Did s L u →
      Round s (sendTelegram .reply payload (publish s u))
  | replied (payload : List Byte) : s.running = true → Round s (sendTelegram .reply payload s)

theorem Round.rounds {s t : State} (h : Round s t) : Rounds s t := by
  cases h with
  | idle => exact .refl
  | did hrun hd => exact .round .refl hrun hd
  | answered payload hrun hd =>
    have hround : Rounds s (publish s _) := .round .refl hrun hd
    exact .reply payload hround (hround.running.trans hrun)
  | replied payload hrun => exact .reply payload .refl hrun

/-- A guarded effect is at most one round. -/
theorem round_effectWhen {L : List Effect} {cond : Bool} {effect : State → State} {s : State}
    (h : cond = true → Did s L (effect s)) : ∃ t, effectWhen cond effect s = .next t ∧ Round s t := by
  refine ⟨_, rfl, ?_⟩
  split
  · next hc =>
    obtain ⟨hrun, hcond⟩ := Bool.and_eq_true_iff.mp hc
    exact .did hrun (h hcond)
  · exact .idle

theorem round_onBankHost {L : List Effect} {due : Bool} {effect : BankParams → State → State} {s : State}
    (h : ∀ p, s.params.bank = some p → Did s L (effect p s)) : ∃ t, onBankHost due effect s = .next t ∧ Round s t := by
  unfold onBankHost
  cases hp : s.params.bank with
  | none => exact ⟨s, rfl, .idle⟩
  | some p => exact round_effectWhen fun _ => h p hp

theorem round_onActuator {L : List Effect} {a : Actuator} {due : ActRec → Bool} {effect : State → State} {s : State}
    (h : (s.params.actuator a).hosted = true → due (act s.motion a) = true → Did s L (effect s)) :
    ∃ t, onActuator a due effect s = .next t ∧ Round s t :=
  round_effectWhen fun hc => h (Bool.and_eq_true_iff.mp hc).1 (Bool.and_eq_true_iff.mp hc).2

theorem running_of_takesRequests {s : State} (h : takesRequests s = true) : s.running = true :=
  (Bool.and_eq_true_iff.mp h).1

theorem round_takeRequest {code : Nat} {args : List Byte} {d : State → State × Answer} (h : Decides code args d)
    (rq : Requester) (s : State) : Round s (takeRequest rq d s) := by
  unfold takeRequest
  split
  · next ht => exact .answered _ (running_of_takesRequests ht) (.decided h)
  · exact .idle

theorem reached_ne_none {limit : Nat} {t : Option Nat} (h : reached limit t = true) : t ≠ none := by
  rintro rfl
  cases h

theorem round_dispatchRequest (origin : Station) (payload : List Byte) (s : State) :
    Round s (dispatchRequest origin payload s) := by
  unfold dispatchRequest
  split
  · next hadd =>
    have hrun := running_of_takesRequests (Bool.and_eq_true_iff.mp hadd).1
    unfold reply decideRequest
    split
    · next d hd => exact .answered _ hrun (.decided (decides_of_decisionFor hd))
    · rw [publish_self]
      exact .replied _ hrun
  · exact .idle

theorem Rounds.trans {s t u : State} (h : Rounds s t) (k : Rounds t u) : Rounds s u := by
  induction k with
  | refl => exact h
  | round _ hrun hd ih => exact .round ih hrun hd
  | reply payload _ hrun ih => exact .reply payload ih hrun

/-- A word is its two bytes. -/
theorem byte_append_byte (w : Word) : (w.extractLsb' 8 8 ++ w.extractLsb' 0 8 : BitVec 16) = w := by
  ext i hi
  simp only [BitVec.getElem_append, BitVec.getElem_extractLsb']
  split
  · simp [BitVec.getElem_eq_testBit_toNat, BitVec.testBit_toNat]
  · simp [BitVec.getElem_eq_testBit_toNat, BitVec.testBit_toNat]
    congr 1
    omega

/-- Every command that is a chain of acts is at most one round with its REPLY. -/
theorem exec_round (c : Instr) (s : State) (h : isChain c = true) : ∃ t, exec c s = .next t ∧ Round s t := by
  cases c with
  | powerOnReset | resetPinReset | recordReadComplete | recordReadRetry | frameReceived | lineIdle
  | lineFallingEdge | contentionLoss | txCollision | frameSent | receiveError => cases h
  | listenIntervalEnd => exact round_effectWhen fun _ => .entersRun
  | storageSet rq value => exact ⟨_, rfl, round_takeRequest (.storageSet value) rq s⟩
  | bankSample i v => exact round_onBankHost fun p hp => .samples p i v hp
  | derateEvaluation reading => exact round_onBankHost fun p hp => .derates p reading hp
  | batteryPeriod => exact round_onBankHost fun p hp => .formsBattery p hp
  | peerStale n => exact round_effectWhen fun _ => .goesStale n
  | peerRemoval n => exact round_effectWhen fun _ => .expires n
  | overBudgetDwellExpiry => exact round_effectWhen fun _ => .dwellExpires
  | budgetShedHoldExpiry i =>
    exact round_effectWhen fun hc => .holdExpires i (by simpa using (Bool.and_eq_true_iff.mp hc).1)
  | claimDue | claimHeartbeat => exact round_effectWhen fun _ => .queuesClaim
  | zoneEvaluation readings => exact round_effectWhen fun _ => .evaluatesZones readings
  | heaterWindowStep => exact round_effectWhen fun _ => .stepsWindow
  | zoneSet rq zone mode sp =>
    refine ⟨takeRequest rq (decideZoneSet zone mode sp) s, rfl, ?_⟩
    rw [← byte_append_byte sp]
    exact round_takeRequest (.zoneSet zone mode _ _) rq s
  | tankPeriod fresh grey black temp => exact round_effectWhen fun _ => .readsTanks fresh grey black temp
  | pressureSwitchEdge closing => exact round_effectWhen fun _ => .pressure closing
  | pumpRunTimerExpiry => exact round_effectWhen fun _ => .runsDry
  | frostDwellExpiry => exact round_effectWhen fun hc => .opensValve (reached_ne_none hc)
  | pumpSet rq value => exact ⟨_, rfl, round_takeRequest (.pumpSet value) rq s⟩
  | valveClose rq => exact ⟨_, rfl, round_takeRequest .valveClose rq s⟩
  | tanksDue | tanksHeartbeat => exact round_effectWhen fun _ => .queuesTanks
  | stopArrival a e => exact round_onActuator (due := fun _ => true) fun ha _ => .arrives a e ha
  | stopDeparture a e => exact round_onActuator (due := fun _ => true) fun ha _ => .departs a e ha
  | hallEdge a => exact round_onActuator (due := fun _ => true) fun ha _ => .edges a ha
  | travelTimeout a =>
    refine round_onActuator (due := travelOverdue) fun ha hdue => .fails a .travelTimeout ha (.inl fun hnone => ?_)
    rw [travelOverdue, hnone] at hdue
    cases hdue
  | stall a => exact round_onActuator (due := fun r => reached Config.stallMs r.stallTimer) fun ha hdue => .fails a .stall ha (.inr (reached_ne_none hdue))
  | motorCurrentCrossing a current => exact round_onActuator (due := fun _ => true) fun ha _ => .crosses a current ha
  | overcurrentExpiry a =>
    exact round_onActuator (due := fun r => reached Config.overcurrentMs r.overTimer) fun ha hdue => .overcurrent a ha (reached_ne_none hdue)
  | pauseEnd a =>
    exact round_onActuator (due := fun r => reached Config.pauseMs r.pauseTimer) fun ha hdue => .endsPause a ha (reached_ne_none hdue)
  | anemometerEdge => exact round_effectWhen fun _ => .windEdge
  | windSilenceExpiry => exact round_effectWhen fun _ => .windSilent
  | move rq a d => exact ⟨_, rfl, round_takeRequest (.move a d) rq s⟩
  | halt rq a => exact ⟨_, rfl, round_takeRequest (.halt a) rq s⟩
  | holdSet rq a v => exact ⟨_, rfl, round_takeRequest (.holdSet a v) rq s⟩
  | faultClear rq a => exact ⟨_, rfl, round_takeRequest (.faultClear a) rq s⟩
  | stow override => exact round_effectWhen fun _ => .stows override
  | motionHeartbeat => exact round_effectWhen fun _ => .queuesMotion
  | switchEdge n rising => exact round_effectWhen fun _ => .switches n rising
  | scene number => exact round_effectWhen fun _ => .recalls number
  | lightSet rq n code level => exact ⟨_, rfl, round_takeRequest (.lightSet n code level) rq s⟩
  | fadeTick => exact round_effectWhen fun _ => .fades
  | pwmCounterAdvance => exact round_effectWhen fun _ => .advances
  | eventsClear rq set =>
    refine ⟨takeRequest rq (decideEventsClear set) s, rfl, ?_⟩
    rw [← byte_append_byte set]
    exact round_takeRequest (.eventsClear _ _) rq s
  | diagQuery rq page => exact ⟨_, rfl, round_takeRequest (.diagQuery page) rq s⟩
  | requestOther origin payload => exact ⟨_, rfl, round_dispatchRequest origin payload s⟩

/-! ## A frame and a step -/

/-- A valid frame is at most two rounds (R170). -/
theorem rounds_handTelegram {h : Word} {s : State} (hrun : s.running = true) (h0 : headerOrigin h ≠ 0#4)
    (hown : headerOrigin h ≠ s.boot.station) (payload : List Byte) : Rounds s (handTelegram h payload s) := by
  have hheard : Rounds s (publish s (peerArrival (headerOrigin h) (kindOfCode (headerKind h)) payload s)) :=
    .round .refl hrun (.hears _ _ payload h0 hown)
  have hrun' := hheard.running.trans hrun
  unfold handTelegram
  simp only
  split
  · exact hheard.trans (round_dispatchRequest _ _ _).rounds
  · exact .round hheard hrun' (.recalls _)
  · exact .round hheard hrun' (.stows _)
  · exact hheard

/-- What a property of states needs to be kept by every step. -/
structure Inductive (P : State → Prop) : Prop where
  pending : ∀ (s : State) (q : List Instr), P s → P { s with pending := q }
  round : ∀ (s u : State) (L : List Effect), s.running = true → P s → Did s L u → P (publish s u)
  reply : ∀ (s : State) (payload : List Byte), s.running = true → P s → P (sendTelegram .reply payload s)
  reset : ∀ (s : State) (straps : Station) (storage : Bool) (bank : Bank),
    P (keepModelFields s (State.afterReset straps storage bank))
  waits : ∀ s : State, s.running = false → P s → P (awaitRetry s)
  starts : ∀ (s : State) (record : List Byte) (passed : Bool) (inputs : StartInputs), s.running = false → P s →
    P (startBlocks record passed inputs s)
  line : ∀ (s : State) (l : Line), (s.running = false → l = s.line) → P s → P (s.setLine l)
  clash : ∀ s : State, s.running = true → P s → P (raiseEvent .clash s)
  tick : ∀ s : State, P s → P (Machine.tick s)

theorem Inductive.rounds {P : State → Prop} (h : Inductive P) {s t : State} (hr : Rounds s t) (hs : P s) : P t := by
  induction hr with
  | refl => exact hs
  | round _ hrun hd ih => exact h.round _ _ _ hrun ih hd
  | reply payload _ hrun ih => exact h.reply _ payload hrun ih

theorem Inductive.exec {P : State → Prop} (h : Inductive P) {c : Instr} {s t : State} (hs : P s)
    (he : Machine.exec c s = .next t) : P t := by
  cases exec_ran he with
  | chain hc _ =>
    obtain ⟨u, hu, hround⟩ := exec_round c s hc
    have ht : t = u := Host.Outcome.next.inj (he.symm.trans hu)
    rw [ht]
    exact h.rounds hround.rounds hs
  | stays => exact hs
  | reset straps storage bank => exact h.reset s straps storage bank
  | waits hrun => exact h.waits s hrun hs
  | starts record passed inputs hrun => exact h.starts s record passed inputs hrun hs
  | line l hl => exact h.line s l hl hs
  | clash l hrun => exact h.clash _ hrun (h.line s l (fun h' => absurd (hrun.symm.trans h') nofun) hs)
  | hands w payload hrun h0 hown =>
    exact h.rounds (rounds_handTelegram (s := frameEnded s) hrun h0 hown payload)
      (h.line s _ (fun h' => absurd (hrun.symm.trans h') nofun) hs)

theorem Inductive.keptByEveryStep {P : State → Prop} (h : Inductive P) : KeptByEveryStep P :=
  Machine.keptByEveryStep h.pending (fun _ _ _ => h.exec) h.tick

end Sys2Proof.Machine

/-! A whole REQUEST reaches its owner. -/

namespace Sys2Proof.Machine

-- As in the tests, so that no command needs threads of its own.
set_option Elab.async false

/-- The codes and argument counts of the table (chapter 11, section 11.3). -/
theorem Decides.known {n : Nat} {args : List Byte} {d : State → State × Answer} (h : Decides n args d) :
    n ≠ 0 ∧ n ≤ 11 ∧ (n, args.length) ∈ [(1, 4), (2, 3), (3, 2), (4, 1), (5, 2), (6, 1), (7, 1),
      (8, 0), (9, 2), (10, 1), (11, 1)] := by
  cases h <;> exact ⟨by decide, by decide, by simp⟩

theorem dispatchRequest_of_addressed {s : State} {target : Byte} (origin : Station) (tag code : Byte)
    (args : List Byte) (htakes : takesRequests s = true) (htarget : target.toNat = s.boot.station.toNat) :
    dispatchRequest origin (target :: tag :: code :: args) s
      = reply s { origin := origin, tag := tag } (match decisionFor code args with
        | some d => d s
        | none => (s, .bare .badRequest)) := by
  have hadd : addressedHere (target :: tag :: code :: args) s = true :=
    Bool.and_eq_true_iff.mpr ⟨htakes, beq_iff_eq.mpr htarget⟩
  exact if_pos hadd

/-- A decision of the table does what its owner's own command does. -/
theorem dispatchRequest_of_decision {s : State} {target : Byte} {d : State → State × Answer} (origin : Station)
    (tag : Byte) {code : Byte} {args : List Byte} (htakes : takesRequests s = true)
    (htarget : target.toNat = s.boot.station.toNat) (hd : decisionFor code args = some d) :
    dispatchRequest origin (target :: tag :: code :: args) s = takeRequest { origin := origin, tag := tag } d s := by
  rw [dispatchRequest_of_addressed origin tag code args htakes htarget, hd]
  exact (if_pos htakes).symm

/-- Settles O53: the dispatch finds the owner's decision by code and argument count, and ends with its REPLY. -/
theorem requestsReachTheirOwners : Obligations.RequestsReachTheirOwners := by
  intro s origin target tag code args
  refine ⟨fun hnot => ?ignored, fun htakes htarget => ⟨fun hbad => ?bad, fun a b c d i hi => ?known⟩⟩
  case ignored =>
    have hadd : ¬ addressedHere (target :: tag :: code :: args) s = true := by
      intro h
      obtain ⟨htakes, htarget⟩ := Bool.and_eq_true_iff.mp h
      rcases hnot with h' | h'
      · exact absurd (htakes.symm.trans h') nofun
      · exact h' (beq_iff_eq.mp htarget)
    exact congrArg Host.Outcome.next (if_neg hadd)
  case bad =>
    have hnone : decisionFor code args = none := by
      cases hd : decisionFor code args with
      | none => rfl
      | some d =>
        obtain ⟨hzero, hlast, hknown⟩ := (decides_of_decisionFor hd).known
        rcases hbad with rfl | hlarge | hunknown
        · exact absurd rfl hzero
        · exact absurd hlast (Nat.not_le_of_lt hlarge)
        · exact absurd hknown hunknown
    have hdispatch := dispatchRequest_of_addressed origin tag code args htakes htarget
    rw [hnone] at hdispatch
    refine congrArg Host.Outcome.next (hdispatch.trans ?_)
    rw [reply, publish_self, sendTelegram_of_configured (station_ne_zero_of_takesRequests htakes)]
    rfl
  case known =>
    have howner {e : State → State × Answer} (hd : decisionFor code args = some e) :
        exec (.requestOther origin (target :: tag :: code :: args)) s
          = .next (takeRequest { origin := origin, tag := tag } e s) :=
      congrArg Host.Outcome.next (dispatchRequest_of_decision origin tag htakes htarget hd)
    simp only [List.mem_cons, Prod.mk.injEq, List.not_mem_nil, or_false] at hi
    rcases hi with ⟨hn, rfl, rfl⟩ | ⟨hn, rfl, rfl⟩ | ⟨hn, rfl, rfl⟩ | ⟨hn, rfl, rfl⟩ | ⟨hn, rfl, rfl⟩ | ⟨hn, rfl, rfl⟩
      | ⟨hn, rfl, rfl⟩ | ⟨hn, rfl, rfl⟩ | ⟨hn, rfl, rfl⟩ | ⟨hn, rfl, rfl⟩ | ⟨hn, rfl, rfl⟩
    · exact howner (e := decideZoneSet a b (c ++ d)) (by unfold decisionFor; rw [hn]; rfl)
    · exact howner (e := decideLightSet a b c) (by unfold decisionFor; rw [hn]; rfl)
    · exact howner (e := decideMove a b) (by unfold decisionFor; rw [hn]; rfl)
    · exact howner (e := decideHalt a) (by unfold decisionFor; rw [hn]; rfl)
    · exact howner (e := decideHoldSet a b) (by unfold decisionFor; rw [hn]; rfl)
    · exact howner (e := decideFaultClear a) (by unfold decisionFor; rw [hn]; rfl)
    · exact howner (e := decidePumpSet a) (by unfold decisionFor; rw [hn]; rfl)
    · exact howner (e := decideValveClose) (by unfold decisionFor; rw [hn]; rfl)
    · exact howner (e := decideEventsClear (a ++ b)) (by unfold decisionFor; rw [hn]; rfl)
    · exact howner (e := decideStorageSet a) (by unfold decisionFor; rw [hn]; rfl)
    · exact howner (e := decideDiagQuery a) (by unfold decisionFor; rw [hn]; rfl)

end Sys2Proof.Machine

/-! What an event of the budget unit leaves of a record it is not about: one that is OFF, and an ADMITTED one that is
not sheddable, stands as it was; and none that is not OFF is turned OFF. -/

namespace Sys2Proof.Machine

-- As in the tests, so that no command needs threads of its own.
set_option Elab.async false

/-- A record that only an ask or a release of its own moves: OFF, or ADMITTED and not sheddable (R47). -/
def Firm (i : Fin 17) (b : Budget) : Prop :=
  b.loads[i].state = .off ∨ b.loads[i].state = .admitted ∧ sheddable i = false

/-- A firm record stands as it was, and a record that is not OFF is not turned OFF. -/
def LoadKept (i : Fin 17) (s t : State) : Prop :=
  (Firm i s.budget → t.budget.loads[i] = s.budget.loads[i])
  ∧ (s.budget.loads[i].state ≠ .off → t.budget.loads[i].state ≠ .off)

theorem loadKept_of_eq {i : Fin 17} {s t : State} (h : t.budget.loads[i] = s.budget.loads[i]) : LoadKept i s t :=
  ⟨fun _ => h, fun hne => by rw [h]; exact hne⟩

theorem loadKept_of_sameTable {s t : State} (h : SameTable s t) (i : Fin 17) : LoadKept i s t :=
  loadKept_of_eq (recordSame_of_sameTable h i).1

theorem LoadKept.refl (i : Fin 17) (s : State) : LoadKept i s s := loadKept_of_eq rfl

theorem LoadKept.trans {i : Fin 17} {s t u : State} (h : LoadKept i s t) (k : LoadKept i t u) : LoadKept i s u := by
  refine ⟨fun hf => ?_, fun hne => k.2 (h.2 hne)⟩
  have hst := h.1 hf
  have hft : Firm i t.budget := by
    unfold Firm at hf ⊢
    rw [hst]
    exact hf
  exact (k.1 hft).trans hst

/-- Writing a record leaves the others, and a record that is not firm may be written with any state but OFF. -/
theorem loadKept_of_place {i j : Fin 17} {s t : State} {r : LoadRecord} {R A : List (Fin 17)}
    (ht : t.budget = place s.budget j r R A) (h : j = i → ¬ Firm i s.budget ∧ r.state ≠ .off) : LoadKept i s t := by
  by_cases hji : j = i
  · obtain ⟨hfirm, hr⟩ := h hji
    subst hji
    refine ⟨fun hf => absurd hf hfirm, fun _ => ?_⟩
    rw [ht, place_loads_self]
    exact hr
  · exact loadKept_of_eq (by rw [ht, place_loads_ne _ hji])

theorem not_firm_of_state {i : Fin 17} {b : Budget} (hoff : b.loads[i].state ≠ .off)
    (h : b.loads[i].state ≠ .admitted ∨ sheddable i = true) : ¬ Firm i b := by
  rintro (h' | ⟨hadm, hsheds⟩)
  · exact hoff h'
  · exact h.elim (fun hne => hne hadm) fun hs => absurd (hs.symm.trans hsheds) nofun

theorem loadKept_settle (before : PerClass Nat) (pass : Bool) (s : State) (i : Fin 17) :
    LoadKept i s (settle before pass s) := by
  rcases settle_record before pass s i with h | ⟨_, hw, hl, _⟩
  · exact loadKept_of_eq h.1
  · have hoff : s.budget.loads[i].state ≠ .off := fun h' => by rw [h'] at hw; cases hw
    have hadm : s.budget.loads[i].state ≠ .admitted := fun h' => by rw [h'] at hw; cases hw
    refine ⟨fun hf => absurd hf (not_firm_of_state hoff (.inl hadm)), fun _ => ?_⟩
    rw [hl]
    nofun

theorem loadKept_joinRetry (i j : Fin 17) (s : State) : LoadKept i s (joinRetry j s) :=
  loadKept_of_eq (by rw [joinRetry_loads])

theorem loadKept_foldl {α : Type} {i : Fin 17} (f : State → α → State) (h : ∀ s a, LoadKept i s (f s a))
    (l : List α) (s : State) : LoadKept i s (l.foldl f s) := by
  induction l generalizing s with
  | nil => exact .refl i s
  | cons a l ih => exact (h s a).trans (ih _)

theorem loadKept_shedOne (c : LoadClass) (i : Fin 17) (s : State) (j : Fin 17) : LoadKept i s (shedOne c s j) := by
  by_cases hj : s.budget.loads[j].cls = c ∧ sheddable j = true
  · rcases shedOne_cases hj with ⟨he, _⟩ | ⟨he, _, hst⟩ | ⟨he, hst⟩
    · rw [he]
      exact .refl i s
    · rw [he]
      refine loadKept_of_place (reduceLevel_budget j s) fun hji => ⟨?_, nofun⟩
      subst hji
      refine not_firm_of_state ?_ (.inr hj.2)
      rcases hst with ⟨hst, _⟩ | hst | hst <;> rw [hst] <;> nofun
    · rw [he]
      refine loadKept_of_place (shedLoad_budget j .level s) fun hji => ⟨?_, nofun⟩
      subst hji
      refine not_firm_of_state ?_ (.inr hj.2)
      rcases hst with ⟨hst, _⟩ | ⟨hst | hst, _⟩ | hst <;> rw [hst] <;> nofun
  · rw [shedOne_of_other hj]
    exact .refl i s

theorem loadKept_restoreLight (c : LoadClass) (i : Fin 17) (s : State) (j : Fin 17) : LoadKept i s (restoreLight c s j) := by
  by_cases hj : s.budget.loads[j].cls = c ∧ s.budget.loads[j].state = .reduced .level
  · have hfirm : ¬ Firm j s.budget := not_firm_of_state (by rw [hj.2]; nofun) (.inl (by rw [hj.2]; nofun))
    rcases restoreLight_cases hj with he | he
    · rw [he]
      exact loadKept_of_place (admitLoad_budget j s) fun hji => ⟨hji ▸ hfirm, nofun⟩
    · rw [he]
      exact loadKept_of_place (setReduced_budget j .budget s) fun hji => ⟨hji ▸ hfirm, nofun⟩
  · rw [restoreLight_of_other hj]
    exact .refl i s

theorem loadKept_restoreShed (c : LoadClass) (i : Fin 17) (s : State) (j : Fin 17) : LoadKept i s (restoreShed c s j) := by
  by_cases hj : s.budget.loads[j].cls = c ∧ s.budget.loads[j].state = .shed .level
  · have hfirm : ¬ Firm j s.budget := not_firm_of_state (by rw [hj.2]; nofun) (.inl (by rw [hj.2]; nofun))
    rw [restoreShed_of_shed hj]
    exact loadKept_of_place (setWaiting_budget j s) fun hji => ⟨hji ▸ hfirm, nofun⟩
  · rw [restoreShed_of_other hj]
    exact .refl i s

theorem loadKept_setShedFlag (c : LoadClass) (i : Fin 17) (s : State) : LoadKept i s (setShedFlag c s) := by
  have hflag : LoadKept i s (withFlag c true s) := loadKept_of_eq rfl
  exact (hflag.trans (loadKept_foldl _ (loadKept_shedOne c i) _ _)).trans
    (loadKept_of_sameTable (sameTable_setShedFlag c s) i)

theorem loadKept_clearShedFlag (c : LoadClass) (i : Fin 17) (s : State) : LoadKept i s (clearShedFlag c s) := by
  have hflag : LoadKept i s (withFlag c false s) := loadKept_of_eq rfl
  have hjoin (u : State) (j : Fin 17) : LoadKept i u (joinRestored c u j) :=
    loadKept_of_eq (by rw [joinRestored_loads])
  exact ((hflag.trans (loadKept_foldl _ (loadKept_restoreLight c i) _ _)).trans
    (loadKept_foldl _ (loadKept_restoreShed c i) _ _)).trans (loadKept_foldl _ hjoin _ _)

theorem loadKept_evalShedFlag (i : Fin 17) (s : State) (c : LoadClass) : LoadKept i s (evalShedFlag s c) := by
  unfold evalShedFlag
  simp only
  split
  · split
    · exact loadKept_clearShedFlag c i s
    · exact .refl i s
  · split
    · split
      · exact loadKept_clearShedFlag c i s
      · exact .refl i s
    · split
      · exact loadKept_setShedFlag c i s
      · exact .refl i s

theorem loadKept_reevaluate (i : Fin 17) (b : Budget) (s : State) : LoadKept i s (reevaluate b s) := by
  have hcompute : LoadKept i s (computeBudget s) := loadKept_of_eq rfl
  have hflags : LoadKept i (computeBudget s) (evalShedFlags (computeBudget s)) := by
    unfold evalShedFlags
    split
    · exact loadKept_foldl _ (loadKept_evalShedFlag i) _ _
    · exact .refl i _
  exact (hcompute.trans hflags).trans (loadKept_settle _ _ _ i)

theorem loadKept_dwellExpires (i : Fin 17) (s : State) : LoadKept i s (dwellExpires s) := by
  cases hv : victim s.budget with
  | none =>
    have hexp : dwellExpires s = restartDwell s := by simp only [dwellExpires, hv]
    rw [hexp]
    exact loadKept_of_eq rfl
  | some j =>
    obtain ⟨pass, hexp⟩ := dwellExpires_of_victim hv
    obtain ⟨hsheds, _, hdraws⟩ := victim_sound hv
    have hoff : s.budget.loads[j].state ≠ .off := fun h' => by rw [h'] at hdraws; cases hdraws
    have hfirm : ¬ Firm j s.budget := not_firm_of_state hoff (.inr hsheds)
    have htake : LoadKept i s (takeVictim j s) := by
      unfold takeVictim
      split
      · exact (loadKept_of_place (setReduced_budget j .budget s) fun hji => ⟨hji ▸ hfirm, nofun⟩).trans
          (loadKept_joinRetry i j _)
      · exact loadKept_of_place (shedLoad_budget j .budget s) fun hji => ⟨hji ▸ hfirm, nofun⟩
    rw [hexp]
    exact (htake.trans (loadKept_of_sameTable (sameTable_victimCounted _) i)).trans (loadKept_settle _ _ _ i)

theorem loadKept_wait {i j : Fin 17} {s : State} (h : j = i → ¬ Firm i s.budget) : LoadKept i s (wait j s) :=
  (loadKept_of_place (setWaiting_budget j s) fun hji => ⟨h hji, nofun⟩).trans (loadKept_joinRetry i j _)

theorem loadKept_holdExpires (i : Fin 17) {j : Fin 17} {s : State} (h : s.budget.loads[j].state = .shed .budget) :
    LoadKept i s (holdExpires j s) := by
  have hfirm : ¬ Firm j s.budget := not_firm_of_state (by rw [h]; nofun) (.inl (by rw [h]; nofun))
  refine LoadKept.trans ?_ (loadKept_settle _ _ _ i)
  split
  · exact loadKept_of_place (shedLoad_budget j .level s) fun hji => ⟨hji ▸ hfirm, nofun⟩
  · exact loadKept_wait fun hji => hji ▸ hfirm

theorem loadKept_ask {i j : Fin 17} (h : j ≠ i) (s : State) : LoadKept i s (ask j s) := by
  have hother {t : State} {r : LoadRecord} {R A : List (Fin 17)} (ht : t.budget = place s.budget j r R A) :
      LoadKept i s t := loadKept_of_place ht fun hji => absurd hji h
  unfold ask
  simp only
  split
  · exact .refl i s
  · split
    · exact (hother (admitLoad_budget j s)).trans (loadKept_settle _ _ _ i)
    · split
      · split
        · exact (hother (reduceLevel_budget j s)).trans (loadKept_settle _ _ _ i)
        · exact (hother (shedLoad_budget j .level s)).trans (loadKept_settle _ _ _ i)
      · exact (loadKept_wait fun hji => absurd hji h).trans (loadKept_settle _ _ _ i)

theorem loadKept_release {i j : Fin 17} (h : j ≠ i) (s : State) : LoadKept i s (release j s) := by
  unfold release
  split
  · exact .refl i s
  · exact (loadKept_of_place (turnOff_budget j s) fun hji => absurd hji h).trans (loadKept_settle _ _ _ i)

theorem loadKept_askRetraction {i j : Fin 17} (h : j ≠ i) (s : State) : LoadKept i s (askRetraction j s) := by
  unfold askRetraction
  split
  · exact .refl i s
  · exact (loadKept_of_place (admitMotor_budget j .c0 s) fun hji => absurd hji h).trans (loadKept_settle _ _ _ i)

theorem loadKept_askExtension {i j : Fin 17} (h : j ≠ i) (s : State) : LoadKept i s (askExtension j s) := by
  unfold askExtension
  split
  · exact .refl i s
  · split
    · exact .refl i s
    · exact (loadKept_of_place (admitMotor_budget j .c2 s) fun hji => absurd hji h).trans (loadKept_settle _ _ _ i)

/-- An event of the budget unit keeps every record it does not ask for or release. -/
theorem LoadEvent.loadKept {e : Effect} {s t : State} (h : LoadEvent e s t) {i : Fin 17} (hi : e ≠ .asks i) :
    LoadKept i s t := by
  have hne {j : Fin 17} (hj : Effect.asks j ≠ .asks i) : j ≠ i := fun hji => hj (by rw [hji])
  cases h with
  | ask j _ _ => exact loadKept_ask (hne hi) s
  | release j => exact loadKept_release (hne hi) s
  | askRetraction a => exact loadKept_askRetraction (hne hi) s
  | askExtension a => exact loadKept_askExtension (hne hi) s
  | ownBank o =>
    exact (loadKept_of_eq (t := s.setBudget { s.budget with ownBank := some o }) rfl).trans (loadKept_reevaluate i _ _)
  | quantities banks supply known sums =>
    exact (loadKept_of_eq (t := s.setBudget { s.budget with
      peerBanks := banks, supplySum := supply, supplyKnown := known, claimSums := sums }) rfl).trans
      (loadKept_reevaluate i _ _)
  | dwell => exact loadKept_dwellExpires i s
  | hold j _ hj => exact loadKept_holdExpires i hj
  | gate =>
    exact (loadKept_of_eq (t := s.setBudget { s.budget with gateOpen := true }) rfl).trans (loadKept_settle _ _ _ i)
  | claim => exact loadKept_of_sameTable (sameTable_queueClaim s) i

/-- A chain of acts keeps every record that none of its effects asks for. -/
theorem Acts.loadKept {L : List Effect} {s t : State} (h : Acts L s t) {i : Fin 17} (hi : .asks i ∉ L) :
    LoadKept i s t := by
  induction h with
  | refl => exact .refl i s
  | event he _ k ih => exact ih.trans (k.loadKept fun h' => hi (h' ▸ he))
  | send _ _ _ _ ih => exact ih.trans (loadKept_of_sameTable (sameTable_sendTelegram _ _ _) i)
  | raise _ _ ih => exact ih.trans (loadKept_of_sameTable (sameTable_raiseEvent _ _) i)
  | write _ _ k ih => exact ih.trans (loadKept_of_sameTable (sameTable_of_budget k.params k.budget) i)
  | clear _ _ _ ih => exact ih.trans (loadKept_of_sameTable (sameTable_clearPage _ _) i)

/-- Which loads are OFF, none of them asked for. -/
theorem LoadKept.off_iff {i : Fin 17} {s t : State} (h : LoadKept i s t) :
    t.budget.loads[i].state = .off ↔ s.budget.loads[i].state = .off := by
  refine ⟨fun ht => ?_, fun hs => ?_⟩
  · by_contra hne
    exact h.2 hne ht
  · rw [h.1 (.inl hs)]
    exact hs

end Sys2Proof.Machine

/-! The lights' on conditions and loads: every event of another block leaves them, and an evaluation brings them to
R145. -/

namespace Sys2Proof.Machine

-- As in the tests, so that no command needs threads of its own.
set_option Elab.async false

/-! ## What the controllers hold of their loads -/

theorem mirrored_setBudget {s : State} (h : Mirrored s) {b : Budget} (hb : b.loads = s.budget.loads) :
    Mirrored (s.setBudget b) := mirrored_of_eq s _ h rfl rfl rfl fun i => by rw [State.setBudget_budget, hb]

theorem Written.mirrored {bs : List Block} {s t : State} (h : Written bs s t) (hs : Mirrored s) : Mirrored t := by
  obtain ⟨hlights, hzones, hheater, hpump⟩ := hs
  unfold Mirrored
  rw [h.budget]
  exact ⟨fun n => (h.lights n).trans (hlights n), fun n => (h.zones n).trans (hzones n), h.heater.trans hheater,
    h.pump.trans hpump⟩

theorem clearPage_loads (page : Nat) (s : State) : (clearPage page s).budget.loads = s.budget.loads
    ∧ (clearPage page s).light = s.light ∧ (clearPage page s).zone = s.zone
    ∧ (clearPage page s).water = { s.water with frostDumps := (clearPage page s).water.frostDumps } := by
  unfold clearPage
  split
  · exact ⟨rfl, rfl, rfl, rfl⟩
  · split <;> exact ⟨rfl, rfl, rfl, rfl⟩

theorem mirrored_clearPage (page : Nat) {s : State} (h : Mirrored s) : Mirrored (clearPage page s) := by
  obtain ⟨hlights, hzones, hheater, hpump⟩ := h
  obtain ⟨hb, hl, hz, hw⟩ := clearPage_loads page s
  unfold Mirrored
  rw [hb, hl, hz, hw]
  exact ⟨hlights, hzones, hheater, hpump⟩

theorem LoadEvent.mirrored {e : Effect} {s t : State} (h : LoadEvent e s t) (hs : Mirrored s) : Mirrored t := by
  obtain ⟨m, ⟨b, rfl, hb, _⟩, hsteps⟩ := h.rebased_steps
  exact hsteps.mirrored (mirrored_setBudget hs hb)

/-- A chain of acts keeps what the controllers hold of their loads (R54). -/
theorem Acts.mirrored {L : List Effect} {s t : State} (h : Acts L s t) (hs : Mirrored s) : Mirrored t := by
  induction h with
  | refl => exact hs
  | event _ _ k ih => exact k.mirrored ih
  | send k p _ _ ih => exact (loadSteps_sendTelegram k p _).mirrored ih
  | raise _ _ ih => exact (loadSteps_raiseEvent _ _).mirrored ih
  | write _ _ k ih => exact k.mirrored ih
  | clear page _ _ ih => exact mirrored_clearPage page ih

/-! ## The lights, but for what their loads decide -/

/-- The light controller's own fields stand as they were (R54: the others follow the loads). -/
def LightsKept (s t : State) : Prop :=
  (∀ n : Fin 8, channelCore t.light.channels[n] = channelCore s.light.channels[n])
  ∧ t.light.ownStepOut = s.light.ownStepOut ∧ t.light.peerStepOut = s.light.peerStepOut
  ∧ t.light.forcedOff = s.light.forcedOff ∧ t.light.fadeTimer = s.light.fadeTimer ∧ t.light.pwm = s.light.pwm

theorem lightsKept_of_light {s t : State} (h : t.light = s.light) : LightsKept s t := by
  unfold LightsKept
  rw [h]
  exact ⟨fun _ => rfl, rfl, rfl, rfl, rfl, rfl⟩

theorem LightsKept.trans {s t u : State} (h : LightsKept s t) (k : LightsKept t u) : LightsKept s u := by
  obtain ⟨h1, h2, h3, h4, h5, h6⟩ := h
  obtain ⟨k1, k2, k3, k4, k5, k6⟩ := k
  exact ⟨fun n => (k1 n).trans (h1 n), k2.trans h2, k3.trans h3, k4.trans h4, k5.trans h5, k6.trans h6⟩

theorem LoadEvent.lightsKept {e : Effect} {s t : State} (h : LoadEvent e s t) : LightsKept s t := by
  obtain ⟨m, ⟨b, rfl, _⟩, hsteps⟩ := h.rebased_steps
  exact ⟨hsteps.frame.channels, hsteps.frame.lights⟩

/-- An effect that writes the light controller. -/
def writesLight : Effect → Bool
  | .writes b => b == .light
  | _ => false

theorem Acts.lightsKept {L : List Effect} {s t : State} (h : Acts L s t) (hL : ∀ e ∈ L, writesLight e = false) :
    LightsKept s t := by
  induction h with
  | refl => exact lightsKept_of_light rfl
  | event _ _ k ih => exact ih.trans k.lightsKept
  | send k p _ _ ih => exact ih.trans (lightsKept_of_light (sendTelegram_light k p _))
  | raise _ _ ih =>
    have hframe := (loadSteps_raiseEvent ‹Event› ‹State›).frame
    exact ih.trans ⟨hframe.channels, hframe.lights⟩
  | write he _ k ih =>
    refine ih.trans (lightsKept_of_light (k.frame .light fun hmem => ?_))
    exact absurd (hL _ (he _ hmem)) nofun
  | clear page _ _ ih => exact ih.trans (lightsKept_of_light (clearPage_loads page _).2.1)

/-! ## The lamps (R145) -/

/-- The on condition of a channel stands at its truth table's value, and its load is OFF exactly without it. -/
def LampOk (s : State) (n : Fin 8) : Prop :=
  s.light.channels[n].on = onCondition s.params.channels[n] s.light s.light.channels[n]
  ∧ (s.budget.loads[lightLoad n].state = .off ↔ s.light.channels[n].on = false)

/-- The lights of a running part: every hosted channel's lamp is as R145 has it, and no other channel has a load on. -/
def LampsSound (s : State) : Prop :=
  (∀ n : Fin 8, s.params.channels[n].hosted = true → LampOk s n)
  ∧ ∀ n : Fin 8, s.params.channels[n].hosted = false → s.budget.loads[lightLoad n].state = .off

theorem lampOk_congr {s t : State} {n : Fin 8} (h : LampOk s n) (hp : t.params = s.params) (hl : LightsKept s t)
    (hoff : t.budget.loads[lightLoad n].state = .off ↔ s.budget.loads[lightLoad n].state = .off) : LampOk t n := by
  obtain ⟨hcore, hown, hpeer, hforced, _⟩ := hl
  have hn := hcore n
  simp only [channelCore, Prod.mk.injEq] at hn
  obtain ⟨_, hlatch, hscene, hon, _⟩ := hn
  obtain ⟨hcond, hload⟩ := h
  refine ⟨?_, by rw [hoff, hon]; exact hload⟩
  rw [hon, hcond, hp]
  unfold onCondition stepOutC
  rw [hforced, hown, hpeer, hscene, hlatch]

theorem lampsSound_congr {s t : State} (h : LampsSound s) (hp : t.params = s.params) (hl : LightsKept s t)
    (hoff : ∀ n : Fin 8, t.budget.loads[lightLoad n].state = .off ↔ s.budget.loads[lightLoad n].state = .off) :
    LampsSound t := by
  obtain ⟨hhosted, hnone⟩ := h
  refine ⟨fun n hn => lampOk_congr (hhosted n (by rw [← hp]; exact hn)) hp hl (hoff n), fun n hn => ?_⟩
  exact (hoff n).mpr (hnone n (by rw [← hp]; exact hn))

/-- An effect that writes the light controller or the start-up block, or asks for a light. -/
def touchesLights : Effect → Bool
  | .writes b => b == .light || b == .boot
  | .asks i => isLight i
  | _ => false

theorem writesLight_of_touchesLights {e : Effect} (h : touchesLights e = false) : writesLight e = false := by
  cases e with
  | writes b => exact (Bool.or_eq_false_iff.mp h).1
  | _ => rfl

theorem isLight_lightLoad (n : Fin 8) : isLight (lightLoad n) = true := decide_eq_true n.isLt

/-- A chain of acts of other blocks keeps the lamps. -/
theorem Acts.lampsSound {L : List Effect} {s t : State} (h : Acts L s t) (hL : ∀ e ∈ L, touchesLights e = false)
    (hs : LampsSound s) : LampsSound t := by
  refine lampsSound_congr hs h.params (h.lightsKept fun e he => writesLight_of_touchesLights (hL e he)) fun n => ?_
  refine (h.loadKept fun hmem => ?_).off_iff
  exact absurd ((isLight_lightLoad n).symm.trans (hL _ hmem)) nofun

/-! ## Evaluations -/

theorem lightLoad_injective {n m : Fin 8} (h : lightLoad n = lightLoad m) : n = m :=
  Fin.ext (by simpa [lightLoad] using h)

theorem evalChannel_of_notHosted {s : State} {n : Fin 8} (h : s.params.channels[n].hosted = false) :
    evalChannel s n = s := if_pos (by rw [h]; rfl)

theorem acts_evalChannel_asks (s : State) (n : Fin 8) :
    Acts [.writes .light, .asks (lightLoad n)] s (evalChannel s n) := by
  cases h : s.params.channels[n].hosted with
  | false => rw [evalChannel_of_notHosted h]; exact .refl
  | true =>
    have hput : Acts [.writes .light, .asks (lightLoad n)] s (putChannel n (channelEvaluated s n) s) :=
      (written_putChannel n _ s).acts.mono (by simp)
    have hask : .asks (lightLoad n) ∈ [.writes .light, Effect.asks (lightLoad n)] := by simp
    rw [evalChannel_eq h]
    split
    · exact .event hask hput (.ask _ _ (by simp only [lightLoad]; omega))
    · split
      · exact .event hask hput (.release _ _)
      · exact hput

/-- An evaluation leaves the fields of the light controller, the on condition of its channel apart. -/
theorem evalChannel_light {s : State} (n : Fin 8) :
    (∀ m : Fin 8, m ≠ n → channelCore (evalChannel s n).light.channels[m] = channelCore s.light.channels[m])
    ∧ (evalChannel s n).light.ownStepOut = s.light.ownStepOut
    ∧ (evalChannel s n).light.peerStepOut = s.light.peerStepOut
    ∧ (evalChannel s n).light.forcedOff = s.light.forcedOff
    ∧ (s.params.channels[n].hosted = true →
      channelCore (evalChannel s n).light.channels[n] = channelCore (channelEvaluated s n)) := by
  cases h : s.params.channels[n].hosted with
  | false =>
    rw [evalChannel_of_notHosted h]
    exact ⟨fun _ _ => rfl, rfl, rfl, rfl, nofun⟩
  | true =>
    have hframe := (loadSteps_evalChannel h).frame
    obtain ⟨hown, hpeer, hforced, _⟩ := hframe.lights
    refine ⟨fun m hm => ?_, hown, hpeer, hforced, fun _ => ?_⟩
    · exact (hframe.channels m).trans (congrArg channelCore ((putChannel_channel n m _ s).trans (if_neg hm.symm)))
    · exact (hframe.channels n).trans (congrArg channelCore (putChannel_channel_self n _ s))

theorem lampOk_evalChannel_self {s : State} {n : Fin 8} (hm : Mirrored s) (h : s.params.channels[n].hosted = true) :
    LampOk (evalChannel s n) n := by
  obtain ⟨_, hown, hpeer, hforced, hself⟩ := evalChannel_light (s := s) n
  have hn := hself h
  simp only [channelCore, Prod.mk.injEq] at hn
  obtain ⟨_, hlatch, hscene, hon, _⟩ := hn
  refine ⟨?_, ?_⟩
  · rw [hon, (acts_evalChannel_asks s n).params]
    unfold onCondition stepOutC
    rw [hforced, hown, hpeer, hscene, hlatch]
    rfl
  · rw [evalChannel_off_iff h (hm.1 n), hon]

theorem lampOk_evalChannel_ne {s : State} {n m : Fin 8} (h : LampOk s m) (hm : m ≠ n) : LampOk (evalChannel s n) m := by
  obtain ⟨hothers, hown, hpeer, hforced, _⟩ := evalChannel_light (s := s) n
  have hc := hothers m hm
  simp only [channelCore, Prod.mk.injEq] at hc
  obtain ⟨_, hlatch, hscene, hon, _⟩ := hc
  have hacts := acts_evalChannel_asks s n
  have hload : LoadKept (lightLoad m) s (evalChannel s n) := hacts.loadKept (by
    simp only [List.mem_cons, reduceCtorEq, Effect.asks.injEq, List.not_mem_nil, or_false, false_or]
    exact fun h' => hm (lightLoad_injective h'))
  obtain ⟨hcond, hoff⟩ := h
  refine ⟨?_, by rw [hload.off_iff, hon]; exact hoff⟩
  rw [hon, hcond, hacts.params]
  unfold onCondition stepOutC
  rw [hforced, hown, hpeer, hscene, hlatch]

/-- After an evaluation of channels each hosted one of them, and each whose lamp stood well before, has its lamp as
R145 has it. -/
theorem lampOk_foldl_evalChannel {l : List (Fin 8)} {s : State} (hm : Mirrored s) {n : Fin 8}
    (hn : s.params.channels[n].hosted = true) (h : n ∈ l ∨ LampOk s n) : LampOk (l.foldl evalChannel s) n := by
  induction l generalizing s with
  | nil => exact h.resolve_left nofun
  | cons m l ih =>
    have hacts := acts_evalChannel_asks s m
    refine ih (hacts.mirrored hm) (by rw [hacts.params]; exact hn) ?_
    by_cases hnm : n = m
    · subst hnm
      exact .inr (lampOk_evalChannel_self hm hn)
    · rcases h with h | h
      · exact .inl ((List.mem_cons.mp h).resolve_left hnm)
      · exact .inr (lampOk_evalChannel_ne h hnm)

theorem off_foldl_evalChannel {l : List (Fin 8)} {s : State} {n : Fin 8} (hn : s.params.channels[n].hosted = false)
    (h : s.budget.loads[lightLoad n].state = .off) : (l.foldl evalChannel s).budget.loads[lightLoad n].state = .off := by
  induction l generalizing s with
  | nil => exact h
  | cons m l ih =>
    have hacts := acts_evalChannel_asks s m
    refine ih (by rw [hacts.params]; exact hn) ?_
    by_cases hnm : n = m
    · subst hnm
      rw [evalChannel_of_notHosted hn]
      exact h
    · have hkept : LoadKept (lightLoad n) s (evalChannel s m) := hacts.loadKept (by
        simp only [List.mem_cons, reduceCtorEq, Effect.asks.injEq, List.not_mem_nil, or_false, false_or]
        exact fun h' => hnm (lightLoad_injective h'))
      exact hkept.off_iff.mpr h

/-- Beyond the lights' own fields nothing but their loads is needed to evaluate them all. -/
theorem lampsSound_evalChannels {s : State} (hm : Mirrored s)
    (hnone : ∀ n : Fin 8, s.params.channels[n].hosted = false → s.budget.loads[lightLoad n].state = .off) :
    LampsSound (evalChannels s) := by
  have hparams : (evalChannels s).params = s.params := (acts_evalChannels s).params
  refine ⟨fun n hn => ?_, fun n hn => ?_⟩
  · exact lampOk_foldl_evalChannel hm (by rw [← hparams]; exact hn) (.inl (List.mem_finRange n))
  · rw [hparams] at hn
    unfold evalChannels
    generalize List.finRange 8 = l
    exact off_foldl_evalChannel hn (hnone n hn)

/-! ## The light controller's own events -/

/-- The lights of a running part with what it holds of their loads. -/
def Lamps (s : State) : Prop := Mirrored s ∧ LampsSound s

theorem Acts.lamps {L : List Effect} {s t : State} (h : Acts L s t) (hL : ∀ e ∈ L, touchesLights e = false)
    (hs : Lamps s) : Lamps t := ⟨h.mirrored hs.1, h.lampsSound hL hs.2⟩

/-- Writes of the light controller followed by an evaluation of every channel. -/
theorem lamps_evalChannels {L : List Effect} {s t : State} (h : Lamps s) (hw : Acts L s t)
    (hL : ∀ n : Fin 8, .asks (lightLoad n) ∉ L := by simp) : Lamps (evalChannels t) := by
  obtain ⟨hm, _, hnone⟩ := h
  have hmt := hw.mirrored hm
  refine ⟨(acts_evalChannels t).mirrored hmt, lampsSound_evalChannels hmt fun n hn => ?_⟩
  rw [hw.params] at hn
  exact (hw.loadKept (hL n)).off_iff.mpr (hnone n hn)

theorem lamps_handOwnStepOut {s : State} (h : Lamps s) (out : Bool) : Lamps (handOwnStepOut out s) :=
  lamps_evalChannels h (written_setOwnStepOut s out).acts

theorem lamps_handPeerStepOut {s : State} (h : Lamps s) (out : Bool) : Lamps (handPeerStepOut out s) :=
  lamps_evalChannels h (written_setPeerStepOut s out).acts

/-- A channel written and evaluated, the others left. -/
theorem lamps_evalChannel_putChannel {s : State} (h : Lamps s) {n : Fin 8} {c : Channel}
    (hn : s.params.channels[n].hosted = true) (hc : c.load = s.light.channels[n].load)
    (hfits : ChannelFits s.params.channels[n] s.light.channels[n] → ChannelFits s.params.channels[n] c) :
    Lamps (evalChannel (putChannel n c s) n) := by
  obtain ⟨hm, hhosted, hnone⟩ := h
  have hput : Acts [.writes .light] s (putChannel n c s) := (written_putChannel n c s hc hfits).acts
  have hmp := hput.mirrored hm
  have hacts := acts_evalChannel_asks (putChannel n c s) n
  have hparams : (evalChannel (putChannel n c s) n).params = s.params := hacts.params.trans hput.params
  refine ⟨hacts.mirrored hmp, fun m hmh => ?_, fun m hmh => ?_⟩
  · rw [hparams] at hmh
    by_cases hmn : m = n
    · subst hmn
      exact lampOk_evalChannel_self hmp hn
    · refine lampOk_evalChannel_ne ?_ hmn
      have hlamp := hhosted m hmh
      unfold LampOk at hlamp ⊢
      rw [putChannel_channel, if_neg (Ne.symm hmn)]
      exact hlamp
  · rw [hparams] at hmh
    have hmn : m ≠ n := by
      rintro rfl
      exact absurd (hn.symm.trans hmh) nofun
    have hkept : LoadKept (lightLoad m) (putChannel n c s) (evalChannel (putChannel n c s) n) := hacts.loadKept (by
      simp only [List.mem_cons, reduceCtorEq, Effect.asks.injEq, List.not_mem_nil, or_false, false_or]
      exact fun h' => hmn (lightLoad_injective h'))
    exact hkept.off_iff.mpr (hnone m hmh)

theorem lamps_switchEdgeAt {s : State} (h : Lamps s) (n : Fin 8) (rising : Bool) : Lamps (switchEdgeAt n rising s) := by
  unfold switchEdgeAt
  simp only
  split
  · next hc =>
    simp only [Bool.and_eq_true] at hc
    exact lamps_evalChannel_putChannel h hc.1.1 rfl id
  · exact h

theorem lamps_recallScene {s : State} (h : Lamps s) (number : Byte) : Lamps (recallScene number s) := by
  unfold recallScene
  split
  · split
    · exact h
    · exact lamps_evalChannels h (.foldl _ (acts_recallOne _) _ s)
  · exact h

theorem lamps_decideLightSet {s : State} (h : Lamps s) (channel code level : Byte) :
    Lamps (decideLightSet channel code level s).1 := by
  unfold decideLightSet
  split
  · split
    · exact h
    · simp only
      split
      · exact h
      · next hn =>
        split
        · exact h
        · exact lamps_evalChannel_putChannel h (by simpa using hn) rfl
            fun ⟨_, hduty, hceiling⟩ => channelFits_retarget hduty hceiling
  · exact h

/-- Writes of the light controller that leave the on conditions' inputs keep the lamps. -/
theorem lamps_of_lightsKept {s t : State} (h : Lamps s) (hw : Acts [.writes .light] s t)
    (hin : ∀ n : Fin 8, t.light.channels[n].on = s.light.channels[n].on
      ∧ t.light.channels[n].scene = s.light.channels[n].scene ∧ t.light.channels[n].latch = s.light.channels[n].latch)
    (hout : t.light.ownStepOut = s.light.ownStepOut ∧ t.light.peerStepOut = s.light.peerStepOut
      ∧ t.light.forcedOff = s.light.forcedOff) : Lamps t := by
  obtain ⟨hm, hhosted, hnone⟩ := h
  obtain ⟨hown, hpeer, hforced⟩ := hout
  have hoff (n : Fin 8) := (hw.loadKept (i := lightLoad n) (by simp)).off_iff
  refine ⟨hw.mirrored hm, fun n hn => ?_, fun n hn => (hoff n).mpr (hnone n (by rw [← hw.params]; exact hn))⟩
  obtain ⟨hon, hscene, hlatch⟩ := hin n
  obtain ⟨hcond, hload⟩ := hhosted n (by rw [← hw.params]; exact hn)
  refine ⟨?_, by rw [hoff, hon]; exact hload⟩
  rw [hon, hcond, hw.params]
  unfold onCondition stepOutC
  rw [hforced, hown, hpeer, hscene, hlatch]

/-- What an evaluation of the on condition reads of the light controller. -/
def lampInputs (l : LightCtl) : (Fin 8 → Bool × Bool × Bool) × Bool × Bool × Bool :=
  (fun n => (l.channels[n].on, l.channels[n].scene, l.channels[n].latch), l.ownStepOut, l.peerStepOut, l.forcedOff)

theorem lampInputs_putChannel {n : Fin 8} {c : Channel} {s : State} (hon : c.on = s.light.channels[n].on)
    (hscene : c.scene = s.light.channels[n].scene) (hlatch : c.latch = s.light.channels[n].latch) :
    lampInputs (putChannel n c s).light = lampInputs s.light := by
  unfold lampInputs
  refine Prod.ext (funext fun m => ?_) rfl
  simp only
  rw [putChannel_channel]
  split
  · next hnm => rw [hon, hscene, hlatch, hnm]
  · rfl

theorem lamps_of_lampInputs {s t : State} (h : Lamps s) (hw : Acts [.writes .light] s t)
    (hin : lampInputs t.light = lampInputs s.light) : Lamps t := by
  simp only [lampInputs, Prod.mk.injEq] at hin
  obtain ⟨hchannels, hown, hpeer, hforced⟩ := hin
  refine lamps_of_lightsKept h hw (fun n => ?_) ⟨hown, hpeer, hforced⟩
  have hn := congrFun hchannels n
  simp only [Prod.mk.injEq] at hn
  exact hn

theorem lampInputs_fadeOne (s : State) (n : Fin 8) : lampInputs (fadeOne s n).light = lampInputs s.light := by
  unfold fadeOne
  simp only
  split
  · refine lampInputs_putChannel ?_ ?_ ?_ <;> (unfold fadeChannel withLevel; simp only; split <;> rfl)
  · rfl

theorem lamps_fadeAll {s : State} (h : Lamps s) : Lamps (fadeAll s) :=
  lamps_of_lampInputs h (acts_fadeAll s)
    (foldl_keeps (fun s => lampInputs s.light) fadeOne lampInputs_fadeOne _ _)

theorem lamps_advancePwm {s : State} (h : Lamps s) : Lamps (advancePwm s) :=
  lamps_of_lampInputs h (acts_advancePwm s)
    (foldl_keeps (fun s => lampInputs s.light) driveChannel (fun _ _ => lampInputs_putChannel rfl rfl rfl) _ _)

theorem lamps_lightsEnterStorage {s : State} (h : Lamps s) : Lamps (lightsEnterStorage s) := by
  have hset : Acts [.writes .light] s (s.setLight { s.light with forcedOff := true }) :=
    (written_setLight s { s.light with forcedOff := true }).acts
  exact lamps_evalChannels h (hset.trans (.foldl _ acts_clearChannel _ _))

theorem lamps_lightsExitStorage {s : State} (h : Lamps s) : Lamps (lightsExitStorage s) :=
  lamps_evalChannels h (written_setLight s { s.light with forcedOff := false }).acts

end Sys2Proof.Machine

/-! The lights in step with storage mode and their loads, by every command. -/

namespace Sys2Proof.Machine

-- As in the tests, so that no command needs threads of its own.
set_option Elab.async false

/-! ## What a view change is made of -/

/-- A property that each part of a view change's handing on keeps. -/
structure ViewKept (P : State → Prop) : Prop where
  peers : ∀ (s : State) (x : Peers), P s → P (s.setPeers x)
  lost : ∀ s : State, P s → P (raiseEvent .peerLost s)
  quantities : ∀ (s : State) (banks : List PeerBank) (supply : Nat) (known : Bool) (sums : PerClass Nat), P s →
    P (handQuantities banks supply known sums s)
  vehicle : ∀ (s : State) (v : VehicleState), P s → P (handVehicle v s)
  moving : ∀ (s : State) (moving : Bool), P s → P (handMoving moving s)
  step : ∀ (s : State) (out : Bool), P s → P (handPeerStepOut out s)
  grey : ∀ (s : State) (full : Bool), P s → P (handGreyFull full s)

section
variable {P : State → Prop} (h : ViewKept P)
include h

theorem ViewKept.conditions {s : State} (hs : P s) : P (handConditions s) := by
  have hvehicle : P (handVehicleFact s) := by
    unfold handVehicleFact
    simp only
    split
    · exact hs
    · split
      · exact h.vehicle _ _ (h.peers _ _ hs)
      · exact h.moving _ _ (h.vehicle _ _ (h.peers _ _ hs))
  have hstep {t : State} (ht : P t) : P (handStepFact t) := by
    unfold handStepFact
    simp only
    split
    · exact ht
    · exact h.step _ _ (h.peers _ _ ht)
  have hgrey {t : State} (ht : P t) : P (handGreyFact t) := by
    unfold handGreyFact
    simp only
    split
    · exact ht
    · exact h.grey _ _ (h.peers _ _ ht)
  exact hgrey (hstep hvehicle)

theorem ViewKept.removePeer {s : State} (hs : P s) (e : PeerEntry) : P (removePeer e s) := by
  have hdrop : P (s.setPeers { s.peers with entries := dropPeer e.station s.peers.entries }) := h.peers _ _ hs
  unfold Machine.removePeer
  simp only
  refine h.conditions (h.quantities _ _ _ _ _ ?_)
  split
  · exact h.peers _ _ (h.lost _ hdrop)
  · exact hdrop

theorem ViewKept.expirePeer {s : State} (hs : P s) (n : Station) : P (expirePeer n s) := by
  unfold Machine.expirePeer
  split
  · exact hs
  · split
    · exact h.removePeer hs _
    · exact hs

theorem ViewKept.withPeer {s : State} (hs : P s) (n : Station) : P (withPeer n s) := by
  have hroom : P (makeRoom s) := by
    unfold makeRoom
    split
    · exact hs
    · split
      · exact h.removePeer hs _
      · exact hs
  unfold Machine.withPeer
  split
  · exact hs
  · simp only
    split
    · exact h.peers _ _ hroom
    · exact hroom

theorem ViewKept.peerArrival {s : State} (hs : P s) (n : Station) (k : Option Kind) (payload : List Byte) :
    P (peerArrival n k payload s) := by
  unfold Machine.peerArrival
  simp only
  split
  · exact h.withPeer hs n
  · unfold handAfterArrival
    split
    · refine h.conditions ?_
      split
      · exact h.quantities _ _ _ _ _ (h.peers _ _ (h.withPeer hs n))
      · exact h.peers _ _ (h.withPeer hs n)
    · exact h.peers _ _ (h.withPeer hs n)

end

/-! ## The lights with the storage flag -/

/-- The lights of a running part are in step with their loads and with storage mode (R145, R156, R190). -/
def LampsIn (s : State) : Prop := Lamps s ∧ s.light.forcedOff = s.boot.storage

theorem Acts.lampsIn {L : List Effect} {s t : State} (h : Acts L s t) (hL : ∀ e ∈ L, touchesLights e = false)
    (hs : LampsIn s) : LampsIn t := by
  obtain ⟨hlamps, hflag⟩ := hs
  have hboot : t.boot = s.boot := h.blockSame (b := .boot) fun e he hmem => by
    have hclean := hL e he
    cases e with
    | writes b =>
      obtain rfl := List.mem_singleton.mp hmem
      cases hclean
    | _ => exact absurd hmem (by simp only [Effect.touched]; decide)
  have hforced := (h.lightsKept fun e he => writesLight_of_touchesLights (hL e he)).2.2.2.1
  exact ⟨h.lamps hL hlamps, by rw [hforced, hboot, hflag]⟩

theorem evalChannel_forcedOff (s : State) (n : Fin 8) : (evalChannel s n).light.forcedOff = s.light.forcedOff :=
  let ⟨_, _, _, hforced, _⟩ := evalChannel_light n; hforced

theorem evalChannels_forcedOff (s : State) : (evalChannels s).light.forcedOff = s.light.forcedOff := by
  unfold evalChannels
  generalize List.finRange 8 = l
  exact foldl_keeps (fun s => s.light.forcedOff) evalChannel evalChannel_forcedOff l s

/-- A write of the light controller and its evaluation that leave the flags keep the lights in step. -/
theorem lampsIn_of_lamps {L : List Effect} {s t : State} (h : LampsIn s) (ht : Lamps t) (hacts : Acts L s t)
    (hforced : t.light.forcedOff = s.light.forcedOff)
    (hL : ∀ e ∈ L, Block.boot ∉ e.touched := by decide) : LampsIn t := by
  have hboot : t.boot = s.boot := hacts.blockSame hL
  exact ⟨ht, by rw [hforced, hboot]; exact h.2⟩

theorem lampsIn_handOwnStepOut {s : State} (h : LampsIn s) (out : Bool) : LampsIn (handOwnStepOut out s) :=
  lampsIn_of_lamps h (lamps_handOwnStepOut h.1 out) (acts_handOwnStepOut out s) (by
    unfold handOwnStepOut
    rw [evalChannels_forcedOff]
    rfl)

theorem lampsIn_handPeerStepOut {s : State} (h : LampsIn s) (out : Bool) : LampsIn (handPeerStepOut out s) :=
  lampsIn_of_lamps h (lamps_handPeerStepOut h.1 out) (acts_handPeerStepOut out s) (by
    unfold handPeerStepOut
    rw [evalChannels_forcedOff]
    rfl)

theorem lampsIn_switchEdgeAt {s : State} (h : LampsIn s) (n : Fin 8) (rising : Bool) :
    LampsIn (switchEdgeAt n rising s) := by
  refine lampsIn_of_lamps h (lamps_switchEdgeAt h.1 n rising) (acts_switchEdgeAt n rising s) ?_
  unfold switchEdgeAt
  simp only
  split
  · exact evalChannel_forcedOff _ n
  · rfl

theorem recallOne_forcedOff (sc : SceneParams) (s : State) (n : Fin 8) :
    (recallOne sc s n).light.forcedOff = s.light.forcedOff := by
  unfold recallOne
  simp only
  split <;> rfl

theorem lampsIn_recallScene {s : State} (h : LampsIn s) (number : Byte) : LampsIn (recallScene number s) := by
  refine lampsIn_of_lamps h (lamps_recallScene h.1 number) (acts_recallScene number s) ?_
  unfold recallScene
  split
  · split
    · rfl
    · rw [evalChannels_forcedOff]
      generalize List.finRange 8 = l
      exact foldl_keeps (fun s => s.light.forcedOff) _ (recallOne_forcedOff _) l s
  · rfl

theorem fadeOne_forcedOff (s : State) (n : Fin 8) : (fadeOne s n).light.forcedOff = s.light.forcedOff := by
  unfold fadeOne
  simp only
  split <;> rfl

theorem lampsIn_fadeAll {s : State} (h : LampsIn s) : LampsIn (fadeAll s) := by
  refine lampsIn_of_lamps h (lamps_fadeAll h.1) (acts_fadeAll s) ?_
  unfold fadeAll
  generalize List.finRange 8 = l
  exact foldl_keeps (fun s => s.light.forcedOff) fadeOne fadeOne_forcedOff l _

theorem lampsIn_advancePwm {s : State} (h : LampsIn s) : LampsIn (advancePwm s) := by
  refine lampsIn_of_lamps h (lamps_advancePwm h.1) (acts_advancePwm s) ?_
  unfold advancePwm
  generalize List.finRange 8 = l
  exact foldl_keeps (fun s => s.light.forcedOff) driveChannel (fun _ _ => rfl) l _

theorem lampsIn_decideLightSet {s : State} (h : LampsIn s) (channel code level : Byte) :
    LampsIn (decideLightSet channel code level s).1 := by
  refine lampsIn_of_lamps h (lamps_decideLightSet h.1 channel code level) (acts_decideLightSet channel code level s) ?_
  unfold decideLightSet
  split
  · split
    · rfl
    · simp only
      split
      · rfl
      · split
        · rfl
        · exact evalChannel_forcedOff _ _
  · rfl

/-- Before the lights take a change of storage mode nothing that the other controllers do moves them. -/
theorem lamps_withStorage {s t : State} (h : LampsIn s) {value : Bool} {L : List Effect}
    (hacts : Acts L (s.setBoot { s.boot with storage := value }) t) (hL : ∀ e ∈ L, touchesLights e = false) :
    Lamps t := hacts.lamps hL h.1

theorem boot_of_acts {L : List Effect} {s t : State} (h : Acts L s t) (hL : .writes .boot ∉ L) : t.boot = s.boot := by
  refine h.blockSame (b := .boot) fun e he hmem => ?_
  cases e with
  | writes b =>
    obtain rfl := List.mem_singleton.mp hmem
    exact hL he
  | _ => exact absurd hmem (by simp only [Effect.touched]; decide)

theorem clearChannel_forcedOff (s : State) (n : Fin 8) : (clearChannel s n).light.forcedOff = s.light.forcedOff := by
  unfold clearChannel
  split <;> rfl

theorem lightsEnterStorage_forcedOff (s : State) : (lightsEnterStorage s).light.forcedOff = true := by
  unfold lightsEnterStorage
  rw [evalChannels_forcedOff]
  generalize List.finRange 8 = l
  exact foldl_keeps (fun s => s.light.forcedOff) clearChannel clearChannel_forcedOff l _

theorem lightsExitStorage_forcedOff (s : State) : (lightsExitStorage s).light.forcedOff = false := by
  unfold lightsExitStorage
  rw [evalChannels_forcedOff]
  rfl

/-- What the zones, the pump and the motion controller do before the lights take the entry into storage mode. -/
theorem acts_beforeLightsEnter (s : State) : Acts (.asks 13 :: zoneEffects ++ stowEffects) s
    (motionEntersStorage (evalPump (zonesEnterStorage s))) :=
  ((acts_zonesEnterStorage s).append (acts_evalPump _) : Acts (.asks 13 :: zoneEffects ++ stowEffects) _ _).append
    (acts_motionEntersStorage _)

theorem acts_beforeLightsExit (s : State) : Acts (.asks 13 :: zoneEffects ++ stowEffects) s
    (motionExitsStorage (evalPump (zonesExitStorage s))) :=
  ((acts_zonesExitStorage s).append (acts_evalPump _) : Acts (.asks 13 :: zoneEffects ++ stowEffects) _ _).append
    (acts_motionExitsStorage _)

theorem lampsIn_enterStorage {s : State} (h : LampsIn s) : LampsIn (enterStorage s) := by
  have hacts := acts_beforeLightsEnter (s.setBoot { s.boot with storage := true })
  unfold enterStorage
  generalize motionEntersStorage (evalPump (zonesEnterStorage (s.setBoot { s.boot with storage := true }))) = u at hacts
  have hboot := (boot_of_acts (acts_lightsEnterStorage u) (by decide)).trans (boot_of_acts hacts (by decide))
  refine ⟨lamps_lightsEnterStorage (lamps_withStorage h hacts (by decide)), ?_⟩
  rw [lightsEnterStorage_forcedOff, hboot]
  rfl

theorem lampsIn_exitStorage {s : State} (h : LampsIn s) : LampsIn (exitStorage s) := by
  have hacts := acts_beforeLightsExit (s.setBoot { s.boot with storage := false })
  unfold exitStorage
  generalize motionExitsStorage (evalPump (zonesExitStorage (s.setBoot { s.boot with storage := false }))) = u at hacts
  have hboot := (boot_of_acts (acts_lightsExitStorage u) (by decide)).trans (boot_of_acts hacts (by decide))
  refine ⟨lamps_lightsExitStorage (lamps_withStorage h hacts (by decide)), ?_⟩
  rw [lightsExitStorage_forcedOff, hboot]
  rfl

theorem lampsIn_decideStorageSet {s : State} (h : LampsIn s) (value : Byte) : LampsIn (decideStorageSet value s).1 := by
  unfold decideStorageSet
  split
  · exact h
  · simp only
    split
    · exact h
    · split
      · exact lampsIn_enterStorage h
      · exact lampsIn_exitStorage h

theorem viewKept_lampsIn : ViewKept LampsIn where
  peers s x := ((written_setPeers s x).acts).lampsIn (by decide)
  lost s := (acts_raiseEvent .peerLost s).lampsIn (by decide)
  quantities s banks supply known sums :=
    (LoadEvent.acts (.quantities banks supply known sums s)).lampsIn (by decide)
  vehicle s v := (acts_handVehicle v s).lampsIn (by decide)
  moving s moving := (acts_handMoving moving s).lampsIn (by decide)
  step _ out hs := lampsIn_handPeerStepOut hs out
  grey s full := (acts_handGreyFull full s).lampsIn (by decide)

/-- Every operation of a running part keeps the lights in step. -/
theorem Did.lampsIn {L : List Effect} {s u : State} (h : Did s L u) (hs : LampsIn s) : LampsIn u := by
  cases h with
  | decided hd =>
    cases hd with
    | zoneSet => exact (acts_decideZoneSet _ _ _ s).lampsIn (by decide) hs
    | lightSet => exact lampsIn_decideLightSet hs _ _ _
    | move => exact (acts_decideMove _ _ s).lampsIn (by decide) hs
    | halt => exact (acts_decideHalt _ s).lampsIn (by decide) hs
    | holdSet => exact (acts_decideHoldSet _ _ s).lampsIn (by decide) hs
    | faultClear => exact (acts_decideFaultClear _ s).lampsIn (by decide) hs
    | pumpSet => exact (acts_decidePumpSet _ s).lampsIn (by decide) hs
    | valveClose => exact (acts_decideValveClose s).lampsIn (by decide) hs
    | eventsClear => exact (acts_decideEventsClear _ s).lampsIn (by decide) hs
    | storageSet => exact lampsIn_decideStorageSet hs _
    | diagQuery => exact (acts_decideDiagQuery _ s).lampsIn (by decide) hs
  | entersRun =>
    have hboot : LampsIn (s.setBoot { s.boot with stage := .run }) := hs
    unfold enterRun
    simp only
    split
    · exact (LoadEvent.acts (.gate _)).lampsIn (by decide) hboot
    · exact hboot
  | expires n => exact viewKept_lampsIn.expirePeer hs n
  | hears n k payload => exact viewKept_lampsIn.peerArrival hs n k payload
  | switches n rising => exact lampsIn_switchEdgeAt hs n rising
  | recalls number => exact lampsIn_recallScene hs number
  | fades => exact lampsIn_fadeAll hs
  | advances => exact lampsIn_advancePwm hs
  | samples p i v hp => exact (acts_sampleBank p i v s).lampsIn (by decide) hs
  | derates p r hp => exact (acts_evalDerate p r s).lampsIn (by decide) hs
  | formsBattery p hp => exact (acts_bankFormBattery p s).lampsIn (by decide) hs
  | goesStale n => exact (acts_goStale n s).lampsIn (by decide) hs
  | dwellExpires => exact (LoadEvent.acts (.dwell s)).lampsIn (by decide) hs
  | holdExpires i hi => exact (LoadEvent.acts (.hold i s hi)).lampsIn (by decide) hs
  | queuesClaim => exact (LoadEvent.acts (.claim s)).lampsIn (by decide) hs
  | evaluatesZones r => exact (acts_evalZones r s).lampsIn (by decide) hs
  | stepsWindow => exact (acts_stepWindow s).lampsIn (by decide) hs
  | readsTanks a b c d => exact (acts_tankPeriodOf a b c d s).lampsIn (by decide) hs
  | pressure closing => exact (acts_pressureEdge closing s).lampsIn (by decide) hs
  | runsDry => exact (acts_pumpRunsDry s).lampsIn (by decide) hs
  | opensValve => exact (acts_openValve s).lampsIn (by decide) hs
  | queuesTanks => exact (acts_queueTanks s).lampsIn (by decide) hs
  | arrives a e => exact (acts_arrivalAt a e s).lampsIn (by decide) hs
  | departs a e => exact (acts_departureAt a e s).lampsIn (by decide) hs
  | edges a => exact (acts_hallEdgeAt a s).lampsIn (by decide) hs
  | fails a f => exact (acts_enterFault a f s).lampsIn (by decide) hs
  | crosses a current => exact (acts_currentCrossing a current s).lampsIn (by decide) hs
  | overcurrent a => exact (acts_overcurrentAt a s).lampsIn (by decide) hs
  | endsPause a => exact (acts_endPause a s).lampsIn (by decide) hs
  | windEdge => exact (acts_windEdge s).lampsIn (by decide) hs
  | windSilent => exact (acts_putWind _ s).lampsIn (by decide) hs
  | stows override => exact (acts_takeStow override s).lampsIn (by decide) hs
  | queuesMotion => exact (acts_queueMotion s).lampsIn (by decide) hs

theorem lampsIn_publish {s : State} (before : State) (hs : LampsIn s) : LampsIn (publish before s) := by
  have hstep : LampsIn (stepOutAfter before s) := by
    unfold stepOutAfter
    split
    · exact hs
    · exact lampsIn_handOwnStepOut hs _
  exact (acts_tanksAfter before _).lampsIn (by decide) ((acts_motionAfter before _).lampsIn (by decide) hstep)

end Sys2Proof.Machine

/-! The start stage by stage, and what the passing of time leaves: for the properties that every step keeps. -/

namespace Sys2Proof.Machine

-- As in the tests, so that no command needs threads of its own.
set_option Elab.async false

/-! ## The start, stage by stage (R189) -/

/-- The state after the bank monitor has started. -/
def bankStarted (record : List Byte) (passed : Bool) (inputs : StartInputs) (s : State) : State :=
  startBank inputs (queueClaim (startProfile record passed s))

/-- The state after the zones have started. -/
def zonesStarted (record : List Byte) (passed : Bool) (inputs : StartInputs) (s : State) : State :=
  evalZones inputs.zoneTemps (bankStarted record passed inputs s)

/-- The state after the water controller has started. -/
def waterStarted (record : List Byte) (passed : Bool) (inputs : StartInputs) (s : State) : State :=
  startWater inputs (zonesStarted record passed inputs s)

/-- The state after the motion controller has started. -/
def motionStarted (record : List Byte) (passed : Bool) (inputs : StartInputs) (s : State) : State :=
  startMotion inputs (waterStarted record passed inputs s)

theorem startBlocks_eq (record : List Byte) (passed : Bool) (inputs : StartInputs) (s : State) :
    startBlocks record passed inputs s = handOwnStepOut (ownStepOut (motionStarted record passed inputs s))
      (motionStarted record passed inputs s) := rfl

/-- The acts of the start up to the bank monitor's. -/
def bankStartEffects : List Effect := [.raises .configFallback, .claims, .sends] ++ sampleEffects

theorem acts_bankStarted (record : List Byte) (passed : Bool) (inputs : StartInputs) (s : State) :
    Acts bankStartEffects (settledState record passed s) (bankStarted record passed inputs s) := by
  have hprofile : Acts [.raises .configFallback] (settledState record passed s) (startProfile record passed s) := by
    rw [startProfile_eq]
    split
    · exact .refl
    · exact acts_raiseEvent _ _
  exact (hprofile.append (LoadEvent.acts (.claim _)) : Acts bankStartEffects _ _).append (acts_startBank inputs _)

/-- The acts of the zones' first evaluation. -/
def zoneStartEffects : List Effect := zoneEffects ++ [.raises .zoneSensorFault, .sends, .writes .freeCount]

theorem acts_zonesStarted (record : List Byte) (passed : Bool) (inputs : StartInputs) (s : State) :
    Acts (bankStartEffects ++ zoneStartEffects) (settledState record passed s) (zonesStarted record passed inputs s) :=
  (acts_bankStarted record passed inputs s).append (acts_evalZones inputs.zoneTemps _)

theorem acts_waterStarted (record : List Byte) (passed : Bool) (inputs : StartInputs) (s : State) :
    Acts (bankStartEffects ++ zoneStartEffects ++ tankEffects) (settledState record passed s)
      (waterStarted record passed inputs s) :=
  (acts_zonesStarted record passed inputs s).append (acts_startWater inputs _)

/-- The acts of the start before the lights take the own step-out. -/
def motionStartEffects : List Effect :=
  bankStartEffects ++ zoneStartEffects ++ tankEffects ++ (.raises .actuatorFault :: motionTelegramEffects)

theorem acts_motionStarted (record : List Byte) (passed : Bool) (inputs : StartInputs) (s : State) :
    Acts motionStartEffects (settledState record passed s) (motionStarted record passed inputs s) :=
  (acts_waterStarted record passed inputs s).append (acts_startMotion inputs _)

/-! ## The settled state -/

/-- The parameters of the profile (R188). -/
def profileParams (record : List Byte) (passed : Bool) : Params :=
  if passed then paramsOfRecord record else Params.fallback

theorem settledState_params (record : List Byte) (passed : Bool) (s : State) :
    (settledState record passed s).params = profileParams record passed := rfl

theorem settledState_budget (record : List Byte) (passed : Bool) (s : State) :
    (settledState record passed s).budget = startedBudget (profileParams record passed) := rfl

theorem settledState_off (record : List Byte) (passed : Bool) (s : State) (i : Fin 17) :
    (settledState record passed s).budget.loads[i].state = .off := by
  rw [settledState_budget, startedBudget_loads]
  rfl

theorem startedLights_channel (p : Params) (storage : Bool) (n : Fin 8) :
    (startedLights p storage).channels[n] = startedChannel p.channels[n] := by
  simp [startedLights]

theorem startedZones_zone_load (p : Params) (storage : Bool) (n : Fin 4) : (startedZones p storage).zones[n].load = .off := by
  have hget : (startedZones p storage).zones[n] = startedZone storage p.zones[n] := by simp [startedZones]
  rw [hget, startedZone]
  split
  · split <;> rfl
  · rfl

theorem mirrored_settledState (record : List Byte) (passed : Bool) (s : State) : Mirrored (settledState record passed s) := by
  have hoff := settledState_off record passed s
  refine ⟨fun n => ?_, fun n => ?_, (hoff 12).symm, (hoff 13).symm⟩
  · refine Eq.trans ?_ (hoff (lightLoad n)).symm
    exact congrArg Channel.load (startedLights_channel _ _ n)
  · exact (startedZones_zone_load _ _ n).trans (hoff (zoneLoad n)).symm

/-! ## Time -/

/-- The blocks that no cell of the line and no millisecond before the start moves. -/
structure BlocksSame (s t : State) : Prop where
  params : t.params = s.params
  bank : t.bank = s.bank
  peers : t.peers = s.peers
  budget : t.budget = s.budget
  zone : t.zone = s.zone
  water : t.water = s.water
  motion : t.motion = s.motion
  light : t.light = s.light
  event : t.event = s.event
  boot : t.boot.station = s.boot.station ∧ t.boot.phase = s.boot.phase ∧ t.boot.storage = s.boot.storage

/-- The blocks after a millisecond of a running part: only timers have moved. -/
structure BlocksTicked (s t : State) : Prop where
  params : t.params = s.params
  bank : t.bank = tickBank s.bank
  peers : t.peers = { s.peers with entries := s.peers.entries.map tickPeer }
  budget : t.budget = tickBudget s.boot.station s.budget
  zone : t.zone = tickZone s.zone
  water : t.water = tickWater s.water
  motion : t.motion = tickMotion s.motion
  light : t.light = tickLight s.light
  event : t.event = s.event
  boot : t.boot.station = s.boot.station ∧ t.boot.phase = s.boot.phase ∧ t.boot.storage = s.boot.storage

/-- A cell of the line leaves the blocks, and with a millisecond at most their timers move. -/
theorem tick_blocks (s : State) : BlocksSame s (tick s) ∨ s.running = true ∧ BlocksTicked s (tick s) := by
  have hcell : BlocksSame s (if s.running then s.setLine (tickLine s.line) else s) := by
    split <;> exact ⟨rfl, rfl, rfl, rfl, rfl, rfl, rfl, rfl, rfl, rfl, rfl, rfl⟩
  have hrun : (if s.running then s.setLine (tickLine s.line) else s).running = s.running := by split <;> rfl
  unfold tick
  simp only
  generalize (if s.running then s.setLine (tickLine s.line) else s) = u at hcell hrun
  obtain ⟨hparams, hbank, hpeers, hbudget, hzone, hwater, hmotion, hlight, hevent, hstation, hphase, hstorage⟩ := hcell
  split
  · cases hr : u.running with
    | true =>
      refine .inr ⟨hrun ▸ hr, ?_⟩
      rw [tickMs_of_running hr]
      exact ⟨hparams, by rw [hbank], by rw [hpeers], by rw [hbudget, hstation], by rw [hzone], by rw [hwater],
        by rw [hmotion], by rw [hlight], hevent, (tickBoot_station _).trans hstation, (tickBoot_phase _).trans hphase,
        (tickBoot_storage _).trans hstorage⟩
    | false =>
      rw [tickMs_of_not_running hr]
      exact .inl ⟨hparams, hbank, hpeers, hbudget, hzone, hwater, hmotion, hlight, hevent,
        (tickBoot_station _).trans hstation, (tickBoot_phase _).trans hphase, (tickBoot_storage _).trans hstorage⟩
  · exact .inl ⟨hparams, hbank, hpeers, hbudget, hzone, hwater, hmotion, hlight, hevent, hstation, hphase, hstorage⟩

theorem BlocksSame.running {s t : State} (h : BlocksSame s t) : t.running = s.running := by
  unfold State.running
  rw [h.boot.2.1]

theorem BlocksTicked.running {s t : State} (h : BlocksTicked s t) : t.running = s.running := by
  unfold State.running
  rw [h.boot.2.1]

theorem BlocksTicked.load {s t : State} (h : BlocksTicked s t) (i : Fin 17) :
    t.budget.loads[i] = tickLoad s.budget.loads[i] := by rw [h.budget, tickBudget_loads]

/-! ## The lights through start, reset and time -/

theorem lampsIn_startBlocks (record : List Byte) (passed : Bool) (inputs : StartInputs) (s : State) :
    LampsIn (startBlocks record passed inputs s) := by
  have hacts := acts_motionStarted record passed inputs s
  rw [startBlocks_eq]
  generalize motionStarted record passed inputs s = u at hacts
  have hm : Mirrored u := hacts.mirrored (mirrored_settledState record passed s)
  have hflag : u.light.forcedOff = u.boot.storage := by
    have hforced := (hacts.lightsKept (by decide)).2.2.2.1
    rw [hforced, boot_of_acts hacts (by decide)]
    rfl
  have hoff (n : Fin 8) : u.budget.loads[lightLoad n].state = .off :=
    (hacts.loadKept (i := lightLoad n) fun hmem => absurd ((isLight_lightLoad n).symm.trans
      ((show ∀ e ∈ motionStartEffects, touchesLights e = false by decide) _ hmem)) nofun).off_iff.mpr
      (settledState_off record passed s _)
  have hset : Acts [.writes .light, .writes .motion] u (u.setLight { u.light with ownStepOut := ownStepOut u }) :=
    (written_setOwnStepOut u (ownStepOut u)).acts
  have hms := hset.mirrored hm
  have hlamps : Lamps (handOwnStepOut (ownStepOut u) u) :=
    ⟨(acts_handOwnStepOut _ u).mirrored hm, lampsSound_evalChannels hms fun n _ => hoff n⟩
  refine ⟨hlamps, ?_⟩
  rw [boot_of_acts (acts_handOwnStepOut _ u) (by decide)]
  unfold handOwnStepOut
  rw [evalChannels_forcedOff]
  exact hflag

/-- What holds of the mirrors and lights before the start too: nothing is on. -/
def LampsOff (s : State) : Prop :=
  Mirrored s ∧ ∀ n : Fin 8, s.light.forcedOff = true ∨ s.params.channels[n].hosted = false →
    s.budget.loads[lightLoad n].state = .off

theorem LampsIn.off {s : State} (h : LampsIn s) : LampsOff s := by
  obtain ⟨⟨hm, hhosted, hnone⟩, _⟩ := h
  refine ⟨hm, fun n hn => ?_⟩
  cases hh : s.params.channels[n].hosted with
  | false => exact hnone n hh
  | true =>
    have hforced : s.light.forcedOff = true := hn.resolve_right (by rw [hh]; nofun)
    obtain ⟨hcond, hoff⟩ := hhosted n hh
    rw [hoff, hcond, onCondition, hforced]
    rfl

theorem mirrored_ticked {s t : State} (h : BlocksTicked s t) (hm : Mirrored s) : Mirrored t := by
  obtain ⟨hlights, hzones, hheater, hpump⟩ := hm
  refine ⟨fun n => ?_, fun n => ?_, ?_, ?_⟩
  · rw [h.light]
    exact (hlights n).trans (congrArg LoadRecord.state (h.load (lightLoad n))).symm
  · rw [h.zone]
    exact (hzones n).trans (congrArg LoadRecord.state (h.load (zoneLoad n))).symm
  · rw [h.water]
    exact hheater.trans (congrArg LoadRecord.state (h.load 12)).symm
  · rw [h.water]
    exact hpump.trans (congrArg LoadRecord.state (h.load 13)).symm

theorem mirrored_same {s t : State} (h : BlocksSame s t) (hm : Mirrored s) : Mirrored t := by
  unfold Mirrored
  rw [h.light, h.zone, h.water, h.budget]
  exact hm

theorem lampsOff_tick {s : State} (h : LampsOff s) : LampsOff (tick s) := by
  rcases tick_blocks s with hb | ⟨_, hb⟩
  · refine ⟨mirrored_same hb h.1, fun n hn => ?_⟩
    rw [hb.light, hb.params] at hn
    rw [hb.budget]
    exact h.2 n hn
  · refine ⟨mirrored_ticked hb h.1, fun n hn => ?_⟩
    rw [hb.light, hb.params] at hn
    rw [hb.load]
    exact h.2 n hn

theorem lampsIn_tick {s : State} (h : LampsIn s) : LampsIn (tick s) := by
  obtain ⟨⟨hm, hhosted, hnone⟩, hflag⟩ := h
  rcases tick_blocks s with hb | ⟨_, hb⟩
  · refine ⟨⟨mirrored_same hb hm, ?_⟩, by rw [hb.light, hb.boot.2.2, hflag]⟩
    unfold LampsSound LampOk
    rw [hb.params, hb.light, hb.budget]
    exact ⟨hhosted, hnone⟩
  · have hload (i : Fin 17) : (tick s).budget.loads[i].state = s.budget.loads[i].state := by
      rw [hb.load i]
      rfl
    refine ⟨⟨mirrored_ticked hb hm, fun n hn => ?_, fun n hn => ?_⟩, ?_⟩
    · rw [hb.params] at hn
      unfold LampOk
      rw [hb.params, hb.light, hload]
      exact hhosted n hn
    · rw [hb.params] at hn
      rw [hload]
      exact hnone n hn
    · rw [hb.light, hb.boot.2.2]
      exact hflag

end Sys2Proof.Machine

/-! The pump and the dump valve in step with their loads and blocks. -/

namespace Sys2Proof.Machine

-- As in the tests, so that no command needs threads of its own.
set_option Elab.async false

/-! ## The pump's drive (R97) -/

/-- The pump's output is that of its load and its blocks. -/
def DriveOk (s : State) : Prop := s.water.pump.output = (s.water.pump.load == .admitted && !pumpBlocked s)

theorem pumpBlocked_congr {s t : State} (hw : waterFixed t.water = waterFixed s.water)
    (hb : t.boot.storage = s.boot.storage) : pumpBlocked t = pumpBlocked s := by
  simp only [waterFixed, Prod.mk.injEq] at hw
  obtain ⟨⟨hfresh, hgrey, _, _, _, hpeer⟩, ⟨_, hdisabled, hdry⟩, ⟨_, _, _, hvalve⟩, _⟩ := hw
  unfold pumpBlocked otherPumpBlock anyGreyFull
  rw [hfresh, hgrey, hpeer, hdisabled, hdry, hvalve, hb]

theorem LoadSteps.pumpBlocked_eq {s t : State} (h : LoadSteps s t) : pumpBlocked t = pumpBlocked s :=
  pumpBlocked_congr (waterFixed_of_waterCore h.frame.water) (congrArg Boot.storage h.frame.boot)

theorem driveOk_of_water {s t : State} (h : DriveOk s) (hw : t.water = s.water) (hb : t.boot.storage = s.boot.storage) :
    DriveOk t := by
  unfold DriveOk
  rw [pumpBlocked_congr (by rw [hw]) hb, hw]
  exact h

theorem driveOk_handLoad {i : Fin 17} {ld : LoadState} {s : State} (h : i.val = 13 ∨ DriveOk s) :
    DriveOk (handLoad i ld s) := by
  have hblocked : pumpBlocked (handLoad i ld s) = pumpBlocked s :=
    pumpBlocked_congr (waterFixed_of_waterCore (LoadFrame.handLoad i ld s).water)
      (congrArg Boot.storage (LoadFrame.handLoad i ld s).boot)
  unfold DriveOk
  rw [hblocked, handLoad_pump]
  split
  · rfl
  · next hi => exact h.resolve_left hi

theorem driveOk_putLoad {i : Fin 17} {r : LoadRecord} {s : State} (h : i.val = 13 ∨ DriveOk s) :
    DriveOk (putLoad i r s) := by
  unfold putLoad
  refine driveOk_handLoad (h.imp_right fun hd => ?_)
  exact driveOk_of_water hd (State.setBudget_water _ _) rfl

theorem LoadSteps.driveOk {s t : State} (h : LoadSteps s t) (hs : DriveOk s) : DriveOk t := by
  induction h with
  | refl => exact hs
  | send t k p _ ih => exact driveOk_of_water ih (sendTelegram_water k p t) (congrArg Boot.storage (sendTelegram_boot k p t))
  | flag t w _ ih => exact driveOk_of_water ih rfl rfl
  | load t i r _ _ _ ih => exact driveOk_putLoad (.inr ih)
  | cls t i c _ ih => exact driveOk_of_water ih rfl rfl
  | book t b _ _ _ _ ih => exact driveOk_of_water ih rfl rfl

theorem LoadEvent.driveOk {e : Effect} {s t : State} (h : LoadEvent e s t) (hs : DriveOk s) : DriveOk t := by
  obtain ⟨m, ⟨b, rfl, _⟩, hsteps⟩ := h.rebased_steps
  exact hsteps.driveOk (driveOk_of_water hs rfl rfl)

/-- A pump that is released stands with its output off, whatever it was before. -/
theorem driveOk_release_pump {s : State} (h : s.budget.loads[pumpLoad].state ≠ .off) : DriveOk (release pumpLoad s) := by
  have hrelease : release pumpLoad s = settle s.budget.own
      (fell (totals s.budget) (totals (turnOff pumpLoad s).budget)) (turnOff pumpLoad s) := if_neg h
  have hoff : DriveOk (turnOff pumpLoad s) := driveOk_of_water (driveOk_putLoad (.inl rfl)) rfl rfl
  rw [hrelease]
  exact (loadSteps_settle _ _ _).driveOk hoff

theorem PumpOk.drive {s : State} (h : PumpOk s) : DriveOk s := by
  obtain ⟨hoff, hout⟩ := h
  unfold DriveOk
  rw [hout]
  cases hb : pumpBlocked s with
  | false => rw [Bool.not_false, Bool.and_true]
  | true => rw [hoff (.inl hb)]; rfl

theorem pumpOk_of_drive {s : State} (h : DriveOk s)
    (hoff : pumpBlocked s = true ∨ s.params.water.pump = false → s.water.pump.load = .off) : PumpOk s := by
  refine ⟨hoff, h.trans ?_⟩
  cases hb : pumpBlocked s with
  | false => rw [Bool.not_false, Bool.and_true]
  | true => rw [hoff (.inl hb)]; rfl

/-! ## The pump evaluated (R95, R96) -/

/-- What an evaluation needs of the pump: its load OFF where it is not hosted, and its output with its load. -/
def PumpReady (s : State) : Prop :=
  (s.params.water.pump = false → s.water.pump.load = .off) ∧ s.water.pump.output = (s.water.pump.load == .admitted)

theorem PumpOk.ready {s : State} (h : PumpOk s) : PumpReady s := ⟨fun hn => h.1 (.inr hn), h.2⟩

theorem pumpReady_congr {s t : State} (h : PumpReady s) (hp : t.params = s.params)
    (hload : t.water.pump.load = s.water.pump.load) (hout : t.water.pump.output = s.water.pump.output) : PumpReady t := by
  unfold PumpReady
  rw [hp, hload, hout]
  exact h

theorem pumpOk_evalPump {s : State} (hm : Mirrored s) (h : PumpReady s) : PumpOk (evalPump s) := by
  have hload : s.water.pump.load = s.budget.loads[pumpLoad].state := hm.2.2.2
  unfold evalPump
  cases hhosted : s.params.water.pump with
  | false =>
    rw [if_pos (by rfl)]
    exact ⟨fun _ => h.1 hhosted, h.2⟩
  | true =>
    rw [if_neg (by nofun)]
    simp only
    cases hstop : pumpBlocked s || !s.water.pump.demand with
    | true =>
      rw [if_pos rfl]
      split
      · next hoff => exact ⟨fun _ => hoff, h.2⟩
      · next hoff =>
        have hevent := LoadEvent.release pumpLoad s
        have hafter : (release pumpLoad s).water.pump.load = .off :=
          (hevent.mirrored hm).2.2.2.trans (release_state pumpLoad s)
        exact pumpOk_of_drive (driveOk_release_pump (hload ▸ hoff)) fun _ => hafter
    | false =>
      rw [if_neg (by nofun)]
      have hclear : pumpBlocked s = false := (Bool.or_eq_false_iff.mp hstop).1
      split
      · next hoff =>
        have hdrive : DriveOk s := by rw [DriveOk, h.2, hclear, Bool.not_false, Bool.and_true]
        have hsteps := loadSteps_ask pumpLoad s
        refine pumpOk_of_drive (hsteps.driveOk hdrive) fun hb => ?_
        rw [hsteps.pumpBlocked_eq, hclear, hsteps.frame.params, hhosted] at hb
        exact absurd hb (by simp)
      · refine ⟨fun hb => ?_, h.2⟩
        rw [hclear, hhosted] at hb
        exact absurd hb (by simp)

/-! ## The valve (R102) -/

/-- The dump valve is open exactly while its load is ADMITTED. -/
def ValveOk (s : State) : Prop := s.water.frost.valveOpen = true ↔ s.budget.loads[valveLoad].state = .admitted

theorem firm_of_unsheddable {s : State} (h : BudgetOk s) {i : Fin 17} (hi : sheddable i = false) : Firm i s.budget :=
  ((h.table.kind i).2.1 (.inr hi)).imp id fun ha => ⟨ha, hi⟩

theorem valveOk_congr {s t : State} (h : ValveOk s) (hw : t.water.frost.valveOpen = s.water.frost.valveOpen)
    (hl : t.budget.loads[valveLoad] = s.budget.loads[valveLoad]) : ValveOk t := by
  unfold ValveOk
  rw [hw, hl]
  exact h

theorem valveLoad_kept {L : List Effect} {s t : State} (h : Acts L s t) (hL : .asks 14 ∉ L) (hb : BudgetOk s) :
    t.budget.loads[valveLoad] = s.budget.loads[valveLoad] :=
  (h.loadKept (i := valveLoad) hL).1 (firm_of_unsheddable hb rfl)

/-! ## The water controller with its loads -/

/-- The pump and the dump valve are in step with their loads and blocks, over a sound load table. -/
structure WaterIn (s : State) : Prop where
  budget : BudgetOk s
  mirrored : Mirrored s
  valve : ValveOk s
  pump : PumpOk s

/-- The fields of the water controller that no load decides stand as they were, but for times and counters. -/
def WaterKept (s t : State) : Prop :=
  waterFixed { t.water with frostDumps := 0 } = waterFixed { s.water with frostDumps := 0 }

theorem waterKept_of_fixed {s t : State} (h : waterFixed t.water = waterFixed s.water) : WaterKept s t := by
  simp only [waterFixed, Prod.mk.injEq] at h
  simp only [WaterKept, waterFixed, Prod.mk.injEq]
  exact ⟨h.1, h.2.1, h.2.2.1, trivial⟩

theorem WaterKept.blocked {s t : State} (h : WaterKept s t) (hb : t.boot.storage = s.boot.storage) :
    pumpBlocked t = pumpBlocked s :=
  pumpBlocked_congr (s := s.setWater { s.water with frostDumps := 0 }) (t := t.setWater { t.water with frostDumps := 0 }) h hb

theorem WaterKept.valveOpen {s t : State} (h : WaterKept s t) : t.water.frost.valveOpen = s.water.frost.valveOpen := by
  simp only [WaterKept, waterFixed, Prod.mk.injEq] at h
  exact h.2.2.1.2.2.2

theorem WaterKept.trans {s t u : State} (h : WaterKept s t) (k : WaterKept t u) : WaterKept s u := Eq.trans k h

/-- The water controller and the storage flag stand as they were. -/
theorem pumpOk_congr {s t : State} (h : PumpOk s) (hp : t.params = s.params) (hk : WaterKept s t)
    (hb : t.boot.storage = s.boot.storage) (hload : t.water.pump.load = s.water.pump.load)
    (hout : t.water.pump.output = s.water.pump.output) : PumpOk t := by
  unfold PumpOk
  rw [hk.blocked hb, hp, hload, hout]
  exact h

/-- An event of the budget unit that does not ask for the pump keeps it in step. -/
theorem LoadEvent.pumpOk {e : Effect} {s t : State} (h : LoadEvent e s t) (he : e ≠ .asks 13) (hm : Mirrored s)
    (hs : PumpOk s) : PumpOk t := by
  obtain ⟨m, ⟨b, rfl, _⟩, hsteps⟩ := h.rebased_steps
  refine pumpOk_of_drive (h.driveOk hs.drive) fun hb => ?_
  rw [hsteps.pumpBlocked_eq, hsteps.frame.params] at hb
  have hoff : s.budget.loads[pumpLoad].state = .off := hm.2.2.2.symm.trans (hs.1 hb)
  exact (h.mirrored hm).2.2.2.trans ((h.loadKept (i := pumpLoad) he).off_iff.mpr hoff)

/-- An effect that writes the water controller or the start-up block, or asks for the pump or the dump valve. -/
def touchesWater : Effect → Bool
  | .writes b => b == .water || b == .boot
  | .asks i => i == 13 || i == 14
  | _ => false

theorem sendTelegram_blocks (k : Kind) (p : List Byte) (s : State) :
    (sendTelegram k p s).water = s.water ∧ (sendTelegram k p s).boot = s.boot :=
  ⟨sendTelegram_water k p s, sendTelegram_boot k p s⟩

/-- A chain of acts of other blocks leaves the water controller's own fields and the storage flag. -/
theorem Acts.pumpKept {L : List Effect} {s t : State} (h : Acts L s t) (hL : ∀ e ∈ L, touchesWater e = false)
    (hm : Mirrored s) (hs : PumpOk s) : PumpOk t ∧ WaterKept s t := by
  induction h with
  | refl => exact ⟨hs, rfl⟩
  | @event t u e he h k ih =>
    obtain ⟨hpump, hkept⟩ := ih
    have hne : e ≠ .asks 13 := by
      rintro rfl
      exact absurd (hL _ he) nofun
    obtain ⟨m, ⟨b, hmb, _⟩, hsteps⟩ := k.rebased_steps
    refine ⟨k.pumpOk hne (h.mirrored hm) hpump, hkept.trans (waterKept_of_fixed ?_)⟩
    rw [waterFixed_of_waterCore hsteps.frame.water, hmb]
    rfl
  | @send t k p _ _ ih =>
    obtain ⟨hpump, hkept⟩ := ih
    obtain ⟨hw, hb⟩ := sendTelegram_blocks k p t
    have hstep : WaterKept t (sendTelegram k p t) := waterKept_of_fixed (by rw [hw])
    exact ⟨pumpOk_congr hpump (sendTelegram_params k p t) hstep (by rw [hb]) (by rw [hw]) (by rw [hw]), hkept.trans hstep⟩
  | @raise t e _ _ ih =>
    obtain ⟨hpump, hkept⟩ := ih
    have hw : (raiseEvent e t).water = t.water := raiseEvent_blockSame e t (b := .water) (by decide)
    have hstep : WaterKept t (raiseEvent e t) := waterKept_of_fixed (by rw [hw])
    exact ⟨pumpOk_congr hpump (raiseEvent_params e t) hstep (by rw [raiseEvent_boot]) (by rw [hw]) (by rw [hw]),
      hkept.trans hstep⟩
  | @write t u bs he _ k ih =>
    obtain ⟨hpump, hkept⟩ := ih
    have hw : u.water = t.water := k.frame .water fun hmem => absurd (hL _ (he _ hmem)) nofun
    have hb : u.boot = t.boot := k.frame .boot fun hmem => absurd (hL _ (he _ hmem)) nofun
    have hstep : WaterKept t u := waterKept_of_fixed (by rw [hw])
    exact ⟨pumpOk_congr hpump k.params hstep (by rw [hb]) (by rw [hw]) (by rw [hw]), hkept.trans hstep⟩
  | @clear t page _ _ ih =>
    obtain ⟨hpump, hkept⟩ := ih
    obtain ⟨_, _, _, hw⟩ := clearPage_loads page t
    have hstep : WaterKept t (clearPage page t) := by rw [WaterKept, hw]
    exact ⟨pumpOk_congr hpump (clearPage_params page t) hstep (by rw [clearPage_boot]) (by rw [hw]) (by rw [hw]),
      hkept.trans hstep⟩

theorem Acts.waterIn {L : List Effect} {s t : State} (h : Acts L s t) (hL : ∀ e ∈ L, touchesWater e = false)
    (hs : WaterIn s) : WaterIn t := by
  obtain ⟨hpump, hkept⟩ := h.pumpKept hL hs.mirrored hs.pump
  refine ⟨h.budgetOk hs.budget, h.mirrored hs.mirrored, valveOk_congr hs.valve hkept.valveOpen ?_, hpump⟩
  exact valveLoad_kept h (fun hmem => absurd (hL _ hmem) nofun) hs.budget

theorem loadSteps_evalPump (s : State) : LoadSteps s (Machine.evalPump s) := by
  unfold Machine.evalPump
  split
  · exact .refl
  · simp only
    split
    · split
      · exact .refl
      · exact loadSteps_release _ _
    · split
      · exact loadSteps_ask _ _
      · exact .refl

theorem waterIn_evalPump {s : State} (hb : BudgetOk s) (hm : Mirrored s) (hv : ValveOk s) (hr : PumpReady s) :
    WaterIn (evalPump s) := by
  have heval := acts_evalPump s
  have hkept : WaterKept s (evalPump s) :=
    waterKept_of_fixed (waterFixed_of_waterCore (loadSteps_evalPump s).frame.water)
  exact ⟨heval.budgetOk hb, heval.mirrored hm, valveOk_congr hv hkept.valveOpen (valveLoad_kept heval (by decide) hb),
    pumpOk_evalPump hm hr⟩

/-- Writes after which the pump is evaluated, with the valve and the pump's own drive left as they were. -/
theorem WaterIn.evalPump {L : List Effect} {s t : State} (hs : WaterIn s) (h : Acts L s t) (hL : .asks 14 ∉ L)
    (hvalve : t.water.frost.valveOpen = s.water.frost.valveOpen) (hload : t.water.pump.load = s.water.pump.load)
    (hout : t.water.pump.output = s.water.pump.output) : WaterIn (evalPump t) :=
  waterIn_evalPump (h.budgetOk hs.budget) (h.mirrored hs.mirrored)
    (valveOk_congr hs.valve hvalve (valveLoad_kept h hL hs.budget)) (pumpReady_congr hs.pump.ready h.params hload hout)

end Sys2Proof.Machine

/-! The controllers stay in step with their loads by every step. -/

namespace Sys2Proof.Machine

-- As in the tests, so that no command needs threads of its own.
set_option Elab.async false

/-! ## The water controller's events -/

theorem waterIn_pressureEdge {s : State} (h : WaterIn s) (closing : Bool) : WaterIn (pressureEdge closing s) := by
  unfold pressureEdge
  split
  · exact h.evalPump (written_putPump { s.water.pump with demand := closing } s).acts (by decide) rfl rfl rfl
  · exact h

theorem waterIn_setPump {s : State} (h : WaterIn s) (enable : Bool) : WaterIn (setPump enable s) := by
  unfold setPump
  simp only
  cases enable with
  | true =>
    exact h.evalPump (written_putPump { s.water.pump with disabled := false, dryLock := false } s).acts (by decide)
      rfl rfl rfl
  | false => exact h.evalPump (written_putPump { s.water.pump with disabled := true } s).acts (by decide) rfl rfl rfl

theorem waterIn_decidePumpSet {s : State} (h : WaterIn s) (value : Byte) : WaterIn (decidePumpSet value s).1 := by
  unfold decidePumpSet
  split
  · exact h
  · split
    · exact h
    · split
      · exact h
      · exact waterIn_setPump h _

theorem waterIn_pumpRunsDry {s : State} (h : WaterIn s) : WaterIn (pumpRunsDry s) := by
  have hput : Acts [.writes .water] s (putPump { s.water.pump with dryLock := true } s) :=
    (written_putPump { s.water.pump with dryLock := true } s).acts
  have hw : (raiseEvent .pumpDry (putPump { s.water.pump with dryLock := true } s)).water
      = { s.water with pump := { s.water.pump with dryLock := true } } :=
    raiseEvent_blockSame _ _ (b := .water) (by decide)
  exact h.evalPump (L := [.writes .water, .raises .pumpDry]) (hput.append (acts_raiseEvent .pumpDry _)) (by decide)
    (by rw [hw]) (by rw [hw]) (by rw [hw])

theorem waterIn_handGreyFull {s : State} (h : WaterIn s) (full : Bool) : WaterIn (handGreyFull full s) :=
  h.evalPump (written_setWaterFact s s.water.moving full).acts (by decide) rfl rfl rfl

/-- A write of the water controller that leaves the pump, its blocks and the valve keeps them in step. -/
theorem WaterIn.write {L : List Effect} {s t : State} (h : WaterIn s) (hw : Acts L s t)
    (hblocked : pumpBlocked t = pumpBlocked s) (hload : t.water.pump.load = s.water.pump.load)
    (hout : t.water.pump.output = s.water.pump.output)
    (hvalve : t.water.frost.valveOpen = s.water.frost.valveOpen) (hL : .asks 14 ∉ L := by decide) : WaterIn t := by
  refine ⟨hw.budgetOk h.budget, hw.mirrored h.mirrored, valveOk_congr h.valve hvalve
    (valveLoad_kept hw hL h.budget), ?_⟩
  unfold PumpOk
  rw [hblocked, hw.params, hload, hout]
  exact h.pump

theorem waterIn_handMoving {s : State} (h : WaterIn s) (moving : Bool) : WaterIn (handMoving moving s) :=
  h.write (acts_handMoving moving s) rfl rfl rfl rfl

theorem waterIn_queueTanks {s : State} (h : WaterIn s) : WaterIn (queueTanks s) := by
  unfold queueTanks
  split
  · have hw : Acts [.writes .water] s (s.setWater { s.water with tanksTimer := 0, tanksDue := false }) :=
      (written_setWater s { s.water with tanksTimer := 0, tanksDue := false }).acts
    exact (acts_sendTelegram _ _ _).waterIn (by decide) (h.write hw rfl rfl rfl rfl)
  · exact h

theorem waterIn_tanksAfter {s : State} (before : State) (h : WaterIn s) : WaterIn (tanksAfter before s) := by
  unfold tanksAfter
  split
  · exact h
  · split
    · exact waterIn_queueTanks h
    · exact h.write (written_setWater s { s.water with tanksDue := true }).acts rfl rfl rfl rfl

theorem waterIn_checkDwell {s : State} (h : WaterIn s) : WaterIn (checkDwell s) :=
  h.write (acts_checkDwell s) rfl rfl rfl rfl

theorem waterIn_readFrost {s : State} (h : WaterIn s) (reading : Adc) : WaterIn (readFrost reading s) := by
  unfold readFrost
  split
  · have hread : Acts [.writes .water] s (s.setWater { s.water with
        frost := frostRead (convertTemp s.params.tempTable reading) s.water.frost }) :=
      (written_setWater s { s.water with
        frost := frostRead (convertTemp s.params.tempTable reading) s.water.frost }).acts
    exact waterIn_checkDwell ((acts_demandHeater _).waterIn (by decide) (h.write hread rfl rfl rfl rfl))
  · exact h

/-- The readings of a tank period leave the pump and the frost record. -/
theorem tanksRead_water (fresh grey black : Adc) (s : State) :
    (tanksRead fresh grey black s).water.pump = s.water.pump
    ∧ (tanksRead fresh grey black s).water.frost = s.water.frost
    ∧ (tanksRead fresh grey black s).water.peerGreyFull = s.water.peerGreyFull
    ∧ (tanksRead fresh grey black s).boot = s.boot := by
  have hraise (c : Prop) [Decidable c] (e : Event) (u : State) :
      (if c then raiseEvent e u else u).water = u.water ∧ (if c then raiseEvent e u else u).boot = u.boot := by
    split
    · exact ⟨raiseEvent_blockSame e u (b := .water) (by decide), raiseEvent_boot e u⟩
    · exact ⟨rfl, rfl⟩
  have hfresh (u : State) : (readFresh fresh u).water.pump = u.water.pump ∧ (readFresh fresh u).water.frost = u.water.frost
      ∧ (readFresh fresh u).water.peerGreyFull = u.water.peerGreyFull ∧ (readFresh fresh u).boot = u.boot := by
    unfold readFresh
    simp only
    split
    · rw [(hraise _ _ _).1, (hraise _ _ _).2]
      exact ⟨rfl, rfl, rfl, rfl⟩
    · exact ⟨rfl, rfl, rfl, rfl⟩
  have hgrey (u : State) : (readGrey grey u).water.pump = u.water.pump ∧ (readGrey grey u).water.frost = u.water.frost
      ∧ (readGrey grey u).water.peerGreyFull = u.water.peerGreyFull ∧ (readGrey grey u).boot = u.boot := by
    unfold readGrey
    simp only
    split
    · rw [(hraise _ _ _).1, (hraise _ _ _).2]
      exact ⟨rfl, rfl, rfl, rfl⟩
    · exact ⟨rfl, rfl, rfl, rfl⟩
  have hblack (u : State) : (readBlack black u).water.pump = u.water.pump ∧ (readBlack black u).water.frost = u.water.frost
      ∧ (readBlack black u).water.peerGreyFull = u.water.peerGreyFull ∧ (readBlack black u).boot = u.boot := by
    unfold readBlack
    simp only
    split
    · rw [(hraise _ _ _).1, (hraise _ _ _).2]
      exact ⟨rfl, rfl, rfl, rfl⟩
    · exact ⟨rfl, rfl, rfl, rfl⟩
  unfold tanksRead
  obtain ⟨b1, b2, b3, b4⟩ := hblack (readGrey grey (readFresh fresh (s.setWater { s.water with periodTimer := 0 })))
  obtain ⟨g1, g2, g3, g4⟩ := hgrey (readFresh fresh (s.setWater { s.water with periodTimer := 0 }))
  obtain ⟨f1, f2, f3, f4⟩ := hfresh (s.setWater { s.water with periodTimer := 0 })
  exact ⟨b1.trans (g1.trans f1), b2.trans (g2.trans f2), b3.trans (g3.trans f3), b4.trans (g4.trans f4)⟩

theorem waterIn_tankPeriodOf {s : State} (h : WaterIn s) (fresh grey black temp : Adc) :
    WaterIn (tankPeriodOf fresh grey black temp s) := by
  have hacts := acts_tanksRead fresh grey black s
  obtain ⟨hpump, hfrost, hpeer, hboot⟩ := tanksRead_water fresh grey black s
  rw [tankPeriodOf_eq]
  generalize tanksRead fresh grey black s = u at hacts hpump hfrost hpeer hboot
  refine waterIn_readFrost ?_ temp
  split
  · exact h.evalPump hacts (by decide) (by rw [hfrost]) (by rw [hpump]) (by rw [hpump])
  · next hsame =>
    have hstates : u.water.fresh.state = s.water.fresh.state ∧ u.water.grey.state = s.water.grey.state := by
      simp only [tankStateChanged, Bool.or_eq_true, bne_iff_ne, not_or, not_not] at hsame
      exact ⟨hsame.1.symm, hsame.2.symm⟩
    have hblocked : pumpBlocked u = pumpBlocked s := by
      unfold pumpBlocked otherPumpBlock anyGreyFull
      rw [hpump, hfrost, hpeer, hboot, hstates.1, hstates.2]
    refine ⟨hacts.budgetOk h.budget, hacts.mirrored h.mirrored, valveOk_congr h.valve (by rw [hfrost])
      (valveLoad_kept hacts (by decide) h.budget), ?_⟩
    unfold PumpOk
    rw [hblocked, hacts.params, hpump]
    exact h.pump

theorem valveLoad_admitted {s : State} (h : BudgetOk s) : (ask valveLoad s).budget.loads[valveLoad].state = .admitted := by
  rcases firm_of_unsheddable h (i := valveLoad) rfl with hoff | ⟨hadm, _⟩
  · have hcls : s.budget.loads[valveLoad].cls = .c0 := by
      have hallowed := (h.table.kind valveLoad).1
      simpa [classAllowed, valveLoad] using hallowed
    have hask : ask valveLoad s = settle s.budget.own false (admitLoad valveLoad s) :=
      (ask_of_off hoff).trans (if_pos hcls)
    obtain ⟨hl, _⟩ := admitLoad_self valveLoad s
    rw [hask, (settle_record_of_still s.budget.own false (s := admitLoad valveLoad s) (i := valveLoad) (by rw [hl]; rfl)).1, hl]
    rfl
  · have hask : ask valveLoad s = s := if_pos (by rw [hadm]; nofun)
    rw [hask, hadm]

theorem waterIn_openValve {s : State} (h : WaterIn s) : WaterIn (openValve s) := by
  have hevent := LoadEvent.ask valveLoad s (by decide)
  have hask : Acts [.asks 14] s (ask valveLoad s) := hevent.acts
  have hadm := valveLoad_admitted h.budget
  have hpump := hevent.pumpOk (by decide) h.mirrored h.pump
  have hbudget := hask.budgetOk h.budget
  have hmirrored := hask.mirrored h.mirrored
  unfold openValve
  simp only
  generalize ask valveLoad s = u at hadm hpump hbudget hmirrored
  have hopen : Acts [.writes .water] u (u.setWater { u.water with
      frost := { u.water.frost with valveOpen := true, dwell := none } }) :=
    (written_setWater u { u.water with frost := { u.water.frost with valveOpen := true, dwell := none } }).acts
  have hraise : Acts [.writes .water, .raises .frostDump] u (raiseEvent .frostDump (u.setWater { u.water with
      frost := { u.water.frost with valveOpen := true, dwell := none } })) := hopen.append (acts_raiseEvent .frostDump _)
  have hwater : (raiseEvent .frostDump (u.setWater { u.water with
      frost := { u.water.frost with valveOpen := true, dwell := none } })).water
      = { u.water with frost := { u.water.frost with valveOpen := true, dwell := none } } :=
    raiseEvent_blockSame _ _ (b := .water) (by decide)
  generalize raiseEvent .frostDump (u.setWater { u.water with
      frost := { u.water.frost with valveOpen := true, dwell := none } }) = v at hraise hwater
  have hcount : Acts [.writes .water, .raises .frostDump] u
      (v.setWater { v.water with frostDumps := countUp v.water.frostDumps }) :=
    hraise.append (written_setWater v { v.water with frostDumps := countUp v.water.frostDumps }).acts
  have hmcount := hcount.mirrored hmirrored
  have hbcount := hcount.budgetOk hbudget
  have hready : PumpReady (v.setWater { v.water with frostDumps := countUp v.water.frostDumps }) :=
    pumpReady_congr hpump.ready hcount.params (by rw [State.setWater_water, hwater]) (by rw [State.setWater_water, hwater])
  have hvalve : ValveOk (v.setWater { v.water with frostDumps := countUp v.water.frostDumps }) := by
    refine iff_of_true ?_ ?_
    · rw [State.setWater_water, hwater]
    · rw [valveLoad_kept hcount (by decide) hbudget]
      exact hadm
  exact waterIn_evalPump hbcount hmcount hvalve hready

/-- A pump whose load is OFF is ready to be evaluated. -/
theorem pumpReady_of_off {s : State} (hdrive : DriveOk s) (hoff : s.water.pump.load = .off) : PumpReady s := by
  refine ⟨fun _ => hoff, hdrive.trans ?_⟩
  rw [hoff]
  rfl

/-- A pump whose load is OFF stays so through events that do not ask for it. -/
theorem pumpOff_kept {L : List Effect} {s t : State} (h : Acts L s t) (hL : .asks 13 ∉ L) (hm : Mirrored s)
    (hoff : s.water.pump.load = .off) : t.water.pump.load = .off :=
  (h.mirrored hm).2.2.2.trans ((h.loadKept (i := pumpLoad) hL).off_iff.mpr (hm.2.2.2.symm.trans hoff))

theorem driveOk_of_off {s t : State} (h : PumpOk s) (hoff : s.water.pump.load = .off)
    (hpump : t.water.pump = s.water.pump) : DriveOk t := by
  have hout := h.2
  rw [hoff] at hout
  rw [DriveOk, hpump, hout, hoff]
  rfl

theorem waterIn_closeValve {s : State} (h : WaterIn s) (hopen : s.water.frost.valveOpen = true) :
    WaterIn (closeValve s) := by
  have hblocked : pumpBlocked s = true := by simp [pumpBlocked, otherPumpBlock, hopen]
  have hoff : s.water.pump.load = .off := h.pump.1 (.inl hblocked)
  have hshut : Acts [.writes .water] s (s.setWater { s.water with frost := { s.water.frost with valveOpen := false } }) :=
    (written_setWater s { s.water with frost := { s.water.frost with valveOpen := false } }).acts
  have hdrive : DriveOk (s.setWater { s.water with frost := { s.water.frost with valveOpen := false } }) :=
    driveOk_of_off h.pump hoff rfl
  have hfalse : (s.setWater { s.water with frost := { s.water.frost with valveOpen := false } }).water.frost.valveOpen
      = false := rfl
  unfold closeValve
  simp only
  generalize s.setWater { s.water with frost := { s.water.frost with valveOpen := false } } = u at hshut hdrive hfalse
  have hrelease : Acts [.asks 14] u (release valveLoad u) := LoadEvent.acts (.release 14 u)
  have hsteps := loadSteps_release valveLoad u
  have hvalve : (release valveLoad u).water.frost.valveOpen = false :=
    (waterKept_of_fixed (waterFixed_of_waterCore hsteps.frame.water)).valveOpen.trans hfalse
  have hloadOff := release_state valveLoad u
  have hdrive' := hsteps.driveOk hdrive
  have hacts : Acts [.writes .water, .asks 14] s (release valveLoad u) := hshut.append hrelease
  have hpumpOff := pumpOff_kept hacts (by decide) h.mirrored hoff
  have hm := hacts.mirrored h.mirrored
  have hb := hacts.budgetOk h.budget
  generalize release valveLoad u = v at hvalve hloadOff hdrive' hpumpOff hm hb
  have hcheck := acts_checkDwell v
  refine waterIn_evalPump (hcheck.budgetOk hb) (hcheck.mirrored hm) ?_ (pumpReady_of_off ?_ hpumpOff)
  · refine iff_of_false (fun h' => absurd (hvalve.symm.trans h') nofun) (fun h' => ?_)
    exact absurd (hloadOff.symm.trans h') nofun
  · exact hdrive'

theorem waterIn_decideValveClose {s : State} (h : WaterIn s) : WaterIn (decideValveClose s).1 := by
  unfold decideValveClose
  split
  · exact h
  · split
    · exact h
    · next hopen =>
      split
      · exact waterIn_closeValve h (by simpa using hopen)
      · exact h

/-! ## Storage mode -/

theorem waterIn_enterStorage {s : State} (h : WaterIn s) : WaterIn (enterStorage s) := by
  have hboot : Acts [.writes .boot] s (s.setBoot { s.boot with storage := true }) :=
    (written_setBoot s { s.boot with storage := true }).acts
  have hzones := acts_zonesEnterStorage (s.setBoot { s.boot with storage := true })
  have hwater : (zonesEnterStorage (s.setBoot { s.boot with storage := true })).water = s.water :=
    hzones.blockSame (b := .water) (by decide)
  have hpump : WaterIn (evalPump (zonesEnterStorage (s.setBoot { s.boot with storage := true }))) :=
    h.evalPump (L := [.writes .boot, .writes .zone]) (hboot.append hzones) (by decide) (by rw [hwater]) (by rw [hwater])
      (by rw [hwater])
  exact (acts_lightsEnterStorage _).waterIn (by decide) ((acts_motionEntersStorage _).waterIn (by decide) hpump)

theorem waterIn_exitStorage {s : State} (h : WaterIn s) (hstorage : s.boot.storage = true) : WaterIn (exitStorage s) := by
  have hblocked : pumpBlocked s = true := by simp [pumpBlocked, otherPumpBlock, hstorage]
  have hoff : s.water.pump.load = .off := h.pump.1 (.inl hblocked)
  have hboot : Acts [.writes .boot] s (s.setBoot { s.boot with storage := false }) :=
    (written_setBoot s { s.boot with storage := false }).acts
  have hpump0 : PumpOk (s.setBoot { s.boot with storage := false }) :=
    pumpOk_of_drive (driveOk_of_off h.pump hoff rfl) fun _ => hoff
  have hwater0 : WaterIn (s.setBoot { s.boot with storage := false }) :=
    ⟨hboot.budgetOk h.budget, hboot.mirrored h.mirrored, h.valve, hpump0⟩
  have hzones := (acts_zonesExitStorage (s.setBoot { s.boot with storage := false })).waterIn (by decide) hwater0
  have hpump := hzones.evalPump (L := []) .refl (by decide) rfl rfl rfl
  exact (acts_lightsExitStorage _).waterIn (by decide) ((acts_motionExitsStorage _).waterIn (by decide) hpump)

theorem waterIn_decideStorageSet {s : State} (h : WaterIn s) (value : Byte) : WaterIn (decideStorageSet value s).1 := by
  unfold decideStorageSet
  split
  · exact h
  · simp only
    split
    · exact h
    · next hne =>
      split
      · exact waterIn_enterStorage h
      · next hset =>
        refine waterIn_exitStorage h ?_
        cases hs : s.boot.storage with
        | true => rfl
        | false => exact absurd (Bool.eq_false_iff.mpr hset) (hs ▸ hne)

/-! ## Every operation keeps the water controller in step -/

theorem viewKept_waterIn : ViewKept WaterIn where
  peers s x := ((written_setPeers s x).acts).waterIn (by decide)
  lost s := (acts_raiseEvent .peerLost s).waterIn (by decide)
  quantities s banks supply known sums :=
    (LoadEvent.acts (.quantities banks supply known sums s)).waterIn (by decide)
  vehicle s v := (acts_handVehicle v s).waterIn (by decide)
  moving _ moving hs := waterIn_handMoving hs moving
  step s out := (acts_handPeerStepOut out s).waterIn (by decide)
  grey _ full hs := waterIn_handGreyFull hs full

theorem Did.waterIn {L : List Effect} {s u : State} (h : Did s L u) (hs : WaterIn s) : WaterIn u := by
  cases h with
  | decided hd =>
    cases hd with
    | pumpSet => exact waterIn_decidePumpSet hs _
    | valveClose => exact waterIn_decideValveClose hs
    | storageSet => exact waterIn_decideStorageSet hs _
    | zoneSet => exact (acts_decideZoneSet _ _ _ s).waterIn (by decide) hs
    | lightSet => exact (acts_decideLightSet _ _ _ s).waterIn (by decide) hs
    | move => exact (acts_decideMove _ _ s).waterIn (by decide) hs
    | halt => exact (acts_decideHalt _ s).waterIn (by decide) hs
    | holdSet => exact (acts_decideHoldSet _ _ s).waterIn (by decide) hs
    | faultClear => exact (acts_decideFaultClear _ s).waterIn (by decide) hs
    | eventsClear => exact (acts_decideEventsClear _ s).waterIn (by decide) hs
    | diagQuery => exact (acts_decideDiagQuery _ s).waterIn (by decide) hs
  | entersRun =>
    have hstage : WaterIn (s.setBoot { s.boot with stage := .run }) :=
      ⟨budgetOk_congr hs.budget (sameTable_of_budget rfl rfl), hs.mirrored, hs.valve, hs.pump⟩
    unfold enterRun
    simp only
    split
    · exact (LoadEvent.acts (.gate _)).waterIn (by decide) hstage
    · exact hstage
  | expires n => exact viewKept_waterIn.expirePeer hs n
  | hears n k payload => exact viewKept_waterIn.peerArrival hs n k payload
  | readsTanks a b c d => exact waterIn_tankPeriodOf hs a b c d
  | pressure closing => exact waterIn_pressureEdge hs closing
  | runsDry => exact waterIn_pumpRunsDry hs
  | opensValve => exact waterIn_openValve hs
  | queuesTanks => exact waterIn_queueTanks hs
  | samples p i v hp => exact (acts_sampleBank p i v s).waterIn (by decide) hs
  | derates p r hp => exact (acts_evalDerate p r s).waterIn (by decide) hs
  | formsBattery p hp => exact (acts_bankFormBattery p s).waterIn (by decide) hs
  | goesStale n => exact (acts_goStale n s).waterIn (by decide) hs
  | dwellExpires => exact (LoadEvent.acts (.dwell s)).waterIn (by decide) hs
  | holdExpires i hi => exact (LoadEvent.acts (.hold i s hi)).waterIn (by decide) hs
  | queuesClaim => exact (LoadEvent.acts (.claim s)).waterIn (by decide) hs
  | evaluatesZones r => exact (acts_evalZones r s).waterIn (by decide) hs
  | stepsWindow => exact (acts_stepWindow s).waterIn (by decide) hs
  | arrives a e => exact (acts_arrivalAt a e s).waterIn (by decide) hs
  | departs a e => exact (acts_departureAt a e s).waterIn (by decide) hs
  | edges a => exact (acts_hallEdgeAt a s).waterIn (by decide) hs
  | fails a f => exact (acts_enterFault a f s).waterIn (by decide) hs
  | crosses a current => exact (acts_currentCrossing a current s).waterIn (by decide) hs
  | overcurrent a => exact (acts_overcurrentAt a s).waterIn (by decide) hs
  | endsPause a => exact (acts_endPause a s).waterIn (by decide) hs
  | windEdge => exact (acts_windEdge s).waterIn (by decide) hs
  | windSilent => exact (acts_putWind _ s).waterIn (by decide) hs
  | stows override => exact (acts_takeStow override s).waterIn (by decide) hs
  | queuesMotion => exact (acts_queueMotion s).waterIn (by decide) hs
  | switches n rising => exact (acts_switchEdgeAt n rising s).waterIn (by decide) hs
  | recalls number => exact (acts_recallScene number s).waterIn (by decide) hs
  | fades => exact (acts_fadeAll s).waterIn (by decide) hs
  | advances => exact (acts_advancePwm s).waterIn (by decide) hs

theorem waterIn_publish {s : State} (before : State) (hs : WaterIn s) : WaterIn (publish before s) :=
  waterIn_tanksAfter before ((acts_motionAfter before _).waterIn (by decide)
    ((acts_stepOutAfter before s).waterIn (by decide) hs))

/-! ## Start, reset and time -/

theorem waterIn_startBlocks (record : List Byte) (passed : Bool) (inputs : StartInputs) (s : State) :
    WaterIn (startBlocks record passed inputs s) := by
  have hsettled : WaterIn (settledState record passed s) := by
    refine ⟨budgetOk_settledState record passed s, mirrored_settledState record passed s, ?_, fun _ => rfl, rfl⟩
    refine iff_of_false nofun fun h => ?_
    exact absurd ((settledState_off record passed s valveLoad).symm.trans h) nofun
  have hzones := (acts_zonesStarted record passed inputs s).waterIn (by decide) hsettled
  have hwater : WaterIn (waterStarted record passed inputs s) := by
    unfold waterStarted startWater
    generalize zonesStarted record passed inputs s = u at hzones
    simp only
    have hput : WaterIn (putPump { u.water.pump with demand := u.params.water.pump && inputs.pressure } u) :=
      hzones.write (written_putPump { u.water.pump with demand := u.params.water.pump && inputs.pressure } u).acts
        rfl rfl rfl rfl
    exact waterIn_queueTanks ((waterIn_tankPeriodOf hput _ _ _ _).evalPump (L := []) .refl (by decide) rfl rfl rfl)
  have hmotion : WaterIn (motionStarted record passed inputs s) :=
    (acts_startMotion inputs _).waterIn (by decide) hwater
  exact (acts_handOwnStepOut _ _).waterIn (by decide) hmotion

theorem waterIn_reset {s : State} (hb : s.budget = Budget.reset) (hl : s.light = LightCtl.reset)
    (hz : s.zone = ZoneCtl.reset) (hw : s.water = Water.reset) : WaterIn s := by
  have hoff (i : Fin 17) : s.budget.loads[i].state = .off := by rw [hb, reset_loads]; rfl
  refine ⟨budgetOk_of_reset hb, ⟨fun n => ?_, fun n => ?_, ?_, ?_⟩, ?_, ?_⟩
  · refine Eq.trans ?_ (hoff (lightLoad n)).symm
    rw [hl]
    simp [LightCtl.reset, Channel.reset]
  · refine Eq.trans ?_ (hoff (zoneLoad n)).symm
    rw [hz]
    simp [ZoneCtl.reset, Zone.reset]
  · exact Eq.trans (by rw [hw]; rfl) (hoff 12).symm
  · exact Eq.trans (by rw [hw]; rfl) (hoff 13).symm
  · refine iff_of_false (by rw [hw]; nofun) fun h => ?_
    exact absurd ((hoff valveLoad).symm.trans h) nofun
  · unfold PumpOk
    rw [hw]
    exact ⟨fun _ => rfl, rfl⟩

theorem waterIn_tick {s : State} (h : WaterIn s) : WaterIn (tick s) := by
  have hb := budgetOk_tick h.budget
  rcases tick_blocks s with hk | ⟨_, hk⟩
  · refine ⟨hb, mirrored_same hk h.mirrored, ?_, ?_⟩
    · unfold ValveOk
      rw [hk.water, hk.budget]
      exact h.valve
    · exact pumpOk_congr h.pump hk.params (waterKept_of_fixed (by rw [hk.water])) hk.boot.2.2 (by rw [hk.water])
        (by rw [hk.water])
  · refine ⟨hb, mirrored_ticked hk h.mirrored, ?_, ?_⟩
    · unfold ValveOk
      rw [hk.water, hk.load]
      exact h.valve
    · have hblocked : pumpBlocked (tick s) = pumpBlocked s := by
        unfold pumpBlocked otherPumpBlock anyGreyFull
        rw [hk.water, hk.boot.2.2]
        rfl
      unfold PumpOk
      rw [hblocked, hk.params, hk.water]
      exact h.pump

/-! ## The controllers stay in step -/

/-- What O8 asks of a state, the lights taken together. -/
def InStep (s : State) : Prop := WaterIn s ∧ LampsOff s ∧ (s.running = true → LampsIn s)

theorem inStep_of_lampsIn {s : State} (hw : WaterIn s) (hl : LampsIn s) : InStep s := ⟨hw, hl.off, fun _ => hl⟩

theorem inStep_iff (s : State) : InStep s ↔ BudgetOk s ∧ MirrorOk s ∧ PumpOk s ∧ StorageOk s ∧ LampsOk s := by
  constructor
  · rintro ⟨⟨hbudget, hmirror, hvalve, hpump⟩, ⟨_, hoff⟩, hrun⟩
    obtain ⟨hlights, hzones, hheater, hpumpLoad⟩ := hmirror
    refine ⟨hbudget, ⟨hlights, hzones, hheater, hpumpLoad, hvalve⟩, hpump, ⟨fun hr => (hrun hr).2, hoff⟩, fun hr => ?_⟩
    obtain ⟨⟨_, hhosted, _⟩, _⟩ := hrun hr
    exact hhosted
  · rintro ⟨hbudget, ⟨hlights, hzones, hheater, hpumpLoad, hvalve⟩, hpump, ⟨hflag, hoff⟩, hlamps⟩
    have hm : Mirrored s := ⟨hlights, hzones, hheater, hpumpLoad⟩
    exact ⟨⟨hbudget, hm, hvalve, hpump⟩, ⟨hm, hoff⟩, fun hr => ⟨⟨hm, hlamps hr, fun n hn => hoff n (.inr hn)⟩, hflag hr⟩⟩

theorem inductive_inStep : Inductive InStep where
  pending s q h := by
    obtain ⟨hwater, hoff, hlamps⟩ := h
    exact ⟨⟨budgetOk_congr hwater.budget (sameTable_of_budget rfl rfl), hwater.mirrored, hwater.valve, hwater.pump⟩, hoff,
      hlamps⟩
  round s u L hrun h hd := by
    obtain ⟨hwater, _, hlamps⟩ := h
    exact inStep_of_lampsIn (waterIn_publish s (hd.waterIn hwater)) (lampsIn_publish s (hd.lampsIn (hlamps hrun)))
  reply s payload _ h := by
    have hacts := acts_sendTelegram .reply payload s
    obtain ⟨hwater, hoff, hlamps⟩ := h
    refine ⟨hacts.waterIn (by decide) hwater, ⟨hacts.mirrored hoff.1, ?_⟩, fun hr => ?_⟩
    · rw [sendTelegram_light, sendTelegram_params, sendTelegram_budget]
      exact hoff.2
    · exact hacts.lampsIn (by decide) (hlamps (hacts.running ▸ hr))
  reset s straps storage bank := by
    have hwater : WaterIn (keepModelFields s (State.afterReset straps storage bank)) := waterIn_reset rfl rfl rfl rfl
    refine ⟨hwater, ⟨hwater.mirrored, fun n _ => ?_⟩, nofun⟩
    exact congrArg LoadRecord.state (reset_loads (lightLoad n))
  waits s hrun h := by
    obtain ⟨hwater, hoff, _⟩ := h
    exact ⟨⟨budgetOk_congr hwater.budget (sameTable_of_budget rfl rfl), hwater.mirrored, hwater.valve, hwater.pump⟩, hoff,
      nofun⟩
  starts s record passed inputs _ _ :=
    inStep_of_lampsIn (waterIn_startBlocks record passed inputs s) (lampsIn_startBlocks record passed inputs s)
  line s l _ h := by
    obtain ⟨hwater, hoff, hlamps⟩ := h
    exact ⟨⟨budgetOk_congr hwater.budget (sameTable_of_budget rfl rfl), hwater.mirrored, hwater.valve, hwater.pump⟩, hoff,
      hlamps⟩
  clash s hrun h := by
    have hacts := acts_raiseEvent .clash s
    exact inStep_of_lampsIn (hacts.waterIn (by decide) h.1) (hacts.lampsIn (by decide) (h.2.2 hrun))
  tick s h := by
    obtain ⟨hwater, hoff, hlamps⟩ := h
    exact ⟨waterIn_tick hwater, lampsOff_tick hoff, fun hr => lampsIn_tick (hlamps (by rw [← tick_running]; exact hr))⟩

/-- Settles O8: by every operation of a block and its publishing, the start, the resets and the passing of time. -/
theorem loadsAndControllersStayInStep : Obligations.LoadsAndControllersStayInStep := by
  intro s t hs hstep
  exact (inStep_iff t).mp (inductive_inStep.keptByEveryStep s t ((inStep_iff s).mpr hs) hstep)

end Sys2Proof.Machine

/-! What a chain of acts leaves sound of outputs and levels, and of the copies and totals of the peer view. -/

namespace Sys2Proof.Machine

-- As in the tests, so that no command needs threads of its own.
set_option Elab.async false

/-! ## Heater outputs and light channels -/

theorem LoadEvent.heatersOk {e : Effect} {s t : State} (h : LoadEvent e s t) (hs : HeatersOk s) : HeatersOk t := by
  obtain ⟨m, ⟨b, rfl, _⟩, hsteps⟩ := h.rebased_steps
  exact hsteps.heatersOk (heatersOk_of_eq s _ hs rfl rfl)

theorem LoadEvent.lightsOk {e : Effect} {s t : State} (h : LoadEvent e s t) (hs : LightsOk s) : LightsOk t := by
  obtain ⟨m, ⟨b, rfl, _⟩, hsteps⟩ := h.rebased_steps
  exact hsteps.lightsOk (lightsOk_of_eq s _ hs rfl rfl)

/-- A chain of acts keeps the heater outputs with their admitted duty or load (R77, R101). -/
theorem Acts.heatersOk {L : List Effect} {s t : State} (h : Acts L s t) (hs : HeatersOk s) : HeatersOk t := by
  induction h with
  | refl => exact hs
  | event _ _ k ih => exact k.heatersOk ih
  | send k p _ _ ih => exact (loadSteps_sendTelegram k p _).heatersOk ih
  | raise _ _ ih => exact (loadSteps_raiseEvent _ _).heatersOk ih
  | write _ _ k ih => exact k.heatersOk ih
  | clear page _ _ ih =>
    obtain ⟨_, _, hz, hw⟩ := clearPage_loads page ‹State›
    unfold HeatersOk
    rw [hz, hw]
    exact ih

/-- A chain of acts keeps every light channel sound (R148, R149, R152). -/
theorem Acts.lightsOk {L : List Effect} {s t : State} (h : Acts L s t) (hs : LightsOk s) : LightsOk t := by
  induction h with
  | refl => exact hs
  | event _ _ k ih => exact k.lightsOk ih
  | send k p _ _ ih => exact (loadSteps_sendTelegram k p _).lightsOk ih
  | raise _ _ ih => exact (loadSteps_raiseEvent _ _).lightsOk ih
  | write _ _ k ih => exact k.lightsOk ih
  | clear page _ _ ih => exact lightsOk_of_eq _ _ ih (clearPage_loads page _).2.1 (clearPage_params page _)

/-! ## The copies of the view's condition facts (R37) -/

theorem viewCopies_of_loadSteps {s t : State} (h : LoadSteps s t) : viewCopies t = viewCopies s := by
  have hwater := h.frame.water
  simp only [waterCore, Prod.mk.injEq] at hwater
  obtain ⟨⟨_, _, _, _, hmoving, hgrey⟩, _⟩ := hwater
  obtain ⟨_, hpeer, _⟩ := h.frame.lights
  unfold viewCopies
  rw [h.frame.motion, hmoving, hpeer, hgrey]

theorem LoadEvent.viewCopies {e : Effect} {s t : State} (h : LoadEvent e s t) :
    Machine.viewCopies t = Machine.viewCopies s := by
  obtain ⟨m, ⟨b, rfl, _⟩, hsteps⟩ := h.rebased_steps
  exact (viewCopies_of_loadSteps hsteps).trans rfl

theorem clearPage_motion (page : Nat) (s : State) :
    (clearPage page s).motion = { s.motion with actuatorFaults := (clearPage page s).motion.actuatorFaults } := by
  unfold clearPage
  split
  · rfl
  · split <;> rfl

theorem clearPage_peers (page : Nat) (s : State) :
    (clearPage page s).peers = { s.peers with peersLost := (clearPage page s).peers.peersLost } := by
  unfold clearPage
  split
  · rfl
  · split <;> rfl

/-- No copy of a fact changes without the peer table. -/
theorem Acts.viewCopies {L : List Effect} {s t : State} (h : Acts L s t) (hL : .writes .peers ∉ L) :
    Machine.viewCopies t = Machine.viewCopies s := by
  induction h with
  | refl => rfl
  | event _ _ k ih => exact k.viewCopies.trans ih
  | send k p _ _ ih => exact (viewCopies_of_loadSteps (loadSteps_sendTelegram k p _)).trans ih
  | raise _ _ ih => exact (viewCopies_of_loadSteps (loadSteps_raiseEvent _ _)).trans ih
  | write he _ k ih => exact (k.view fun hmem => hL (he _ hmem)).trans ih
  | clear page _ _ ih =>
    obtain ⟨_, hl, _, hw⟩ := clearPage_loads page ‹State›
    refine Eq.trans ?_ ih
    unfold Machine.viewCopies
    rw [clearPage_motion, hw, hl]

/-- The lights' own step-out changes only where both controllers are written. -/
theorem Acts.ownStep {L : List Effect} {s t : State} (h : Acts L s t) (hL : .writes .motion ∉ L ∨ .writes .light ∉ L) :
    t.light.ownStepOut = s.light.ownStepOut := by
  rcases hL with hL | hL
  · induction h with
    | refl => rfl
    | event _ _ k ih =>
      obtain ⟨_, hown, _⟩ := k.lightsKept
      exact hown.trans ih
    | send k p _ _ ih => exact (congrArg LightCtl.ownStepOut (sendTelegram_light k p _)).trans ih
    | raise _ _ ih =>
      obtain ⟨hown, _⟩ := (loadSteps_raiseEvent ‹Event› ‹State›).frame.lights
      exact hown.trans ih
    | write he _ k ih => exact (k.ownStep fun hmem => hL (he _ hmem)).trans ih
    | clear page _ _ ih => exact (congrArg LightCtl.ownStepOut (clearPage_loads page _).2.1).trans ih
  · obtain ⟨_, hown, _⟩ := h.lightsKept (fun e he => by
      cases e with
      | writes b => exact beq_eq_false_iff_ne.mpr fun hb => hL (hb ▸ he)
      | _ => rfl)
    exact hown

/-! ## The quantity facts and the table -/

/-- The quantity facts that the budget unit holds (R40). -/
def quantityFacts (b : Budget) : List PeerBank × Nat × Bool × PerClass Nat :=
  (b.peerBanks, b.supplySum, b.supplyKnown, b.claimSums)

theorem quantityFacts_of_sameBasis {b c : Budget} (h : sameBasis b c) : quantityFacts c = quantityFacts b := by
  obtain ⟨_, hbanks, hsum, hknown, hclaims, _⟩ := h
  unfold quantityFacts
  rw [hbanks, hsum, hknown, hclaims]

theorem quantityFacts_reevaluate (b : Budget) (s : State) :
    quantityFacts (reevaluate b s).budget = quantityFacts s.budget :=
  (quantityFacts_of_sameBasis (loadSteps_reevaluate b s).frame.basis).trans rfl

theorem handQuantities_facts (banks : List PeerBank) (supply : Nat) (known : Bool) (sums : PerClass Nat) (s : State) :
    quantityFacts (handQuantities banks supply known sums s).budget = (banks, supply, known, sums) :=
  (quantityFacts_reevaluate _ _).trans rfl

theorem LoadEvent.quantityFacts {e : Effect} {s t : State} (h : LoadEvent e s t) (he : e ≠ .quantities) :
    Machine.quantityFacts t.budget = Machine.quantityFacts s.budget := by
  cases h with
  | ask i _ _ => exact quantityFacts_of_sameBasis (loadSteps_ask i s).frame.basis
  | release i => exact quantityFacts_of_sameBasis (loadSteps_release i s).frame.basis
  | askRetraction a => exact quantityFacts_of_sameBasis (loadSteps_askRetraction _ s).frame.basis
  | askExtension a => exact quantityFacts_of_sameBasis (loadSteps_askExtension _ s).frame.basis
  | ownBank o => exact (quantityFacts_reevaluate _ _).trans rfl
  | quantities => exact absurd rfl he
  | dwell => exact quantityFacts_of_sameBasis (loadSteps_dwellExpires s).frame.basis
  | hold i _ _ => exact quantityFacts_of_sameBasis (loadSteps_holdExpires i s).frame.basis
  | gate => exact (quantityFacts_of_sameBasis (loadSteps_settle _ _ _).frame.basis).trans rfl
  | claim => exact quantityFacts_of_sameBasis (loadSteps_queueClaim s).frame.basis

theorem quantityFacts_clearPage (page : Nat) (s : State) :
    quantityFacts (clearPage page s).budget = quantityFacts s.budget := by
  unfold clearPage
  split
  · rfl
  · split <;> rfl

theorem Acts.quantityFacts {L : List Effect} {s t : State} (h : Acts L s t) (hL : .quantities ∉ L) :
    Machine.quantityFacts t.budget = Machine.quantityFacts s.budget := by
  induction h with
  | refl => rfl
  | event he _ k ih => exact (k.quantityFacts fun h' => hL (h' ▸ he)).trans ih
  | send k p _ _ ih => exact (congrArg _ (sendTelegram_budget k p _)).trans ih
  | raise _ _ ih => rw [raiseEvent_budget]; exact ih
  | write _ _ k ih => rw [k.budget]; exact ih
  | clear page _ _ ih => exact (quantityFacts_clearPage page _).trans ih

/-- The peer table, its counter apart. -/
def peersCore (p : Peers) : List PeerEntry × VehicleState × Bool × Bool :=
  (p.entries, p.lastVehicle, p.lastStepOut, p.lastGreyFull)

theorem LoadEvent.peers {e : Effect} {s t : State} (h : LoadEvent e s t) : t.peers = s.peers := by
  obtain ⟨m, ⟨b, rfl, _⟩, hsteps⟩ := h.rebased_steps
  exact hsteps.frame.peers

theorem Acts.peersCore {L : List Effect} {s t : State} (h : Acts L s t) (hL : .writes .peers ∉ L) :
    Machine.peersCore t.peers = Machine.peersCore s.peers := by
  induction h with
  | refl => rfl
  | event _ _ k ih => exact (congrArg _ k.peers).trans ih
  | send k p _ _ ih => exact (congrArg _ (sendTelegram_blockSame k p _ (b := .peers) (by decide))).trans ih
  | raise _ _ ih => exact (congrArg _ (raiseEvent_blockSame _ _ (b := .peers) (by decide))).trans ih
  | write he _ k ih => exact (congrArg _ (k.frame .peers fun hmem => hL (he _ hmem))).trans ih
  | clear page _ _ ih =>
    refine Eq.trans ?_ ih
    rw [clearPage_peers]
    rfl

/-! ## The account -/

theorem Acts.bank {L : List Effect} {s t : State} (h : Acts L s t) (hL : .writes .bank ∉ L) : t.bank = s.bank := by
  refine h.blockSame (b := .bank) fun e he hmem => ?_
  cases e with
  | writes b =>
    obtain rfl := List.mem_singleton.mp hmem
    exact hL he
  | _ => exact absurd hmem (by simp only [Effect.touched]; decide)

end Sys2Proof.Machine

/-! The peer table through arrivals, ageing and removals: its order and bounds, and the view its consumers hold. -/

namespace Sys2Proof.Machine

-- As in the tests, so that no command needs threads of its own.
set_option Elab.async false

/-! ## The facts of a list of entries (R32 to R36) -/

/-- The quantity facts of the entries (R32 to R34). -/
def quantitiesOf (l : List PeerEntry) : List PeerBank × Nat × Bool × PerClass Nat :=
  (peerBanks l, supplySum l, supplyKnown l, claimSums l)

/-- The condition facts of the entries (R35, R36). -/
def conditionsOf (l : List PeerEntry) : VehicleState × Bool × Bool := (vehicleState l, peerStepOut l, peerGreyFull l)

theorem quantitiesOf_map {g : PeerEntry → PeerEntry} (l : List PeerEntry)
    (h : ∀ e, (g e).station = e.station ∧ (g e).claim = e.claim ∧ (g e).battery = e.battery ∧ (g e).supply = e.supply) :
    quantitiesOf (l.map g) = quantitiesOf l := by
  have hbank (e : PeerEntry) : peerBankOf (g e) = peerBankOf e := by
    obtain ⟨hstation, _, hbattery, _⟩ := h e
    unfold peerBankOf
    rw [hstation, hbattery]
  have hclaim (e : PeerEntry) : (g e).claim = e.claim := (h e).2.1
  have hsupply (e : PeerEntry) : (g e).supply = e.supply := (h e).2.2.2
  simp only [quantitiesOf, peerBanks, supplySum, supplyKnown, claimSums, claimSum, List.filterMap_map, List.map_map,
    List.any_map, Function.comp_def, hbank, hclaim, hsupply]

theorem conditionsOf_map {g : PeerEntry → PeerEntry} (l : List PeerEntry)
    (h : ∀ e, (g e).vehicle = e.vehicle ∧ (g e).motion = e.motion ∧ (g e).tanks = e.tanks) :
    conditionsOf (l.map g) = conditionsOf l := by
  have hvehicle (e : PeerEntry) : (g e).vehicle = e.vehicle := (h e).1
  have hmotion (e : PeerEntry) : (g e).motion = e.motion := (h e).2.1
  have htanks (e : PeerEntry) : (g e).tanks = e.tanks := (h e).2.2
  simp only [conditionsOf, vehicleState, peerStepOut, peerGreyFull, List.filterMap_map, List.any_map,
    Function.comp_def, hvehicle, hmotion, htanks]

theorem insertPeer_split (e : PeerEntry) (l : List PeerEntry) :
    ∃ front back, l = front ++ back ∧ insertPeer e l = front ++ e :: back :=
  ⟨_, _, (List.takeWhile_append_dropWhile).symm, rfl⟩

/-- A new entry, which has no parts, brings no fact. -/
theorem quantitiesOf_insertPeer (n : Station) (l : List PeerEntry) :
    quantitiesOf (insertPeer (newPeer n) l) = quantitiesOf l := by
  obtain ⟨front, back, hl, hinsert⟩ := insertPeer_split (newPeer n) l
  have hbank : peerBankOf (newPeer n) = none := rfl
  have hsupply : (newPeer n).supply = none := rfl
  have hclaim : (newPeer n).claim = none := rfl
  rw [hinsert, hl]
  simp [quantitiesOf, peerBanks, supplySum, supplyKnown, claimSums, claimSum, hbank, hsupply, hclaim]

theorem conditionsOf_insertPeer (n : Station) (l : List PeerEntry) :
    conditionsOf (insertPeer (newPeer n) l) = conditionsOf l := by
  obtain ⟨front, back, hl, hinsert⟩ := insertPeer_split (newPeer n) l
  rw [hinsert, hl]
  simp [conditionsOf, vehicleState, peerStepOut, peerGreyFull, newPeer]

/-! ## The order of the table (R23) -/

/-- The table's entries are in order of station number, at most 14, and none is for 0 or for one station. -/
def TableSound (own : Station) (l : List PeerEntry) : Prop :=
  l.length ≤ 14 ∧ l.Pairwise (fun a b => a.station.toNat < b.station.toNat)
  ∧ ∀ e ∈ l, e.station ≠ 0#4 ∧ e.station ≠ own

theorem TableSound.map {own : Station} {l : List PeerEntry} {g : PeerEntry → PeerEntry} (h : TableSound own l)
    (hg : ∀ e, (g e).station = e.station) : TableSound own (l.map g) := by
  obtain ⟨hlength, hsorted, hstations⟩ := h
  refine ⟨by rw [List.length_map]; exact hlength, ?_, fun e he => ?_⟩
  · rw [List.pairwise_map]
    exact hsorted.imp fun hab => by rw [hg, hg]; exact hab
  · obtain ⟨x, hx, rfl⟩ := List.mem_map.mp he
    rw [hg]
    exact hstations x hx

theorem TableSound.filter {own : Station} {l : List PeerEntry} (h : TableSound own l) (p : PeerEntry → Bool) :
    TableSound own (l.filter p) := by
  obtain ⟨hlength, hsorted, hstations⟩ := h
  exact ⟨(List.length_filter_le p l).trans hlength, hsorted.filter p, fun e he => hstations e (List.mem_of_mem_filter he)⟩

theorem findPeer_eq_none {n : Station} {l : List PeerEntry} : findPeer n l = none ↔ ∀ e ∈ l, e.station ≠ n := by
  unfold findPeer
  simp

theorem mem_of_findPeer {n : Station} {l : List PeerEntry} {e : PeerEntry} (h : findPeer n l = some e) :
    e ∈ l ∧ e.station = n :=
  ⟨List.mem_of_find?_eq_some h, by simpa using List.find?_some h⟩

/-- Beyond the place of a new entry every entry has a higher number. -/
theorem lt_of_mem_dropWhile {n : Nat} {l : List PeerEntry} (hsorted : l.Pairwise (fun a b => a.station.toNat < b.station.toNat))
    (hn : ∀ e ∈ l, e.station.toNat ≠ n) {e : PeerEntry}
    (he : e ∈ l.dropWhile fun x => decide (x.station.toNat < n)) : n < e.station.toNat := by
  induction l with
  | nil => exact absurd he (List.not_mem_nil)
  | cons x l ih =>
    obtain ⟨hx, hl⟩ := List.pairwise_cons.mp hsorted
    rw [List.dropWhile_cons] at he
    split at he
    · exact ih hl (fun e' he' => hn e' (List.mem_cons_of_mem _ he')) he
    · next hge =>
      have hgt : n < x.station.toNat := by
        have := hn x List.mem_cons_self
        simp only [decide_eq_true_eq] at hge
        omega
      rcases List.mem_cons.mp he with rfl | he
      · exact hgt
      · exact hgt.trans (hx e he)

theorem TableSound.insert {own n : Station} {l : List PeerEntry} (h : TableSound own l) (hroom : l.length < 14)
    (hnew : findPeer n l = none) (h0 : n ≠ 0#4) (hown : n ≠ own) : TableSound own (insertPeer (newPeer n) l) := by
  obtain ⟨_, hsorted, hstations⟩ := h
  have hne : ∀ e ∈ l, e.station.toNat ≠ n.toNat := fun e he h' =>
    findPeer_eq_none.mp hnew e he (BitVec.eq_of_toNat_eq h')
  have hsplit : (l.takeWhile fun x => decide (x.station.toNat < n.toNat))
      ++ (l.dropWhile fun x => decide (x.station.toNat < n.toNat)) = l := List.takeWhile_append_dropWhile
  have hbelow : ∀ e ∈ l.takeWhile fun x => decide (x.station.toNat < n.toNat), e.station.toNat < n.toNat :=
    fun e he => by simpa using List.mem_takeWhile_imp he
  have habove : ∀ e ∈ l.dropWhile fun x => decide (x.station.toNat < n.toNat), n.toNat < e.station.toNat :=
    fun e he => lt_of_mem_dropWhile hsorted hne he
  have hinsert : insertPeer (newPeer n) l = (l.takeWhile fun x => decide (x.station.toNat < n.toNat))
      ++ newPeer n :: (l.dropWhile fun x => decide (x.station.toNat < n.toNat)) := rfl
  generalize (l.takeWhile fun x => decide (x.station.toNat < n.toNat)) = front at hsplit hbelow hinsert
  generalize (l.dropWhile fun x => decide (x.station.toNat < n.toNat)) = back at hsplit habove hinsert
  rw [← hsplit] at hsorted hstations hroom
  obtain ⟨hfront, hback, hcross⟩ := List.pairwise_append.mp hsorted
  rw [hinsert]
  refine ⟨?_, List.pairwise_append.mpr ⟨hfront, List.pairwise_cons.mpr ⟨habove, hback⟩, fun a ha b hb => ?_⟩, fun e he => ?_⟩
  · simp only [List.length_append, List.length_cons] at hroom ⊢
    omega
  · rcases List.mem_cons.mp hb with rfl | hb
    · exact hbelow a ha
    · exact hcross a ha b hb
  · rcases List.mem_append.mp he with he | he
    · exact hstations e (List.mem_append_left _ he)
    · rcases List.mem_cons.mp he with rfl | he
      · exact ⟨h0, hown⟩
      · exact hstations e (List.mem_append_right _ he)

/-! ## Hearing -/

theorem fillPart_station (k : Option Kind) (b : List Byte) (e : PeerEntry) : (fillPart k b e).station = e.station := by
  unfold fillPart
  split <;> rfl

theorem hearPeer_station (k : Option Kind) (b : List Byte) (e : PeerEntry) : (hearPeer k b e).station = e.station :=
  fillPart_station k b _

theorem fillPart_quantities {k : Option Kind} (h : feedsQuantities k = false) (b : List Byte) (e : PeerEntry) :
    (fillPart k b e).claim = e.claim ∧ (fillPart k b e).battery = e.battery ∧ (fillPart k b e).supply = e.supply := by
  unfold fillPart
  split
  · cases h
  · cases h
  · cases h
  all_goals exact ⟨rfl, rfl, rfl⟩

theorem hearPeer_quantities {k : Option Kind} (h : feedsQuantities k = false) (b : List Byte) (e : PeerEntry) :
    (hearPeer k b e).claim = e.claim ∧ (hearPeer k b e).battery = e.battery ∧ (hearPeer k b e).supply = e.supply :=
  fillPart_quantities h b { e with silence := 0, stale := false }

theorem fillPart_of_no_part {k : Option Kind} (h : fillsPart k = false) (b : List Byte) (e : PeerEntry) : fillPart k b e = e := by
  unfold fillPart
  split
  all_goals first | cases h | rfl

/-- The change of an entry, made on every entry of the list. -/
def onPeer (n : Station) (f : PeerEntry → PeerEntry) (e : PeerEntry) : PeerEntry := if e.station = n then f e else e

theorem onPeer_keeps {α : Type} (view : PeerEntry → α) {n : Station} {f : PeerEntry → PeerEntry}
    (h : ∀ e, view (f e) = view e) (e : PeerEntry) : view (onPeer n f e) = view e := by
  unfold onPeer
  split
  · exact h e
  · rfl

/-! ## The view of a running part (R32 to R37) -/

/-- The consumers of the view hold the facts of the entries. -/
structure ViewSound (s : State) : Prop where
  quantities : quantityFacts s.budget = quantitiesOf s.peers.entries
  lasts : (s.peers.lastVehicle, s.peers.lastStepOut, s.peers.lastGreyFull) = conditionsOf s.peers.entries
  copies : viewCopies s
    = (s.peers.lastVehicle, movingFlag s.peers.lastVehicle, s.peers.lastStepOut, s.peers.lastGreyFull)

theorem viewOk_iff (s : State) : ViewOk s ↔ ViewSound s ∧ s.light.ownStepOut = ownStepOut s := by
  constructor
  · rintro ⟨h1, h2, h3, h4, h5, h6, h7, h8, h9, h10, h11, hown⟩
    refine ⟨⟨?_, ?_, ?_⟩, hown⟩
    · rw [quantityFacts, h1, h2, h3, h4, quantitiesOf]
    · rw [h5, h6, h7, conditionsOf]
    · rw [viewCopies, h8, h9, h10, h11]
  · rintro ⟨⟨hq, hl, hc⟩, hown⟩
    simp only [quantityFacts, quantitiesOf, Prod.mk.injEq] at hq
    simp only [conditionsOf, Prod.mk.injEq] at hl
    simp only [viewCopies, Prod.mk.injEq] at hc
    obtain ⟨h1, h2, h3, h4⟩ := hq
    obtain ⟨h5, h6, h7⟩ := hl
    obtain ⟨h8, h9, h10, h11⟩ := hc
    exact ⟨h1, h2, h3, h4, h5, h6, h7, h8, h9, h10, h11, hown⟩

theorem ViewSound.congr {s t : State} (h : ViewSound s) (hq : quantityFacts t.budget = quantityFacts s.budget)
    (hp : peersCore t.peers = peersCore s.peers) (hc : viewCopies t = viewCopies s) : ViewSound t := by
  simp only [peersCore, Prod.mk.injEq] at hp
  obtain ⟨hentries, hvehicle, hstep, hgrey⟩ := hp
  obtain ⟨h1, h2, h3⟩ := h
  exact ⟨by rw [hq, hentries, h1], by rw [hvehicle, hstep, hgrey, hentries, h2], by rw [hc, hvehicle, hstep, hgrey, h3]⟩

/-- A chain of acts that does not write the peer table keeps the view. -/
theorem Acts.viewSound {L : List Effect} {s t : State} (h : Acts L s t) (hs : ViewSound s) (hp : .writes .peers ∉ L)
    (hq : .quantities ∉ L) : ViewSound t :=
  hs.congr (h.quantityFacts hq) (h.peersCore hp) (h.viewCopies hp)

/-! ## Handing the condition facts on (R37) -/

/-- What the handing on of condition facts leaves: the entries and the quantity facts. -/
def SameFacts (s t : State) : Prop := quantityFacts t.budget = quantityFacts s.budget ∧ t.peers.entries = s.peers.entries

theorem SameFacts.trans {s t u : State} (h : SameFacts s t) (k : SameFacts t u) : SameFacts s u :=
  ⟨k.1.trans h.1, k.2.trans h.2⟩

theorem Acts.sameFacts {L : List Effect} {s t : State} (h : Acts L s t) (hp : .writes .peers ∉ L)
    (hq : .quantities ∉ L) : SameFacts s t :=
  ⟨h.quantityFacts hq, congrArg Prod.fst (h.peersCore hp)⟩

theorem acts_handVehicle_after (v : VehicleState) (s : State) :
    Acts vehicleEffects (s.setMotion { s.motion with vehicle := v }) (handVehicle v s) := by
  unfold handVehicle
  simp only
  split
  · exact acts_interlockRise _
  · split
    · exact (acts_interlockHolds _).mono (by decide)
    · exact .refl

/-- The copies and the facts last handed on, before each of the three. -/
def Copied (s : State) : Prop :=
  viewCopies s = (s.peers.lastVehicle, movingFlag s.peers.lastVehicle, s.peers.lastStepOut, s.peers.lastGreyFull)

theorem copied_of_acts {L : List Effect} {s t : State} (h : Acts L s t) (hp : .writes .peers ∉ L) (hs : Copied s) :
    Copied t := by
  have hcore := h.peersCore hp
  simp only [peersCore, Prod.mk.injEq] at hcore
  obtain ⟨_, hvehicle, hstep, hgrey⟩ := hcore
  unfold Copied at hs ⊢
  rw [h.viewCopies hp, hvehicle, hstep, hgrey, hs]

theorem handVehicleFact_view {s : State} (h : Copied s) : SameFacts s (handVehicleFact s) ∧ Copied (handVehicleFact s)
    ∧ peersCore (handVehicleFact s).peers
      = (s.peers.entries, vehicleState s.peers.entries, s.peers.lastStepOut, s.peers.lastGreyFull) := by
  unfold handVehicleFact
  simp only
  generalize hv : vehicleState s.peers.entries = v
  split
  · next heq =>
    refine ⟨⟨rfl, rfl⟩, h, ?_⟩
    rw [heq]
    rfl
  · have hacts := acts_handVehicle_after v (s.setPeers { s.peers with lastVehicle := v })
    generalize handVehicle v (s.setPeers { s.peers with lastVehicle := v }) = t at hacts
    have hsame : SameFacts s t := SameFacts.trans ⟨rfl, rfl⟩ (hacts.sameFacts (by decide) (by decide))
    have hcore : peersCore t.peers = (s.peers.entries, v, s.peers.lastStepOut, s.peers.lastGreyFull) :=
      hacts.peersCore (by decide)
    have hcopies := hacts.viewCopies (by decide)
    simp only [viewCopies, State.setMotion_motion, State.setMotion_water, State.setMotion_light, State.setPeers_water,
      State.setPeers_light, Prod.mk.injEq] at hcopies
    obtain ⟨hvehicle, hmoving, hstep, hgrey⟩ := hcopies
    simp only [Copied, viewCopies, Prod.mk.injEq] at h
    obtain ⟨_, hmoved, hstepped, hgreyed⟩ := h
    have hcore' := hcore
    simp only [peersCore, Prod.mk.injEq] at hcore'
    obtain ⟨_, hlast, hlastStep, hlastGrey⟩ := hcore'
    split
    · next hflag =>
      refine ⟨hsame, ?_, hcore⟩
      unfold Copied viewCopies
      rw [hvehicle, hmoving, hstep, hgrey, hmoved, hstepped, hgreyed, hlast, hlastStep, hlastGrey, hflag]
    · refine ⟨hsame, ?_, hcore⟩
      have hset : viewCopies (handMoving (movingFlag v) t)
          = (t.motion.vehicle, movingFlag v, t.light.peerStepOut, t.water.peerGreyFull) := rfl
      have hpeers : (handMoving (movingFlag v) t).peers = t.peers := rfl
      unfold Copied
      rw [hset, hpeers, hvehicle, hstep, hgrey, hstepped, hgreyed, hlast, hlastStep, hlastGrey]

theorem handStepFact_view {s : State} (h : Copied s) : SameFacts s (handStepFact s) ∧ Copied (handStepFact s)
    ∧ peersCore (handStepFact s).peers
      = (s.peers.entries, s.peers.lastVehicle, peerStepOut s.peers.entries, s.peers.lastGreyFull) := by
  unfold handStepFact
  simp only
  generalize peerStepOut s.peers.entries = f
  split
  · next heq =>
    refine ⟨⟨rfl, rfl⟩, h, ?_⟩
    rw [heq]
    rfl
  · unfold handPeerStepOut
    simp only [Copied, viewCopies, Prod.mk.injEq] at h
    obtain ⟨hvehicle, hmoved, hstepped, hgreyed⟩ := h
    generalize hmdef : (s.setPeers { s.peers with lastStepOut := f }).setLight
      { (s.setPeers { s.peers with lastStepOut := f }).light with peerStepOut := f } = m
    have hsame : SameFacts s m := by
      rw [← hmdef]
      exact ⟨rfl, rfl⟩
    have hm : Copied m := by
      rw [← hmdef]
      show (s.motion.vehicle, s.water.moving, f, s.water.peerGreyFull)
        = (s.peers.lastVehicle, movingFlag s.peers.lastVehicle, f, s.peers.lastGreyFull)
      rw [hvehicle, hmoved, hgreyed]
    have hcore : peersCore m.peers = (s.peers.entries, s.peers.lastVehicle, f, s.peers.lastGreyFull) := by
      rw [← hmdef]
      rfl
    have hacts := acts_evalChannels m
    generalize evalChannels m = w at hacts
    exact ⟨hsame.trans (hacts.sameFacts (by decide) (by decide)), copied_of_acts hacts (by decide) hm,
      (hacts.peersCore (by decide)).trans hcore⟩

theorem handGreyFact_view {s : State} (h : Copied s) : SameFacts s (handGreyFact s) ∧ Copied (handGreyFact s)
    ∧ peersCore (handGreyFact s).peers
      = (s.peers.entries, s.peers.lastVehicle, s.peers.lastStepOut, peerGreyFull s.peers.entries) := by
  unfold handGreyFact
  simp only
  generalize peerGreyFull s.peers.entries = f
  split
  · next heq =>
    refine ⟨⟨rfl, rfl⟩, h, ?_⟩
    rw [heq]
    rfl
  · unfold handGreyFull
    simp only [Copied, viewCopies, Prod.mk.injEq] at h
    obtain ⟨hvehicle, hmoved, hstepped, hgreyed⟩ := h
    generalize hmdef : (s.setPeers { s.peers with lastGreyFull := f }).setWater
      { (s.setPeers { s.peers with lastGreyFull := f }).water with peerGreyFull := f } = m
    have hsame : SameFacts s m := by
      rw [← hmdef]
      exact ⟨rfl, rfl⟩
    have hm : Copied m := by
      rw [← hmdef]
      show (s.motion.vehicle, s.water.moving, s.light.peerStepOut, f)
        = (s.peers.lastVehicle, movingFlag s.peers.lastVehicle, s.peers.lastStepOut, f)
      rw [hvehicle, hmoved, hstepped]
    have hcore : peersCore m.peers = (s.peers.entries, s.peers.lastVehicle, s.peers.lastStepOut, f) := by
      rw [← hmdef]
      rfl
    have hacts := acts_evalPump m
    generalize evalPump m = w at hacts
    exact ⟨hsame.trans (hacts.sameFacts (by decide) (by decide)), copied_of_acts hacts (by decide) hm,
      (hacts.peersCore (by decide)).trans hcore⟩

/-- The condition facts handed on complete the view. -/
theorem viewSound_handConditions {s : State} (hq : quantityFacts s.budget = quantitiesOf s.peers.entries) (hc : Copied s) :
    ViewSound (handConditions s) ∧ (handConditions s).peers.entries = s.peers.entries := by
  unfold handConditions
  obtain ⟨hsame1, hcopied1, hcore1⟩ := handVehicleFact_view hc
  generalize handVehicleFact s = t at hsame1 hcopied1 hcore1
  obtain ⟨hsame2, hcopied2, hcore2⟩ := handStepFact_view hcopied1
  generalize handStepFact t = u at hsame2 hcopied2 hcore2
  obtain ⟨hsame3, hcopied3, hcore3⟩ := handGreyFact_view hcopied2
  generalize handGreyFact u = v at hsame3 hcopied3 hcore3
  have hsame := (hsame1.trans hsame2).trans hsame3
  have hentriesU : u.peers.entries = s.peers.entries := (hsame1.trans hsame2).2
  simp only [peersCore, Prod.mk.injEq] at hcore1 hcore2 hcore3
  obtain ⟨hentriesT, hvehicle1, _⟩ := hcore1
  obtain ⟨_, hvehicle2, hstep2, _⟩ := hcore2
  obtain ⟨_, hvehicle3, hstep3, hgrey3⟩ := hcore3
  refine ⟨⟨?_, ?_, hcopied3⟩, hsame.2⟩
  · rw [hsame.1, hq, hsame.2]
  · rw [hvehicle3, hvehicle2, hvehicle1, hstep3, hstep2, hgrey3, hentriesU, hentriesT, hsame.2]
    rfl

end Sys2Proof.Machine

/-! The peer table and the view's consumers by every command: entries in order, and every consumer at the facts of the
entries. -/

namespace Sys2Proof.Machine

-- As in the tests, so that no command needs threads of its own.
set_option Elab.async false

/-- The table is in order, and every consumer of the view holds the facts of its entries. -/
def PeersIn (s : State) : Prop := TableSound s.boot.station s.peers.entries ∧ ViewSound s

theorem Acts.peersIn {L : List Effect} {s t : State} (h : Acts L s t) (hs : PeersIn s)
    (hp : .writes .peers ∉ L := by decide) (hq : .quantities ∉ L := by decide) : PeersIn t := by
  have hentries : t.peers.entries = s.peers.entries := (h.sameFacts hp hq).2
  exact ⟨by rw [h.station, hentries]; exact hs.1, h.viewSound hs.2 hp hq⟩

/-! ## The view handed on -/

/-- Whatever the budget unit and the consumers held, the handing on of all facts brings them to the entries. -/
theorem viewSound_handOn {s : State} (hc : Copied s) : ViewSound (handConditions (handQuantityFacts s))
    ∧ (handConditions (handQuantityFacts s)).peers.entries = s.peers.entries := by
  have hfacts : quantityFacts (handQuantityFacts s).budget = quantitiesOf s.peers.entries :=
    handQuantities_facts _ _ _ _ s
  have hacts : Acts [.quantities] s (handQuantityFacts s) := LoadEvent.acts (.quantities _ _ _ _ s)
  generalize handQuantityFacts s = t at hfacts hacts
  have hentries : t.peers.entries = s.peers.entries := congrArg Prod.fst (hacts.peersCore (by decide))
  obtain ⟨hview, hkept⟩ := viewSound_handConditions (s := t) (hfacts.trans (by rw [hentries]))
    (copied_of_acts hacts (by decide) hc)
  exact ⟨hview, hkept.trans hentries⟩

theorem copied_setEntries {s : State} (hc : Copied s) (l : List PeerEntry) :
    Copied (s.setPeers { s.peers with entries := l }) := hc

/-- The table after a removal, before the view is handed on. -/
def dropped (e : PeerEntry) (s : State) : State :=
  if losesPeer e then countLost (raiseEvent .peerLost (s.setPeers { s.peers with entries := dropPeer e.station s.peers.entries }))
  else s.setPeers { s.peers with entries := dropPeer e.station s.peers.entries }

theorem removePeer_eq (e : PeerEntry) (s : State) :
    removePeer e s = handConditions (handQuantityFacts (dropped e s)) := rfl

theorem dropped_peers (e : PeerEntry) (s : State) : peersCore (dropped e s).peers
    = (dropPeer e.station s.peers.entries, s.peers.lastVehicle, s.peers.lastStepOut, s.peers.lastGreyFull) := by
  unfold dropped
  split
  · exact ((acts_raiseEvent .peerLost _).peersCore (by decide)).trans rfl
  · rfl

theorem dropped_copies (e : PeerEntry) (s : State) : viewCopies (dropped e s) = viewCopies s := by
  unfold dropped
  split
  · exact ((acts_raiseEvent .peerLost _).viewCopies (by decide)).trans rfl
  · rfl

theorem removePeer_entries_view {s : State} (hc : Copied s) (e : PeerEntry) :
    ViewSound (removePeer e s) ∧ (removePeer e s).peers.entries = dropPeer e.station s.peers.entries := by
  have hcore := dropped_peers e s
  have hcopies := dropped_copies e s
  rw [removePeer_eq]
  generalize dropped e s = t at hcore hcopies
  simp only [peersCore, Prod.mk.injEq] at hcore
  obtain ⟨hentries, hvehicle, hstep, hgrey⟩ := hcore
  have ht : Copied t := by
    unfold Copied at hc ⊢
    rw [hcopies, hvehicle, hstep, hgrey]
    exact hc
  obtain ⟨hview, hkept⟩ := viewSound_handOn ht
  exact ⟨hview, hkept.trans hentries⟩

theorem removePeer_station (e : PeerEntry) (s : State) : (removePeer e s).boot.station = s.boot.station :=
  (acts_removePeer e s).station

theorem peersIn_removePeer {s : State} (hs : PeersIn s) (e : PeerEntry) : PeersIn (removePeer e s) := by
  obtain ⟨hview, hentries⟩ := removePeer_entries_view hs.2.copies e
  refine ⟨?_, hview⟩
  rw [removePeer_station, hentries]
  exact hs.1.filter _

theorem peersIn_expirePeer {s : State} (hs : PeersIn s) (n : Station) : PeersIn (expirePeer n s) := by
  unfold expirePeer
  split
  · exact hs
  · split
    · exact peersIn_removePeer hs _
    · exact hs

/-- A write of entries that keeps their order and their facts. -/
theorem peersIn_setEntries {s : State} (hs : PeersIn s) {l : List PeerEntry} (htable : TableSound s.boot.station l)
    (hq : quantitiesOf l = quantitiesOf s.peers.entries) (hc : conditionsOf l = conditionsOf s.peers.entries) :
    PeersIn (s.setPeers { s.peers with entries := l }) := by
  obtain ⟨_, hquantities, hlasts, hcopies⟩ := hs
  exact ⟨htable, hquantities.trans hq.symm, hlasts.trans hc.symm, hcopies⟩

/-- An entry whose silence timer has reached its end becomes STALE (R28). -/
def staleIfSilent (e : PeerEntry) : PeerEntry := if Config.staleMs ≤ e.silence then { e with stale := true } else e

theorem goStale_eq (n : Station) (s : State) :
    goStale n s = s.setPeers { s.peers with entries := s.peers.entries.map (onPeer n staleIfSilent) } := rfl

theorem staleIfSilent_keeps {α : Type} (view : PeerEntry → α) (h : ∀ e : PeerEntry, view { e with stale := true } = view e)
    (e : PeerEntry) : view (staleIfSilent e) = view e := by
  unfold staleIfSilent
  split
  · exact h e
  · rfl

theorem peersIn_goStale {s : State} (hs : PeersIn s) (n : Station) : PeersIn (goStale n s) := by
  have hkeeps {α : Type} (view : PeerEntry → α) (h : ∀ e : PeerEntry, view { e with stale := true } = view e)
      (e : PeerEntry) : view (onPeer n staleIfSilent e) = view e := onPeer_keeps view (staleIfSilent_keeps view h) e
  rw [goStale_eq]
  refine peersIn_setEntries hs (hs.1.map (hkeeps PeerEntry.station fun _ => rfl)) (quantitiesOf_map _ fun e => ?_)
    (conditionsOf_map _ fun e => ?_)
  · exact ⟨hkeeps PeerEntry.station (fun _ => rfl) e, hkeeps PeerEntry.claim (fun _ => rfl) e,
      hkeeps PeerEntry.battery (fun _ => rfl) e, hkeeps PeerEntry.supply (fun _ => rfl) e⟩
  · exact ⟨hkeeps PeerEntry.vehicle (fun _ => rfl) e, hkeeps PeerEntry.motion (fun _ => rfl) e,
      hkeeps PeerEntry.tanks (fun _ => rfl) e⟩

/-! ## Arrivals -/

theorem peersIn_makeRoom {s : State} (hs : PeersIn s) : PeersIn (makeRoom s) := by
  unfold makeRoom
  split
  · exact hs
  · split
    · exact peersIn_removePeer hs _
    · exact hs

theorem findPeer_makeRoom {n : Station} {s : State} (hs : PeersIn s) (h : findPeer n s.peers.entries = none) :
    findPeer n (makeRoom s).peers.entries = none := by
  unfold makeRoom
  split
  · exact h
  · split
    · next e _ =>
      rw [(removePeer_entries_view hs.2.copies e).2]
      exact findPeer_eq_none.mpr fun x hx => findPeer_eq_none.mp h x (List.mem_of_mem_filter hx)
    · exact h

theorem makeRoom_station (s : State) : (makeRoom s).boot.station = s.boot.station := (acts_makeRoom s).station

theorem withPeer_of_new {n : Station} {s : State} (h : findPeer n s.peers.entries = none) : withPeer n s =
    if (makeRoom s).peers.entries.length < 14 then
      (makeRoom s).setPeers { (makeRoom s).peers with entries := insertPeer (newPeer n) (makeRoom s).peers.entries }
    else makeRoom s := by
  unfold withPeer
  rw [h]

theorem withPeer_of_known {n : Station} {s : State} {e : PeerEntry} (h : findPeer n s.peers.entries = some e) :
    withPeer n s = s := by
  unfold withPeer
  rw [h]

theorem peersIn_withPeer {s : State} (hs : PeersIn s) {n : Station} (h0 : n ≠ 0#4) (hown : n ≠ s.boot.station) :
    PeersIn (withPeer n s) := by
  cases hfind : findPeer n s.peers.entries with
  | some e =>
    rw [withPeer_of_known hfind]
    exact hs
  | none =>
    rw [withPeer_of_new hfind]
    have hroom := peersIn_makeRoom hs
    have hnew := findPeer_makeRoom hs hfind
    have hstation := makeRoom_station s
    generalize makeRoom s = t at hroom hnew hstation
    split
    · next hlt =>
      exact peersIn_setEntries hroom (hroom.1.insert hlt hnew h0 (by rw [hstation]; exact hown))
        (quantitiesOf_insertPeer n _) (conditionsOf_insertPeer n _)
    · exact hroom

theorem peersIn_peerArrival {s : State} (hs : PeersIn s) {n : Station} (h0 : n ≠ 0#4) (hown : n ≠ s.boot.station)
    (k : Option Kind) (b : List Byte) : PeersIn (peerArrival n k b s) := by
  have hwith := peersIn_withPeer hs h0 hown
  unfold peerArrival
  simp only
  generalize withPeer n s = t at hwith
  split
  · exact hwith
  have htable : TableSound t.boot.station (mapPeer n (hearPeer k b) t.peers.entries) :=
    hwith.1.map (onPeer_keeps PeerEntry.station (hearPeer_station k b))
  have hquantities (hfeeds : feedsQuantities k = false) :
      quantitiesOf (mapPeer n (hearPeer k b) t.peers.entries) = quantitiesOf t.peers.entries :=
    quantitiesOf_map _ fun e => ⟨onPeer_keeps PeerEntry.station (hearPeer_station k b) e,
      onPeer_keeps PeerEntry.claim (fun e => (hearPeer_quantities hfeeds b e).1) e,
      onPeer_keeps PeerEntry.battery (fun e => (hearPeer_quantities hfeeds b e).2.1) e,
      onPeer_keeps PeerEntry.supply (fun e => (hearPeer_quantities hfeeds b e).2.2) e⟩
  have hcopied : Copied (t.setPeers { t.peers with entries := mapPeer n (hearPeer k b) t.peers.entries }) :=
    copied_setEntries hwith.2.copies _
  have hbudget : quantityFacts (t.setPeers { t.peers with entries := mapPeer n (hearPeer k b) t.peers.entries }).budget
      = quantitiesOf t.peers.entries := hwith.2.quantities
  unfold handAfterArrival
  split
  · have hstation := (acts_handAfterArrival k
      (t.setPeers { t.peers with entries := mapPeer n (hearPeer k b) t.peers.entries })).station
    unfold handAfterArrival at hstation
    rw [if_pos ‹fillsPart k = true›] at hstation
    split at hstation
    · next hfeeds =>
      rw [if_pos hfeeds]
      obtain ⟨hview, hentries⟩ := viewSound_handOn hcopied
      refine ⟨?_, hview⟩
      rw [hstation, hentries]
      exact htable
    · next hfeeds =>
      rw [if_neg hfeeds]
      obtain ⟨hview, hentries⟩ := viewSound_handConditions
        (hbudget.trans (hquantities (by simpa using hfeeds)).symm) hcopied
      refine ⟨?_, hview⟩
      rw [hstation, hentries]
      exact htable
  · next hfills =>
    have hfills' : fillsPart k = false := by simpa using hfills
    have hsame (e : PeerEntry) : hearPeer k b e = { e with silence := 0, stale := false } := fillPart_of_no_part hfills' b _
    have hpart {α : Type} (view : PeerEntry → α) (hview : ∀ e : PeerEntry, view { e with silence := 0, stale := false } = view e)
        (e : PeerEntry) : view (onPeer n (hearPeer k b) e) = view e :=
      onPeer_keeps view (fun e => by rw [hsame]; exact hview e) e
    refine peersIn_setEntries hwith htable (quantitiesOf_map _ fun e => ?_) (conditionsOf_map _ fun e => ?_)
    · exact ⟨hpart PeerEntry.station (fun _ => rfl) e, hpart PeerEntry.claim (fun _ => rfl) e,
        hpart PeerEntry.battery (fun _ => rfl) e, hpart PeerEntry.supply (fun _ => rfl) e⟩
    · exact ⟨hpart PeerEntry.vehicle (fun _ => rfl) e, hpart PeerEntry.motion (fun _ => rfl) e,
        hpart PeerEntry.tanks (fun _ => rfl) e⟩

/-! ## Every operation -/

theorem Did.peersIn {L : List Effect} {s u : State} (h : Did s L u) (hs : PeersIn s) : PeersIn u := by
  have hacts := h.acts
  cases h with
  | goesStale n => exact peersIn_goStale hs n
  | expires n => exact peersIn_expirePeer hs n
  | hears n k payload h0 hown => exact peersIn_peerArrival hs h0 hown k payload
  | _ => exact hacts.peersIn hs

end Sys2Proof.Machine

/-! What the bank monitor's operations leave of the monitor, and the account they keep sound. -/

namespace Sys2Proof.Machine

-- As in the tests, so that no command needs threads of its own.
set_option Elab.async false

/-! ## The monitor after each operation -/

theorem handOwnBank_bank (o : BatteryPart) (s : State) : (handOwnBank o s).bank = s.bank :=
  (LoadEvent.acts (.ownBank o s)).bank (by decide)

theorem raiseEvent_bank (e : Event) (s : State) : (raiseEvent e s).bank = s.bank :=
  (acts_raiseEvent e s).bank (by simp)

theorem finishSample_bank (p : BankParams) (s : State) : (finishSample p s).bank = evalRest p s.bank := by
  unfold finishSample
  simp only
  rw [handOwnBank_bank]
  split
  · exact raiseEvent_bank _ _
  · rfl

theorem sampleBank_bank (p : BankParams) (i : Int) (v : Nat) (s : State) : (sampleBank p i v s).bank
    = evalRest p (applyCharge p (clampCurrent i) (clampVoltage v) { s.bank with sampleTimer := 0 }) :=
  finishSample_bank p _

theorem evalDerate_bank (p : BankParams) (reading : Adc) (s : State) : (evalDerate p reading s).bank =
    if derateAt p (evalTemp s.params.tempTable reading s.bank.temp) = s.bank.derate then
      { s.bank with temp := evalTemp s.params.tempTable reading s.bank.temp, derateTimer := 0 }
    else takeDerate p (derateAt p (evalTemp s.params.tempTable reading s.bank.temp))
      { s.bank with temp := evalTemp s.params.tempTable reading s.bank.temp, derateTimer := 0 } := by
  unfold evalDerate
  simp only
  split
  · rfl
  · exact handOwnBank_bank _ _

theorem formBattery_bank (p : BankParams) (s : State) : (formBattery p s).bank = { s.bank with batteryTimer := 0 } := by
  unfold formBattery
  simp only
  split
  · rfl
  · exact (acts_sendTelegram .battery _ _).bank (by simp)

/-- The monitor's first sample, before its rest is evaluated (R15). -/
def firstSample (p : BankParams) (table : List Point) (inputs : StartInputs) (b : Bank) : Bank :=
  { firstCharge p (keepsRetained p b) (clampCurrent inputs.current) (clampVoltage inputs.voltage)
      (firstDerate p table inputs.bankTemp b) with
    mark := some { cn := p.cn, letter := p.letter }, sampleTimer := 0, derateTimer := 0, batteryTimer := 0 }

theorem startBank_of_none {s : State} (h : s.params.bank = none) (inputs : StartInputs) :
    startBank inputs s = s.setBank Bank.reset := by
  unfold startBank
  rw [h]

theorem startBank_of_some {s : State} {p : BankParams} (h : s.params.bank = some p) (inputs : StartInputs) :
    startBank inputs s = formBattery p (finishSample p (s.setBank (firstSample p s.params.tempTable inputs s.bank))) := by
  unfold startBank
  rw [h]
  rfl

theorem startBank_bank {s : State} {p : BankParams} (h : s.params.bank = some p) (inputs : StartInputs) :
    (startBank inputs s).bank
      = { evalRest p (firstSample p s.params.tempTable inputs s.bank) with batteryTimer := 0 } := by
  rw [startBank_of_some h, formBattery_bank, finishSample_bank]
  rfl

/-! ## The account (R8 to R10) -/

/-- The account lies in 0 to Ceff, and SoC is that of the account. -/
def Account (b : Bank) : Prop := b.acc ≤ b.ceff ∧ b.soc ≤ 1000 ∧ b.soc = socOf b.acc b.ceff

theorem socOf_le {acc ceff : Nat} (h : acc ≤ ceff) : socOf acc ceff ≤ 1000 :=
  Nat.div_le_of_le_mul (Nat.mul_le_mul_right 1000 h)

theorem account_withSoc {b : Bank} (h : b.acc ≤ b.ceff) : Account (withSoc b) := ⟨h, socOf_le h, rfl⟩

theorem clipInt_toNat_le (hi : Nat) (n : Int) : (clipInt 0 hi n).toNat ≤ hi := by
  unfold clipInt
  split
  · exact Nat.zero_le _
  · split <;> omega

theorem stepAcc_le (acc ceff eta : Nat) (i : Int) : stepAcc acc ceff eta i ≤ ceff := clipInt_toNat_le ceff _

theorem socAtRest_le (p : BankParams) (v : Nat) : socAtRest p v ≤ 1000 := clipInt_toNat_le 1000 _

theorem accAt_le {ceff soc : Nat} (h : soc ≤ 1000) : accAt ceff soc ≤ ceff :=
  Nat.div_le_of_le_mul (by rw [Nat.mul_comm 1000 ceff]; exact Nat.mul_le_mul_left ceff h)

theorem account_applyCharge (p : BankParams) (i : Int) (v : Nat) (b : Bank) : Account (applyCharge p i v b) :=
  account_withSoc (stepAcc_le _ _ _ _)

theorem account_evalRest {p : BankParams} {b : Bank} (h : Account b) : Account (evalRest p b) := by
  unfold evalRest
  split
  · exact account_withSoc (accAt_le (socAtRest_le p _))
  · exact h

theorem account_takeDerate (p : BankParams) (d : Nat) (b : Bank) : Account (takeDerate p d b) :=
  account_withSoc (Nat.min_le_right _ _)

theorem account_firstCharge (p : BankParams) (keep : Bool) (i : Int) (v : Nat) (b : Bank) :
    Account (firstCharge p keep i v b) := by
  unfold firstCharge
  split
  · exact account_applyCharge p i v _
  · exact account_withSoc (accAt_le (socAtRest_le p v))

/-- A bank that is hosted has a sound account. -/
def AccountIn (s : State) : Prop := s.params.bank.isSome = true → Account s.bank

theorem Acts.accountIn {L : List Effect} {s t : State} (h : Acts L s t) (hs : AccountIn s)
    (hL : .writes .bank ∉ L := by decide) : AccountIn t := by
  unfold AccountIn
  rw [h.params, h.bank hL]
  exact hs

theorem Did.accountIn {L : List Effect} {s u : State} (h : Did s L u) (hs : AccountIn s) : AccountIn u := by
  have hacts := h.acts
  cases h with
  | samples p i v hp =>
    intro _
    rw [sampleBank_bank]
    exact account_evalRest (account_applyCharge p _ _ _)
  | derates p r hp =>
    intro hsome
    rw [hacts.params] at hsome
    rw [evalDerate_bank]
    split
    · exact hs hsome
    · exact account_takeDerate p _ _
  | formsBattery p hp =>
    intro hsome
    rw [hacts.params] at hsome
    rw [formBattery_bank]
    exact hs hsome
  | _ => exact hacts.accountIn hs

theorem accountIn_startBank (inputs : StartInputs) (s : State) : AccountIn (startBank inputs s) := by
  intro hsome
  rw [(acts_startBank inputs s).params] at hsome
  obtain ⟨p, hp⟩ := Option.isSome_iff_exists.mp hsome
  have haccount : Account (evalRest p (firstSample p s.params.tempTable inputs s.bank)) :=
    account_evalRest (account_firstCharge p _ _ _ _)
  rw [startBank_bank hp]
  exact haccount

end Sys2Proof.Machine

/-! The own step-out that the lights hold, and with it the statement about outputs, accounts and tables. -/

namespace Sys2Proof.Machine

-- As in the tests, so that no command needs threads of its own.
set_option Elab.async false

/-! ## The own step-out (R138) -/

theorem ownStepOut_of_step {s t : State} (hp : t.params = s.params) (hm : t.motion.step.state = s.motion.step.state) :
    ownStepOut t = ownStepOut s := by
  unfold ownStepOut
  rw [hp, hm]

theorem queueMotion_step (s : State) : (queueMotion s).motion.step = s.motion.step := by
  unfold queueMotion
  split
  · rw [sendTelegram_eq]
    rfl
  · rfl

theorem motionAfter_step (before s : State) : (motionAfter before s).motion.step = s.motion.step := by
  unfold motionAfter
  split
  · exact queueMotion_step s
  · rfl

theorem Acts.motion {L : List Effect} {s t : State} (h : Acts L s t) (hL : .writes .motion ∉ L) (hc : .clearsCounters ∉ L) :
    t.motion = s.motion := by
  refine h.blockSame (b := .motion) fun e he hmem => ?_
  cases e with
  | writes b =>
    obtain rfl := List.mem_singleton.mp hmem
    exact hL he
  | clearsCounters => exact hc he
  | _ => exact absurd hmem (by simp only [Effect.touched]; decide)

/-- The lights hold the own step-out. -/
def StepHeld (s : State) : Prop := s.light.ownStepOut = ownStepOut s

theorem stepHeld_handOwnStepOut (s : State) : StepHeld (handOwnStepOut (ownStepOut s) s) := by
  unfold handOwnStepOut
  generalize hm : s.setLight { s.light with ownStepOut := ownStepOut s } = m
  have hacts := acts_evalChannels m
  generalize evalChannels m = u at hacts
  have hlight : m.light.ownStepOut = ownStepOut s := by rw [← hm]; rfl
  have hout : ownStepOut m = ownStepOut s := by rw [← hm]; rfl
  unfold StepHeld
  rw [hacts.ownStep (.inl (by decide)), hlight,
    ownStepOut_of_step hacts.params (congrArg _ (congrArg Motion.step (hacts.motion (by decide) (by decide)))), hout]

/-- After its publishing an operation leaves the lights at the own step-out, if it left what they held (R138). -/
theorem stepHeld_publish {s u : State} (h : StepHeld s) (hu : u.light.ownStepOut = s.light.ownStepOut) :
    StepHeld (publish s u) := by
  have hstep : StepHeld (stepOutAfter s u) := by
    unfold stepOutAfter
    split
    · next heq => exact hu.trans (h.trans heq.symm)
    · exact stepHeld_handOwnStepOut u
  have hmotion : StepHeld (motionAfter s (stepOutAfter s u)) := by
    generalize stepOutAfter s u = v at hstep
    have hacts := acts_motionAfter s v
    unfold StepHeld
    rw [hacts.ownStep (.inr (by decide)), hstep]
    exact (ownStepOut_of_step hacts.params (congrArg _ (motionAfter_step s v))).symm
  unfold publish
  simp only
  generalize motionAfter s (stepOutAfter s u) = w at hmotion
  have hacts := acts_tanksAfter s w
  unfold StepHeld
  rw [hacts.ownStep (.inl (by decide)), hmotion]
  exact (ownStepOut_of_step hacts.params (by rw [hacts.motion (by decide) (by decide)])).symm

/-! ## What the lights hold, by every operation -/

/-- The lights hold one own step-out. -/
def Holds (out : Bool) (s : State) : Prop := s.light.ownStepOut = out

theorem Acts.holds {L : List Effect} {s t : State} {out : Bool} (h : Acts L s t) (hs : Holds out s)
    (hL : .writes .motion ∉ L ∨ .writes .light ∉ L := by decide) : Holds out t := (h.ownStep hL).trans hs

theorem viewKept_holds (out : Bool) : ViewKept (Holds out) where
  peers _ _ h := h
  lost s := (acts_raiseEvent .peerLost s).holds
  quantities s banks supply known sums := (LoadEvent.acts (.quantities banks supply known sums s)).holds
  vehicle s v := (acts_handVehicle v s).holds
  moving s moving := (acts_handMoving moving s).holds
  step s o := (acts_handPeerStepOut o s).holds
  grey s full := (acts_handGreyFull full s).holds

theorem holds_enterStorage {out : Bool} {s : State} (h : Holds out s) : Holds out (enterStorage s) := by
  have hacts := acts_beforeLightsEnter (s.setBoot { s.boot with storage := true })
  unfold enterStorage
  generalize motionEntersStorage (evalPump (zonesEnterStorage (s.setBoot { s.boot with storage := true }))) = u at hacts
  have hu : Holds out u := hacts.holds h
  exact (acts_lightsEnterStorage u).holds hu

theorem holds_exitStorage {out : Bool} {s : State} (h : Holds out s) : Holds out (exitStorage s) := by
  have hacts := acts_beforeLightsExit (s.setBoot { s.boot with storage := false })
  unfold exitStorage
  generalize motionExitsStorage (evalPump (zonesExitStorage (s.setBoot { s.boot with storage := false }))) = u at hacts
  have hu : Holds out u := hacts.holds h
  exact (acts_lightsExitStorage u).holds hu

theorem holds_decideStorageSet {out : Bool} {s : State} (h : Holds out s) (value : Byte) :
    Holds out (decideStorageSet value s).1 := by
  unfold decideStorageSet
  split
  · exact h
  · simp only
    split
    · exact h
    · split
      · exact holds_enterStorage h
      · exact holds_exitStorage h

theorem Did.holds {L : List Effect} {s u : State} {out : Bool} (h : Did s L u) (hs : Holds out s) : Holds out u := by
  have hacts := h.acts
  cases h with
  | decided hd =>
    cases hd with
    | zoneSet => exact (acts_decideZoneSet _ _ _ s).holds hs
    | lightSet => exact (acts_decideLightSet _ _ _ s).holds hs
    | move => exact (acts_decideMove _ _ s).holds hs
    | halt => exact (acts_decideHalt _ s).holds hs
    | holdSet => exact (acts_decideHoldSet _ _ s).holds hs
    | faultClear => exact (acts_decideFaultClear _ s).holds hs
    | pumpSet => exact (acts_decidePumpSet _ s).holds hs
    | valveClose => exact (acts_decideValveClose s).holds hs
    | eventsClear => exact (acts_decideEventsClear _ s).holds hs
    | storageSet => exact holds_decideStorageSet hs _
    | diagQuery => exact (acts_decideDiagQuery _ s).holds hs
  | expires n => exact (viewKept_holds out).expirePeer hs n
  | hears n k payload => exact (viewKept_holds out).peerArrival hs n k payload
  | _ => exact hacts.holds hs

/-! ## Sound outputs, accounts and tables -/

/-- What O9 asks of a running part. -/
structure OutputsIn (s : State) : Prop where
  heaters : HeatersOk s
  lights : LightsOk s
  account : s.running = true → AccountIn s
  peers : PeersIn s
  step : StepHeld s

/-- What O9 asks of a state. -/
def OutputsSound (s : State) : Prop := OutputsIn s ∧ QuietBeforeStart s

theorem outputsSound_iff (s : State) : OutputsSound s
    ↔ HeatersOk s ∧ LightsOk s ∧ BankOk s ∧ PeersOk s ∧ ViewOk s ∧ QuietBeforeStart s := by
  rw [viewOk_iff]
  constructor
  · rintro ⟨⟨hheaters, hlights, haccount, ⟨htable, hview⟩, hstep⟩, hquiet⟩
    exact ⟨hheaters, hlights, haccount, htable, ⟨hview, hstep⟩, hquiet⟩
  · rintro ⟨hheaters, hlights, haccount, htable, ⟨hview, hstep⟩, hquiet⟩
    exact ⟨⟨hheaters, hlights, haccount, ⟨htable, hview⟩, hstep⟩, hquiet⟩

theorem outputsSound_of_running {s : State} (h : OutputsIn s) (hrun : s.running = true) : OutputsSound s :=
  ⟨h, fun hr => absurd (hrun.symm.trans hr) nofun⟩

/-- A chain of acts that leaves the view, the account and the own step-out keeps all. -/
theorem Acts.outputsIn {L : List Effect} {s t : State} (h : Acts L s t) (hs : OutputsIn s)
    (hL : .writes .peers ∉ L ∧ .quantities ∉ L ∧ .writes .bank ∉ L ∧ .writes .motion ∉ L ∧ .clearsCounters ∉ L
      := by decide) : OutputsIn t := by
  obtain ⟨hpeers, hquantities, hbank, hmotion, hclears⟩ := hL
  refine ⟨h.heatersOk hs.heaters, h.lightsOk hs.lights, fun hr => ?_, h.peersIn hs.peers hpeers hquantities, ?_⟩
  · exact h.accountIn (hs.account (h.running ▸ hr)) hbank
  · unfold StepHeld
    rw [h.ownStep (.inl hmotion), hs.step]
    exact (ownStepOut_of_step h.params (by rw [h.motion hmotion hclears])).symm

theorem outputsIn_round {s u : State} {L : List Effect} (hrun : s.running = true) (h : OutputsIn s) (hd : Did s L u) :
    OutputsIn (publish s u) := by
  have hpublish := acts_publish s u
  have hheld : Holds s.light.ownStepOut u := hd.holds rfl
  exact ⟨hpublish.heatersOk (hd.acts.heatersOk h.heaters), hpublish.lightsOk (hd.acts.lightsOk h.lights),
    fun _ => hpublish.accountIn (hd.accountIn (h.account hrun)), hpublish.peersIn (hd.peersIn h.peers),
    stepHeld_publish h.step hheld⟩

/-! ## The start -/

theorem heatersOk_settledState (record : List Byte) (passed : Bool) (s : State) : HeatersOk (settledState record passed s) := by
  refine ⟨fun n => ?_, rfl⟩
  have hget : (settledState record passed s).zone.zones[n]
      = startedZone s.boot.storage (profileParams record passed).zones[n] := by
    simp [settledState, startedZones, profileParams]
  rw [hget, startedZone]
  split
  · split <;> rfl
  · rfl

theorem lightsOk_settledState (record : List Byte) (passed : Bool) (s : State) : LightsOk (settledState record passed s) := by
  intro n
  rw [channelOk_iff, settledState_params]
  have hget : (settledState record passed s).light.channels[n] = startedChannel (profileParams record passed).channels[n] :=
    startedLights_channel _ _ n
  rw [hget]
  exact ⟨rfl, show 0 = gammaDuty 0 by decide, nofun⟩

theorem peersIn_settledState {s : State} (record : List Byte) (passed : Bool) (h : s.peers = Peers.reset) :
    PeersIn (settledState record passed s) := by
  have hpeers : (settledState record passed s).peers = Peers.reset := h
  refine ⟨?_, ?_, ?_, ?_⟩
  · rw [hpeers]
    exact ⟨by decide, .nil, nofun⟩
  · rw [hpeers]
    rfl
  · rw [hpeers]
    rfl
  · rw [hpeers]
    rfl

theorem outputsIn_startBlocks {s : State} (record : List Byte) (passed : Bool) (inputs : StartInputs)
    (h : s.peers = Peers.reset) : OutputsIn (startBlocks record passed inputs s) := by
  have hacts := acts_motionStarted record passed inputs s
  have haccount : AccountIn (motionStarted record passed inputs s) := by
    have hbank : AccountIn (bankStarted record passed inputs s) := accountIn_startBank inputs _
    have hzones := (acts_evalZones inputs.zoneTemps (bankStarted record passed inputs s)).accountIn hbank
    exact (acts_startMotion inputs _).accountIn ((acts_startWater inputs _).accountIn hzones)
  rw [startBlocks_eq]
  generalize motionStarted record passed inputs s = u at hacts haccount
  have hown := acts_handOwnStepOut (ownStepOut u) u
  exact ⟨hown.heatersOk (hacts.heatersOk (heatersOk_settledState record passed s)),
    hown.lightsOk (hacts.lightsOk (lightsOk_settledState record passed s)), fun _ => hown.accountIn haccount,
    hown.peersIn (hacts.peersIn (peersIn_settledState record passed h)), stepHeld_handOwnStepOut u⟩

/-! ## Resets and time -/

theorem outputsIn_reset {s : State} (hpeers : s.peers = Peers.reset) (hbudget : s.budget = Budget.reset)
    (hzone : s.zone = ZoneCtl.reset) (hwater : s.water = Water.reset) (hmotion : s.motion = Motion.reset)
    (hlight : s.light = LightCtl.reset) (hparams : s.params = Params.fallback) (hrun : s.running = false) : OutputsIn s := by
  refine ⟨?_, ?_, fun hr => absurd (hr.symm.trans hrun) nofun, ⟨?_, ?_, ?_, ?_⟩, ?_⟩
  · unfold HeatersOk
    rw [hzone, hwater]
    exact ⟨by decide, rfl⟩
  · intro n
    rw [channelOk_iff, hlight, hparams]
    exact ⟨by revert n; decide, by revert n; decide, fun r h => absurd (h.symm.trans (reset_light n)) nofun⟩
  · rw [hpeers]
    exact ⟨by decide, .nil, nofun⟩
  · rw [hpeers, hbudget]
    rfl
  · rw [hpeers]
    rfl
  · unfold viewCopies
    rw [hpeers, hmotion, hwater, hlight]
    rfl
  · unfold StepHeld ownStepOut
    rw [hlight, hparams]
    rfl

theorem peersIn_ticked {s t : State} (h : BlocksTicked s t) (hs : PeersIn s) : PeersIn t := by
  obtain ⟨htable, hquantities, hlasts, hcopies⟩ := hs
  have hentries : t.peers.entries = s.peers.entries.map tickPeer := by rw [h.peers]
  refine ⟨?_, ?_, ?_, ?_⟩
  · rw [hentries, h.boot.1]
    exact htable.map fun _ => rfl
  · rw [hentries, quantitiesOf_map (g := tickPeer) _ fun _ => ⟨rfl, rfl, rfl, rfl⟩, ← hquantities, h.budget]
    rfl
  · rw [hentries, conditionsOf_map (g := tickPeer) _ fun _ => ⟨rfl, rfl, rfl⟩, h.peers]
    exact hlasts
  · unfold viewCopies
    rw [h.motion, h.water, h.light, h.peers]
    exact hcopies

theorem outputsIn_ticked {s t : State} (h : BlocksTicked s t) (hs : OutputsIn s) : OutputsIn t := by
  refine ⟨?_, ?_, fun hr => ?_, peersIn_ticked h hs.peers, ?_⟩
  · unfold HeatersOk
    rw [h.zone, h.water]
    exact hs.heaters
  · intro n
    rw [channelOk_iff, h.light, h.params]
    exact hs.lights n
  · unfold AccountIn
    rw [h.params, h.bank]
    exact hs.account (h.running ▸ hr)
  · unfold StepHeld
    rw [h.light, ownStepOut_of_step h.params (by rw [h.motion]; rfl)]
    exact hs.step

theorem outputsIn_same {s t : State} (h : BlocksSame s t) (hs : OutputsIn s) : OutputsIn t := by
  refine ⟨heatersOk_of_eq s t hs.heaters h.zone h.water, lightsOk_of_eq s t hs.lights h.light h.params, fun hr => ?_,
    ⟨?_, hs.peers.2.congr (by rw [h.budget]) (by rw [h.peers]) ?_⟩, ?_⟩
  · unfold AccountIn
    rw [h.params, h.bank]
    exact hs.account (h.running ▸ hr)
  · rw [h.boot.1, h.peers]
    exact hs.peers.1
  · unfold viewCopies
    rw [h.motion, h.water, h.light]
  · unfold StepHeld
    rw [h.light, ownStepOut_of_step h.params (by rw [h.motion])]
    exact hs.step

theorem line_tick_of_not_running {s : State} (h : s.running = false) : (tick s).line = s.line := by
  unfold tick
  simp only
  rw [h]
  simp only [Bool.false_eq_true, if_false]
  split
  · rw [tickMs_of_not_running h]
  · rfl

theorem outputsSound_tick {s : State} (h : OutputsSound s) : OutputsSound (tick s) := by
  obtain ⟨hs, hquiet⟩ := h
  have hrun := tick_running s
  rcases tick_blocks s with hb | ⟨hr, hb⟩
  · refine ⟨outputsIn_same hb hs, fun hstill => ?_⟩
    rw [hrun] at hstill
    rw [hb.params, hb.peers, hb.budget, hb.zone, hb.water, hb.motion, hb.light, hb.event, line_tick_of_not_running hstill]
    exact hquiet hstill
  · exact outputsSound_of_running (outputsIn_ticked hb hs) (hrun.trans hr)

theorem inductive_outputsSound : Inductive OutputsSound where
  pending s q h := by
    obtain ⟨⟨hheaters, hlights, haccount, hpeers, hstep⟩, hquiet⟩ := h
    exact ⟨⟨hheaters, hlights, haccount, ⟨hpeers.1, hpeers.2.quantities, hpeers.2.lasts, hpeers.2.copies⟩, hstep⟩, hquiet⟩
  round s u L hrun h hd :=
    outputsSound_of_running (outputsIn_round hrun h.1 hd)
      (((acts_publish s u).running.trans hd.acts.running).trans hrun)
  reply s payload hrun h :=
    outputsSound_of_running ((acts_sendTelegram .reply payload s).outputsIn h.1)
      ((acts_sendTelegram .reply payload s).running.trans hrun)
  reset s straps storage bank :=
    ⟨outputsIn_reset rfl rfl rfl rfl rfl rfl rfl rfl, fun _ => ⟨rfl, rfl, rfl, rfl, rfl, rfl, rfl, rfl, rfl⟩⟩
  waits s hrun h := by
    obtain ⟨⟨hheaters, hlights, haccount, hpeers, hstep⟩, hquiet⟩ := h
    exact ⟨⟨hheaters, hlights, nofun, ⟨hpeers.1, hpeers.2.quantities, hpeers.2.lasts, hpeers.2.copies⟩, hstep⟩,
      fun _ => hquiet hrun⟩
  starts s record passed inputs hrun h := by
    obtain ⟨_, hpeers, _⟩ := h.2 hrun
    exact outputsSound_of_running (outputsIn_startBlocks record passed inputs hpeers)
      ((acts_startBlocks record passed inputs s).running.trans rfl)
  line s l hl h := by
    obtain ⟨⟨hheaters, hlights, haccount, hpeers, hstep⟩, hquiet⟩ := h
    refine ⟨⟨hheaters, hlights, haccount, ⟨hpeers.1, hpeers.2.quantities, hpeers.2.lasts, hpeers.2.copies⟩, hstep⟩,
      fun hr => ?_⟩
    rw [hl hr]
    exact hquiet hr
  clash s hrun h :=
    outputsSound_of_running ((acts_raiseEvent .clash s).outputsIn h.1) ((acts_raiseEvent .clash s).running.trans hrun)
  tick _ h := outputsSound_tick h

/-- Settles O9: by every operation with its publishing, the start, the resets and the passing of time. -/
theorem outputsAccountsAndTablesStaySound : Obligations.OutputsAccountsAndTablesStaySound := by
  intro s t hs hstep
  exact (outputsSound_iff t).mp (inductive_outputsSound.keptByEveryStep s t ((outputsSound_iff s).mpr hs) hstep)

end Sys2Proof.Machine

/-! The motion controller's operations, each said once: the record it leaves an actuator with, the motor's load, and
what it leaves as it was. -/

namespace Sys2Proof.Machine

-- As in the tests, so that no command needs threads of its own.
set_option Elab.async false

/-! ## Records -/

theorem act_putAct_other (a : Actuator) (r : ActRec) (s : State) :
    act (putAct a r s).motion (otherActuator a) = act s.motion (otherActuator a) := by cases a <;> rfl

theorem eq_or_eq_other (a b : Actuator) : b = a ∨ b = otherActuator a := by cases a <;> cases b <;> simp [otherActuator]

theorem otherActuator_ne (a : Actuator) : otherActuator a ≠ a := by cases a <;> nofun

theorem motorLoad_injective {a b : Actuator} (h : motorLoad a = motorLoad b) : a = b := by
  cases a with
  | awning =>
    cases b with
    | awning => rfl
    | step => cases h
  | step =>
    cases b with
    | awning => cases h
    | step => rfl

theorem putAct_self (a : Actuator) (s : State) : putAct a (act s.motion a) s = s := by cases a <;> rfl

theorem putAct_budget (a : Actuator) (r : ActRec) (s : State) : (putAct a r s).budget = s.budget := by cases a <;> rfl

theorem putAct_params (a : Actuator) (r : ActRec) (s : State) : (putAct a r s).params = s.params := by cases a <;> rfl

theorem putAct_event (a : Actuator) (r : ActRec) (s : State) : (putAct a r s).event = s.event := by cases a <;> rfl

theorem putAct_pins (a : Actuator) (r : ActRec) (s : State) : (putAct a r s).motion.pins = s.motion.pins := by cases a <;> rfl

theorem stopActive_congr {s t : State} (hp : t.params = s.params) (hm : t.motion.pins = s.motion.pins) (a : Actuator)
    (e : StopEnd) : stopActive t a e = stopActive s a e := by
  unfold stopActive
  rw [hp, hm]

/-! ## What an operation on one actuator keeps -/

/-- Only one actuator's record may have changed in the motion controller, with the loads, and nothing is raised. -/
structure Moved (a : Actuator) (s t : State) : Prop where
  rest : restOfMotionSame s t a
  pins : t.motion.pins = s.motion.pins
  count : t.motion.actuatorFaults = s.motion.actuatorFaults
  event : t.event = s.event
  params : t.params = s.params
  load : LoadKept (motorLoad (otherActuator a)) s t

theorem Moved.refl (a : Actuator) (s : State) : Moved a s s := ⟨⟨rfl, rfl, rfl, rfl⟩, rfl, rfl, rfl, rfl, .refl _ s⟩

theorem Moved.trans {a : Actuator} {s t u : State} (h : Moved a s t) (k : Moved a t u) : Moved a s u := by
  obtain ⟨⟨h1, h2, h3, h4⟩, h5, h6, h7, h8, h9⟩ := h
  obtain ⟨⟨k1, k2, k3, k4⟩, k5, k6, k7, k8, k9⟩ := k
  exact ⟨⟨k1.trans h1, k2.trans h2, k3.trans h3, k4.trans h4⟩, k5.trans h5, k6.trans h6, k7.trans h7, k8.trans h8, h9.trans k9⟩

theorem Moved.stopActive {a : Actuator} {s t : State} (h : Moved a s t) (b : Actuator) (e : StopEnd) :
    Machine.stopActive t b e = Machine.stopActive s b e := stopActive_congr h.params h.pins b e

theorem moved_putAct (a : Actuator) (r : ActRec) (s : State) : Moved a s (putAct a r s) := by
  refine ⟨⟨act_putAct_other a r s, ?_, ?_, ?_⟩, putAct_pins a r s, ?_, putAct_event a r s, putAct_params a r s,
    loadKept_of_eq (by rw [putAct_budget])⟩
  all_goals cases a <;> rfl

theorem LoadEvent.motion {e : Effect} {s t : State} (h : LoadEvent e s t) : t.motion = s.motion := by
  obtain ⟨m, ⟨b, rfl, _⟩, hsteps⟩ := h.rebased_steps
  exact hsteps.frame.motion

theorem LoadEvent.moved {a : Actuator} {s t : State} (h : LoadEvent (.asks (motorLoad a)) s t) : Moved a s t := by
  have hmotion := h.motion
  refine ⟨?_, by rw [hmotion], by rw [hmotion], h.event_of_raised rfl, h.params, h.loadKept fun he => ?_⟩
  · unfold restOfMotionSame
    rw [hmotion]
    exact ⟨rfl, rfl, rfl, rfl⟩
  · exact otherActuator_ne a (motorLoad_injective (Effect.asks.inj he)).symm

theorem moved_release (a : Actuator) (s : State) : Moved a s (release (motorLoad a) s) := (LoadEvent.release _ s).moved

theorem moved_askRetraction (a : Actuator) (s : State) : Moved a s (askRetraction (motorLoad a) s) :=
  (LoadEvent.askRetraction a s).moved

theorem moved_askExtension (a : Actuator) (s : State) : Moved a s (askExtension (motorLoad a) s) :=
  (LoadEvent.askExtension a s).moved

theorem release_motion (i : Fin 17) (s : State) : (release i s).motion = s.motion := (LoadEvent.release i s).motion

theorem askRetraction_motion (a : Actuator) (s : State) : (askRetraction (motorLoad a) s).motion = s.motion :=
  (LoadEvent.askRetraction a s).motion

theorem askExtension_motion (a : Actuator) (s : State) : (askExtension (motorLoad a) s).motion = s.motion :=
  (LoadEvent.askExtension a s).motion

/-! ## The motor's load -/

/-- A motor's record admitted for a travel (R52). -/
def admittedFor (c : LoadClass) (r : LoadRecord) : LoadRecord :=
  { r with cls := c, state := .admitted, claim := r.rated, hold := none }

/-- Once admitted, a motor's load stands through the end of the event. -/
theorem settle_admitted_motor (a : Actuator) (c : LoadClass) (s : State) :
    (settle s.budget.own false (admitLoad (motorLoad a) (setMotorClass (motorLoad a) c s))).budget.loads[motorLoad a]
      = admittedFor c s.budget.loads[motorLoad a] := by
  have hplaced : (admitLoad (motorLoad a) (setMotorClass (motorLoad a) c s)).budget.loads[motorLoad a]
      = admittedFor c s.budget.loads[motorLoad a] := by
    rw [admitMotor_budget, place_loads_self]
    rfl
  have hkept := loadKept_settle s.budget.own false (admitLoad (motorLoad a) (setMotorClass (motorLoad a) c s)) (motorLoad a)
  refine (hkept.1 (.inr ⟨?_, motorLoad_notSheddable a⟩)).trans hplaced
  rw [hplaced]
  rfl

theorem askRetraction_load {a : Actuator} {s : State} (h : s.budget.loads[motorLoad a].state = .off) :
    (askRetraction (motorLoad a) s).budget.loads[motorLoad a] = admittedFor .c0 s.budget.loads[motorLoad a] := by
  have hask : askRetraction (motorLoad a) s
      = settle s.budget.own false (admitLoad (motorLoad a) (setMotorClass (motorLoad a) .c0 s)) := if_neg (not_not_intro h)
  rw [hask]
  exact settle_admitted_motor a .c0 s

theorem askExtension_refused {a : Actuator} {s : State} (hr : extensionRefused (motorLoad a) s = true) :
    askExtension (motorLoad a) s = s := by
  unfold askExtension
  rw [if_pos hr, ite_self]

theorem askExtension_load {a : Actuator} {s : State} (h : s.budget.loads[motorLoad a].state = .off)
    (hr : extensionRefused (motorLoad a) s = false) :
    (askExtension (motorLoad a) s).budget.loads[motorLoad a] = admittedFor .c2 s.budget.loads[motorLoad a] := by
  have hask : askExtension (motorLoad a) s
      = settle s.budget.own false (admitLoad (motorLoad a) (setMotorClass (motorLoad a) .c2 s)) := by
    unfold askExtension
    rw [if_neg (not_not_intro h), if_neg (by rw [hr]; nofun)]
  rw [hask]
  exact settle_admitted_motor a .c2 s

/-- What a release leaves of its own record. -/
theorem release_rated (i j : Fin 17) (s : State) : (release i s).budget.loads[j].rated = s.budget.loads[j].rated :=
  (loadSteps_release i s).frame.rated j

/-! ## Travels (R115 to R120) -/

theorem moved_endTravel (a : Actuator) (st : ActState) (s : State) : Moved a s (endTravel a st s) :=
  (moved_putAct a _ s).trans (moved_release a _)

theorem act_endTravel (a : Actuator) (st : ActState) (s : State) :
    act (endTravel a st s).motion a = endedTravel st (act s.motion a) := by
  unfold endTravel
  rw [release_motion, act_putAct_self]

theorem load_endTravel (a : Actuator) (st : ActState) (s : State) :
    (endTravel a st s).budget.loads[motorLoad a].state = .off := release_state _ _

theorem endedTravel_eq (st : ActState) (r : ActRec) (n : Nat) :
    endedTravel st { r with position := n } = travelEnded r st n := by
  unfold endedTravel travelEnded stopMotor
  by_cases hst : st = .stowed
  · cases hm : r.releaseMark <;> simp [hst]
  · simp [hst]

theorem endedTravel_eq_self (st : ActState) (r : ActRec) : endedTravel st r = travelEnded r st r.position :=
  endedTravel_eq st r r.position

theorem moved_endAtStop (a : Actuator) (e : StopEnd) (s : State) : Moved a s (endAtStop a e s) :=
  (moved_putAct a _ s).trans (moved_endTravel a _ _)

theorem act_endAtStop (a : Actuator) (e : StopEnd) (s : State) : act (endAtStop a e s).motion a
    = travelEnded (act s.motion a) (endState e) (endPosition (s.params.actuator a) e) := by
  unfold endAtStop
  rw [act_endTravel, act_putAct_self, endedTravel_eq]

theorem load_endAtStop (a : Actuator) (e : StopEnd) (s : State) :
    (endAtStop a e s).budget.loads[motorLoad a].state = .off := load_endTravel a _ _

theorem moved_takeEnd (a : Actuator) (e : StopEnd) (s : State) : Moved a s (takeEnd a e s) := moved_putAct a _ s

theorem act_takeEnd (a : Actuator) (e : StopEnd) (s : State) : act (takeEnd a e s).motion a
    = { act s.motion a with state := endState e, position := endPosition (s.params.actuator a) e } := act_putAct_self a _ s

theorem driveToward_inStop (p : ActuatorParams) (r : ActRec) :
    driveToward p .inStop r = drivenInward p r r.releaseMark r.cause := rfl

theorem driveToward_outStop (p : ActuatorParams) (r : ActRec) :
    driveToward p .outStop r = drivenOutward p r r.releaseMark r.cause := rfl

theorem pausedToward_inStop (r : ActRec) : pausedToward .inStop r = reversing r .retracting false none := rfl

theorem pausedToward_outStop (r : ActRec) : pausedToward .outStop r = reversing r .extending false none := rfl

theorem startInward_of_active {a : Actuator} {s : State} (h : stopActive s a .inStop = true) :
    startInward a s = putAct a { act s.motion a with state := .stowed, position := 0 } s := if_pos h

theorem startInward_of_clear {a : Actuator} {s : State} (h : stopActive s a .inStop = false) :
    startInward a s = startDrive a .inStop (askRetraction (motorLoad a) s) := if_neg (by rw [h]; nofun)

theorem moved_startInward (a : Actuator) (s : State) : Moved a s (startInward a s) := by
  unfold startInward
  split
  · exact moved_takeEnd a _ s
  · exact (moved_askRetraction a s).trans (moved_putAct a _ _)

theorem act_startInward {a : Actuator} {s : State} (h : stopActive s a .inStop = false) :
    act (startInward a s).motion a
      = drivenInward (s.params.actuator a) (act s.motion a) (act s.motion a).releaseMark (act s.motion a).cause := by
  rw [startInward_of_clear h, startDrive, act_putAct_self, askRetraction_motion, (moved_askRetraction a s).params,
    driveToward_inStop]

theorem load_startInward {a : Actuator} {s : State} (h : stopActive s a .inStop = false)
    (hoff : s.budget.loads[motorLoad a].state = .off) :
    (startInward a s).budget.loads[motorLoad a] = admittedFor .c0 s.budget.loads[motorLoad a] := by
  rw [startInward_of_clear h, startDrive, putAct_budget, askRetraction_load hoff]

/-- A reversal inward asks for the motor again at class 0 (R116). -/
theorem moved_reverseInward (a : Actuator) (s : State) : Moved a s (reverseInward a s) :=
  ((moved_release a s).trans (moved_askRetraction a _)).trans (moved_putAct a _ _)

theorem act_reverseInward (a : Actuator) (s : State) :
    act (reverseInward a s).motion a = reversing (act s.motion a) .retracting false none := by
  unfold reverseInward
  simp only
  rw [act_putAct_self, askRetraction_motion, release_motion, pausedToward_inStop]

theorem load_reverseInward (a : Actuator) (s : State) : (reverseInward a s).budget.loads[motorLoad a]
    = admittedFor .c0 (release (motorLoad a) s).budget.loads[motorLoad a] := by
  unfold reverseInward
  simp only
  rw [putAct_budget, askRetraction_load (release_state _ _)]

theorem endPause_of_active {a : Actuator} {e : StopEnd} {s : State} (he : endAhead (act s.motion a).state = e)
    (h : stopActive s a e = true) : endPause a s = endAtStop a e s := by
  subst he
  exact if_pos h

theorem endPause_of_clear {a : Actuator} {e : StopEnd} {s : State} (he : endAhead (act s.motion a).state = e)
    (h : stopActive s a e = false) :
    endPause a s = putAct a (driveToward (s.params.actuator a) e (act s.motion a)) s := by
  subst he
  exact if_neg (by rw [h]; nofun)

/-! ## Auto-retraction (R131) -/

theorem moved_recordCause (a : Actuator) (c : Cause) (s : State) : Moved a s (recordCause a c s) := moved_putAct a _ s

theorem act_recordCause (a : Actuator) (c : Cause) (s : State) :
    act (recordCause a c s).motion a = { act s.motion a with cause := some c } := act_putAct_self a _ s

theorem autoRetract_of_stowed {a : Actuator} {c : Cause} {s : State} (h : (act s.motion a).state = .stowed) :
    autoRetract a c s = s := by
  simp [autoRetract, h]

/-- The actuator stands still away from its in-stop's state. -/
def standsOut (st : ActState) : Prop := st = .extended ∨ st = .stoppedMid

theorem autoRetract_of_out {a : Actuator} {c : Cause} {s : State} (h : standsOut (act s.motion a).state) :
    autoRetract a c s = if (act (startInward a s).motion a).state = .retracting then recordCause a c (startInward a s)
      else startInward a s := by
  rcases h with h | h <;> simp [autoRetract, h]

theorem autoRetract_of_out_active {a : Actuator} {c : Cause} {s : State} (h : standsOut (act s.motion a).state)
    (hin : stopActive s a .inStop = true) :
    autoRetract a c s = putAct a { act s.motion a with state := .stowed, position := 0 } s := by
  rw [autoRetract_of_out h, startInward_of_active hin, act_putAct_self]
  exact if_neg nofun

theorem autoRetract_of_out_clear {a : Actuator} {c : Cause} {s : State} (h : standsOut (act s.motion a).state)
    (hin : stopActive s a .inStop = false) : autoRetract a c s = recordCause a c (startInward a s) := by
  rw [autoRetract_of_out h, act_startInward hin]
  exact if_pos rfl

theorem autoRetract_of_extending {a : Actuator} {c : Cause} {s : State} (h : (act s.motion a).state = .extending) :
    autoRetract a c s = recordCause a c (reverseInward a s) := by
  simp [autoRetract, h]

theorem autoRetract_of_retracting {a : Actuator} {c : Cause} {s : State} (h : (act s.motion a).state = .retracting) :
    autoRetract a c s = putAct a { act s.motion a with cause := some ((act s.motion a).cause.getD c) } s := by
  have hdef : autoRetract a c s = if (act s.motion a).cause.isSome then s else recordCause a c s := by simp [autoRetract, h]
  rw [hdef]
  cases hc : (act s.motion a).cause with
  | none => rfl
  | some d =>
    rw [Option.getD_some, Option.isSome_some, if_pos rfl, ← hc]
    exact (putAct_self a s).symm

theorem moved_autoRetract {a : Actuator} {c : Cause} {s : State} (h : (act s.motion a).state ≠ .fault) :
    Moved a s (autoRetract a c s) := by
  cases hst : (act s.motion a).state with
  | stowed => rw [autoRetract_of_stowed hst]; exact .refl a s
  | fault => exact absurd hst h
  | extending =>
    rw [autoRetract_of_extending hst]
    exact (moved_reverseInward a s).trans (moved_recordCause a c _)
  | retracting =>
    rw [autoRetract_of_retracting hst]
    exact moved_putAct a _ s
  | extended | stoppedMid =>
    have hout : standsOut (act s.motion a).state := by simp [standsOut, hst]
    rw [autoRetract_of_out hout]
    split
    · exact (moved_startInward a s).trans (moved_recordCause a c _)
    · exact moved_startInward a s

theorem raiseEvent_motion (e : Event) (s : State) : (raiseEvent e s).motion = s.motion :=
  (acts_raiseEvent e s).motion (by simp) (by simp)

/-- Settles O35, state by state. -/
theorem autoRetractionActsByState : Obligations.AutoRetractionActsByState := by
  intro s a c hload
  have hoff (h : standsOut (act s.motion a).state) : s.budget.loads[motorLoad a].state = .off :=
    hload.resolve_right fun hmoves => by rcases h with h | h <;> rw [h] at hmoves <;> cases hmoves
  refine ⟨autoRetract_of_stowed, fun h => ⟨autoRetract_of_out_active h, fun hin => ?_⟩, fun h => ?_,
    autoRetract_of_retracting, fun h => ?_, ?_⟩
  · rw [autoRetract_of_out_clear h hin, act_recordCause, act_startInward hin]
    refine ⟨rfl, ?_⟩
    have hl : (recordCause a c (startInward a s)).budget.loads[motorLoad a]
        = admittedFor .c0 s.budget.loads[motorLoad a] := by
      rw [recordCause, putAct_budget, load_startInward hin (hoff h)]
    rw [hl]
    exact ⟨rfl, rfl⟩
  · rw [autoRetract_of_extending h, act_recordCause, act_reverseInward]
    refine ⟨rfl, ?_⟩
    have hl : (recordCause a c (reverseInward a s)).budget.loads[motorLoad a]
        = admittedFor .c0 (release (motorLoad a) s).budget.loads[motorLoad a] := by
      rw [recordCause, putAct_budget, load_reverseInward]
    rw [hl]
    exact ⟨rfl, rfl⟩
  · rw [autoRetract_of_fault h, raiseEvent_motion]
    exact ⟨rfl, inSet_raiseEvent _ _⟩
  · by_cases h : (act s.motion a).state = .fault
    · rw [autoRetract_of_fault h]
      unfold restOfMotionSame
      rw [raiseEvent_motion]
      exact ⟨rfl, rfl, rfl, rfl⟩
    · exact (moved_autoRetract h).rest

end Sys2Proof.Machine

/-! What the publishing of a command and its REPLY leave of the motion controller; faults; and the events of the end
stops, the hall sensor, the motor current and the travel timers. -/

namespace Sys2Proof.Machine

-- As in the tests, so that no command needs threads of its own.
set_option Elab.async false

/-! ## Publishing -/

theorem handOwnStepOut_motion (out : Bool) (s : State) : (handOwnStepOut out s).motion = s.motion := by
  unfold handOwnStepOut
  generalize hm : s.setLight { s.light with ownStepOut := out } = m
  have hmotion : m.motion = s.motion := by rw [← hm]; rfl
  exact ((acts_evalChannels m).motion (by decide) (by decide)).trans hmotion

theorem stepOutAfter_motion (before s : State) : (stepOutAfter before s).motion = s.motion := by
  unfold stepOutAfter
  split
  · rfl
  · exact handOwnStepOut_motion _ s

theorem queueMotion_motion (s : State) :
    (queueMotion s).motion = { s.motion with motionTimer := (queueMotion s).motion.motionTimer } := by
  unfold queueMotion
  split
  · rw [sendTelegram_eq]
    rfl
  · rfl

theorem motionAfter_motion (before s : State) :
    (motionAfter before s).motion = { s.motion with motionTimer := (motionAfter before s).motion.motionTimer } := by
  unfold motionAfter
  split
  · exact queueMotion_motion s
  · rfl

/-- The end of a command restarts at most the MOTION timer (R139). -/
theorem publish_motion (before s : State) :
    (publish before s).motion = { s.motion with motionTimer := (publish before s).motion.motionTimer } := by
  have htanks : (publish before s).motion = (motionAfter before (stepOutAfter before s)).motion :=
    (acts_tanksAfter before _).motion (by decide) (by decide)
  rw [htanks, motionAfter_motion, stepOutAfter_motion]

theorem publish_act (before s : State) (a : Actuator) : act (publish before s).motion a = act s.motion a := by
  rw [publish_motion]
  cases a <;> rfl

theorem publish_pins (before s : State) : (publish before s).motion.pins = s.motion.pins := by rw [publish_motion]

theorem publish_wind (before s : State) : (publish before s).motion.wind = s.motion.wind := by rw [publish_motion]

theorem publish_actuatorFaults (before s : State) :
    (publish before s).motion.actuatorFaults = s.motion.actuatorFaults := by rw [publish_motion]

theorem publish_rest (before s : State) (a : Actuator) : restOfMotionSame s (publish before s) a := by
  unfold restOfMotionSame
  rw [publish_act, publish_motion]
  exact ⟨rfl, rfl, rfl, rfl⟩

theorem Acts.eventKept {L : List Effect} {s t : State} (h : Acts L s t) (hL : ∀ e ∈ L, Block.event ∉ e.touched) :
    t.event = s.event := h.blockSame (b := .event) hL

theorem publish_event (before s : State) : (publish before s).event = s.event :=
  (acts_publish before s).eventKept (by decide)

theorem publish_params (before s : State) : (publish before s).params = s.params := (acts_publish before s).params

theorem asks_motorLoad_notMem_publish (a : Actuator) : .asks (motorLoad a) ∉ publishEffects := by cases a <;> decide

/-- The publishing asks for lights only: a motor's load that is OFF or ADMITTED stands. -/
theorem publish_load (before : State) {s : State} {a : Actuator} (h : Firm (motorLoad a) s.budget) :
    (publish before s).budget.loads[motorLoad a] = s.budget.loads[motorLoad a] :=
  ((acts_publish before s).loadKept (asks_motorLoad_notMem_publish a)).1 h

theorem firm_of_off {i : Fin 17} {b : Budget} (h : b.loads[i].state = .off) : Firm i b := .inl h

theorem firm_of_admitted {a : Actuator} {b : Budget} (h : b.loads[motorLoad a].state = .admitted) : Firm (motorLoad a) b :=
  .inr ⟨h, motorLoad_notSheddable a⟩

theorem restOfMotionSame_trans {s t u : State} {a : Actuator} (h : restOfMotionSame s t a) (k : restOfMotionSame t u a) :
    restOfMotionSame s u a := by
  obtain ⟨h1, h2, h3, h4⟩ := h
  obtain ⟨k1, k2, k3, k4⟩ := k
  exact ⟨k1.trans h1, k2.trans h2, k3.trans h3, k4.trans h4⟩

/-- An off load of an actuator is off after the publishing. -/
theorem publish_load_off (before : State) {s : State} {a : Actuator} (h : s.budget.loads[motorLoad a].state = .off) :
    (publish before s).budget.loads[motorLoad a].state = .off := by
  rw [publish_load before (firm_of_off h), h]

/-! ## Commands of an actuator -/

theorem effectWhen_of_due {cond : Bool} {effect : State → State} {s : State} (hrun : s.running = true) (hcond : cond = true) :
    effectWhen cond effect s = .next (publish s (effect s)) := by
  unfold effectWhen
  rw [hrun, hcond]
  rfl

theorem onActuator_of_due {a : Actuator} {due : ActRec → Bool} {effect : State → State} {s : State}
    (hrun : s.running = true) (hhosted : (s.params.actuator a).hosted = true) (hdue : due (act s.motion a) = true) :
    onActuator a due effect s = .next (publish s (effect s)) :=
  effectWhen_of_due hrun (by rw [hhosted, hdue]; rfl)

theorem exec_stopArrival {s : State} {a : Actuator} (e : StopEnd) (hrun : s.running = true)
    (hhosted : (s.params.actuator a).hosted = true) :
    exec (.stopArrival a e) s = .next (publish s (arrivalAt a e s)) :=
  onActuator_of_due (due := fun _ => true) hrun hhosted rfl

theorem exec_stopDeparture {s : State} {a : Actuator} (e : StopEnd) (hrun : s.running = true)
    (hhosted : (s.params.actuator a).hosted = true) :
    exec (.stopDeparture a e) s = .next (publish s (departureAt a e s)) :=
  onActuator_of_due (due := fun _ => true) hrun hhosted rfl

theorem exec_hallEdge {s : State} {a : Actuator} (hrun : s.running = true)
    (hhosted : (s.params.actuator a).hosted = true) : exec (.hallEdge a) s = .next (hallEdgeAt a s) :=
  (onActuator_of_due (due := fun _ => true) hrun hhosted rfl).trans (by rw [publish_hallEdgeAt])

theorem exec_motorCurrentCrossing {s : State} {a : Actuator} (current : Nat) (hrun : s.running = true)
    (hhosted : (s.params.actuator a).hosted = true) :
    exec (.motorCurrentCrossing a current) s = .next (currentCrossing a current s) :=
  (onActuator_of_due (due := fun _ => true) hrun hhosted rfl).trans (by rw [publish_currentCrossing])

theorem currentCrossing_of_latched {a : Actuator} {current : Nat} {s : State} {l : Latched}
    (h : (act s.motion a).latched = some l) : currentCrossing a current s
      = putAct a { act s.motion a with overTimer := overAfter l current (act s.motion a).overTimer } s := by
  unfold currentCrossing
  simp only
  split
  · next h' => cases h.symm.trans h'
  · next l' h' =>
    cases h.symm.trans h'
    rfl

theorem currentCrossing_of_off {a : Actuator} {current : Nat} {s : State} (h : (act s.motion a).latched = none) :
    currentCrossing a current s = s := by
  unfold currentCrossing
  simp only [h]

/-- Settles O38, by whether the motor is driven. -/
theorem drivenMotorTakesEdgesAndCurrent : Obligations.DrivenMotorTakesEdgesAndCurrent := by
  refine ⟨fun s a hrun hhosted => ?_, fun s a current hrun hhosted => ?_⟩
  · rw [exec_hallEdge hrun hhosted]
    unfold hallEdgeAt
    refine ⟨fun h => ?_, fun h => ?_, fun h => ?_⟩
    · rw [if_pos h]
    · have hpos : positionAfter (s.params.actuator a) (act s.motion a).motor (act s.motion a).position
          = min ((act s.motion a).position + 1) (s.params.actuator a).length := by rw [h]; rfl
      rw [if_neg (by rw [h]; nofun), hpos]
    · have hpos : positionAfter (s.params.actuator a) (act s.motion a).motor (act s.motion a).position
          = (act s.motion a).position - 1 := by rw [h]; rfl
      rw [if_neg (by rw [h]; nofun), hpos]
  · rw [exec_motorCurrentCrossing current hrun hhosted]
    refine ⟨fun h => by rw [currentCrossing_of_off h], fun l h => ?_⟩
    rw [currentCrossing_of_latched h]
    refine ⟨fun hlt hover => ?_, fun x hlt hover => ?_, fun hle => ?_⟩
    · rw [hover, overAfter, if_pos hlt, Option.getD_none]
    · rw [overAfter, if_pos hlt, hover, Option.getD_some, ← hover, putAct_self]
    · rw [overAfter, if_neg (Nat.not_lt.mpr hle)]

/-! ## Faults (R124) -/

theorem countFault_motion (s : State) :
    (countFault s).motion = { s.motion with actuatorFaults := countUp s.motion.actuatorFaults } := rfl

/-- The state in which a fault is recorded: the travel ended, STOW-FAILED raised for a cause. -/
def faultBegun (a : Actuator) (s : State) : State :=
  if isMoving (act s.motion a).state then
    endTravel a .fault (if (act s.motion a).cause.isSome then raiseEvent .stowFailed s else s)
  else s

theorem enterFault_eq (a : Actuator) (f : ActFault) (s : State) : enterFault a f s
    = countFault (raiseEvent .actuatorFault (putAct a { act (faultBegun a s).motion a with
        state := .fault, faults := addFault (act (faultBegun a s).motion a).faults f } (faultBegun a s))) := by
  unfold enterFault faultBegun
  cases hm : isMoving (act s.motion a).state <;> simp [hm]

/-- The record of an actuator that enters FAULT (R124). -/
def faultedRecord (f : ActFault) (r : ActRec) : ActRec :=
  if isMoving r.state then { travelEnded r .fault r.position with faults := addFault r.faults f }
  else { r with state := .fault, faults := addFault r.faults f }

theorem act_faultBegun (a : Actuator) (s : State) : act (faultBegun a s).motion a
    = if isMoving (act s.motion a).state then travelEnded (act s.motion a) .fault (act s.motion a).position
      else act s.motion a := by
  unfold faultBegun
  split
  · rw [act_endTravel, endedTravel_eq_self]
    split
    · rw [raiseEvent_motion]
    · rfl
  · rfl

/-- What a fault keeps: of the motion controller all but the record and the count. -/
structure FaultKept (a : Actuator) (s t : State) : Prop where
  rest : restOfMotionSame s t a
  pins : t.motion.pins = s.motion.pins
  params : t.params = s.params
  load : LoadKept (motorLoad (otherActuator a)) s t

theorem FaultKept.trans {a : Actuator} {s t u : State} (h : FaultKept a s t) (k : FaultKept a t u) : FaultKept a s u :=
  ⟨restOfMotionSame_trans h.rest k.rest, k.pins.trans h.pins, k.params.trans h.params, h.load.trans k.load⟩

theorem Moved.faultKept {a : Actuator} {s t : State} (h : Moved a s t) : FaultKept a s t := ⟨h.rest, h.pins, h.params, h.load⟩

theorem faultKept_raiseEvent (a : Actuator) (e : Event) (s : State) : FaultKept a s (raiseEvent e s) := by
  refine ⟨?_, by rw [raiseEvent_motion], raiseEvent_params e s, loadKept_of_eq (by rw [raiseEvent_budget])⟩
  unfold restOfMotionSame
  rw [raiseEvent_motion]
  exact ⟨rfl, rfl, rfl, rfl⟩

theorem faultKept_countFault (a : Actuator) (s : State) : FaultKept a s (countFault s) :=
  ⟨⟨by cases a <;> rfl, rfl, rfl, rfl⟩, rfl, rfl, loadKept_of_eq rfl⟩

theorem faultKept_faultBegun (a : Actuator) (s : State) : FaultKept a s (faultBegun a s) := by
  unfold faultBegun
  split
  · refine FaultKept.trans ?_ (moved_endTravel a .fault _).faultKept
    split
    · exact faultKept_raiseEvent a _ s
    · exact (Moved.refl a s).faultKept
  · exact (Moved.refl a s).faultKept

theorem faultKept_enterFault (a : Actuator) (f : ActFault) (s : State) : FaultKept a s (enterFault a f s) := by
  rw [enterFault_eq]
  exact (((faultKept_faultBegun a s).trans (moved_putAct a _ _).faultKept).trans (faultKept_raiseEvent a _ _)).trans
    (faultKept_countFault a _)

theorem act_enterFault (a : Actuator) (f : ActFault) (s : State) :
    act (enterFault a f s).motion a = faultedRecord f (act s.motion a) := by
  have hcount (t : State) : act (countFault t).motion a = act t.motion a := by cases a <;> rfl
  rw [enterFault_eq, hcount, raiseEvent_motion, act_putAct_self, act_faultBegun]
  unfold faultedRecord
  split <;> rfl

theorem faultBegun_actuatorFaults (a : Actuator) (s : State) :
    (faultBegun a s).motion.actuatorFaults = s.motion.actuatorFaults := by
  unfold faultBegun
  split
  · rw [(moved_endTravel a .fault _).count]
    split
    · rw [raiseEvent_motion]
    · rfl
  · rfl

theorem enterFault_counts (a : Actuator) (f : ActFault) (s : State) :
    (enterFault a f s).motion.actuatorFaults = min 65535 (s.motion.actuatorFaults + 1)
    ∧ inSet (enterFault a f s).event.flags .actuatorFault = true := by
  have hcount : (enterFault a f s).motion.actuatorFaults = countUp s.motion.actuatorFaults := by
    rw [enterFault_eq, countFault_motion, raiseEvent_motion, (moved_putAct a _ _).count, faultBegun_actuatorFaults]
  refine ⟨hcount.trans (countUp_eq_min _), ?_⟩
  rw [enterFault_eq]
  exact inSet_raiseEvent _ _

theorem faultBegun_event (a : Actuator) (s : State) : (faultBegun a s).event
    = if isMoving (act s.motion a).state && (act s.motion a).cause.isSome then (raiseEvent .stowFailed s).event
      else s.event := by
  unfold faultBegun
  cases isMoving (act s.motion a).state with
  | false => rfl
  | true =>
    rw [if_pos rfl, (moved_endTravel a .fault _).event, Bool.true_and]
    split <;> rfl

/-- STOW-FAILED is raised exactly for a travel with a cause (R124). -/
theorem enterFault_stowFailed (a : Actuator) (f : ActFault) (s : State) :
    inSet (enterFault a f s).event.flags .stowFailed
      = (inSet s.event.flags .stowFailed || isMoving (act s.motion a).state && (act s.motion a).cause.isSome) := by
  have hraise (t : State) : inSet (raiseEvent .actuatorFault t).event.flags .stowFailed = inSet t.event.flags .stowFailed :=
    raisesOnly_raiseEvent .actuatorFault t .stowFailed (by decide)
  have hcount (t : State) : (countFault t).event = t.event := rfl
  rw [enterFault_eq, hcount, hraise, putAct_event, faultBegun_event]
  split
  · next h => rw [inSet_raiseEvent, h, Bool.or_true]
  · next h => rw [Bool.not_eq_true] at h; rw [h, Bool.or_false]

theorem enterFault_load {a : Actuator} {f : ActFault} {s : State} (h : isMoving (act s.motion a).state = true) :
    (enterFault a f s).budget.loads[motorLoad a].state = .off := by
  have hcount (t : State) : (countFault t).budget = t.budget := rfl
  rw [enterFault_eq, hcount, raiseEvent_budget, putAct_budget, faultBegun, if_pos h]
  exact load_endTravel a _ _

theorem enterFault_load_of_still {a : Actuator} {f : ActFault} {s : State} (h : isMoving (act s.motion a).state = false) :
    (enterFault a f s).budget = s.budget := by
  have hcount (t : State) : (countFault t).budget = t.budget := rfl
  rw [enterFault_of_still h, hcount, raiseEvent_budget, putAct_budget]

end Sys2Proof.Machine

/-! The end stops, the travel timers, the end of a pause and the wind meter. -/

namespace Sys2Proof.Machine

-- As in the tests, so that no command needs threads of its own.
set_option Elab.async false

/-! ## Stop pins (R113) -/

theorem setStop_pins (a : Actuator) (e : StopEnd) (active : Bool) (s : State) : (setStop a e active s).motion.pins
    = setPin s.motion.pins (if active then activeLevel (stopSense (s.params.actuator a) e)
        else !activeLevel (stopSense (s.params.actuator a) e)) a e := rfl

theorem act_setStop (a b : Actuator) (e : StopEnd) (active : Bool) (s : State) :
    act (setStop a e active s).motion b = act s.motion b := by cases b <;> rfl

theorem stopActive_setStop_self (a : Actuator) (e : StopEnd) (active : Bool) (s : State) :
    stopActive (setStop a e active s) a e = active := by
  have hpin (level : Bool) : pinLevel (setPin s.motion.pins level a e) a e = level := by cases a <;> cases e <;> rfl
  have hparams : (setStop a e active s).params = s.params := rfl
  unfold stopActive
  rw [setStop_pins, hpin, hparams]
  cases active <;> cases activeLevel (stopSense (s.params.actuator a) e) <;> rfl

theorem stopActive_setStop_other (a : Actuator) (e : StopEnd) (active : Bool) (s : State) :
    stopActive (setStop a e active s) a (otherStop e) = stopActive s a (otherStop e) := by
  have hpin (level : Bool) : pinLevel (setPin s.motion.pins level a e) a (otherStop e) = pinLevel s.motion.pins a (otherStop e) := by
    cases a <;> cases e <;> rfl
  have hparams : (setStop a e active s).params = s.params := rfl
  unfold stopActive
  rw [setStop_pins, hpin, hparams]

/-- A level of a pin is nothing that a status telegram reports. -/
theorem publish_setStop (a : Actuator) (e : StopEnd) (active : Bool) (s : State) :
    publish s (setStop a e active s) = setStop a e active s :=
  publish_of_untracked rfl (fun b => by cases b <;> rfl) rfl

theorem restOfMotionSame_setStop (a : Actuator) (e : StopEnd) (active : Bool) (s : State) :
    restOfMotionSame s (setStop a e active s) a := ⟨act_setStop a _ e active s, rfl, rfl, rfl⟩

theorem stopConflict_of_arrival (a : Actuator) (e : StopEnd) (s : State) :
    stopConflict (setStop a e true s) a = stopActive s a (otherStop e) := by
  have hself := stopActive_setStop_self a e true s
  have hother := stopActive_setStop_other a e true s
  unfold stopConflict
  cases e with
  | inStop =>
    have hother' : stopActive (setStop a .inStop true s) a .outStop = stopActive s a (otherStop .inStop) := hother
    rw [hself, hother', Bool.true_and]
  | outStop =>
    have hother' : stopActive (setStop a .outStop true s) a .inStop = stopActive s a (otherStop .outStop) := hother
    rw [hself, hother', Bool.and_true]

/-! ## Arrivals (R118, R123) -/

theorem arrivalAt_of_fault {a : Actuator} {e : StopEnd} {s : State} (h : (act s.motion a).state = .fault) :
    arrivalAt a e s = setStop a e true s := if_pos h

theorem arrivalAt_of_conflict {a : Actuator} {e : StopEnd} {s : State} (h : (act s.motion a).state ≠ .fault)
    (hc : stopActive s a (otherStop e) = true) : arrivalAt a e s = enterFault a .conflict (setStop a e true s) :=
  (if_neg h).trans (if_pos ((stopConflict_of_arrival a e s).trans hc))

theorem arrivalAt_of_clear {a : Actuator} {e : StopEnd} {s : State} (h : (act s.motion a).state ≠ .fault)
    (hc : stopActive s a (otherStop e) = false) : arrivalAt a e s = arrive a e (setStop a e true s) :=
  (if_neg h).trans (if_neg (by rw [stopConflict_of_arrival, hc]; nofun))

theorem moved_arrive (a : Actuator) (e : StopEnd) (s : State) : Moved a s (arrive a e s) := by
  unfold arrive
  split
  · exact moved_endAtStop a _ s
  · exact moved_endAtStop a _ s
  · exact moved_takeEnd a _ s
  · exact moved_takeEnd a _ s
  · exact moved_takeEnd a _ s
  · exact moved_takeEnd a _ s
  · exact .refl a s

theorem arrive_inStop {a : Actuator} {s : State} :
    ((act s.motion a).state = .retracting → arrive a .inStop s = endAtStop a .inStop s)
    ∧ (standsOut (act s.motion a).state → arrive a .inStop s = takeEnd a .inStop s)
    ∧ ((act s.motion a).state = .extending ∨ (act s.motion a).state = .stowed → arrive a .inStop s = s) := by
  refine ⟨fun h => ?_, fun h => ?_, fun h => ?_⟩
  · simp [arrive, h]
  · rcases h with h | h <;> simp [arrive, h]
  · rcases h with h | h <;> simp [arrive, h]

theorem arrive_outStop {a : Actuator} {s : State} :
    ((act s.motion a).state = .extending → arrive a .outStop s = endAtStop a .outStop s)
    ∧ ((act s.motion a).state = .stowed ∨ (act s.motion a).state = .stoppedMid → arrive a .outStop s = takeEnd a .outStop s)
    ∧ ((act s.motion a).state = .retracting ∨ (act s.motion a).state = .extended → arrive a .outStop s = s) := by
  refine ⟨fun h => ?_, fun h => ?_, fun h => ?_⟩
  · simp [arrive, h]
  · rcases h with h | h <;> simp [arrive, h]
  · rcases h with h | h <;> simp [arrive, h]

/-- What STOP_ARRIVAL leaves, beside the record it gives the actuator. -/
theorem arrival_rest (a : Actuator) (e : StopEnd) (s : State) :
    restOfMotionSame s (arrivalAt a e s) a ∧ (arrivalAt a e s).motion.pins = (setStop a e true s).motion.pins := by
  have hset := restOfMotionSame_setStop a e true s
  unfold arrivalAt
  simp only
  split
  · exact ⟨hset, rfl⟩
  · split
    · have hfault := faultKept_enterFault a .conflict (setStop a e true s)
      exact ⟨restOfMotionSame_trans hset hfault.rest, hfault.pins⟩
    · have hmoved := moved_arrive a e (setStop a e true s)
      exact ⟨restOfMotionSame_trans hset hmoved.rest, hmoved.pins⟩

/-! ## Departures (R119) -/

/-- The actuator is no longer at its end, when the stop of sense both has departed. -/
def leftEnd (a : Actuator) (e : StopEnd) (s : State) : State :=
  putAct a { act s.motion a with state := .stoppedMid } (setStop a e false s)

theorem departureAt_of_untaken {a : Actuator} {e : StopEnd} {s : State}
    (h : stopSense (s.params.actuator a) e ≠ .both ∨ (act s.motion a).state ≠ endState e) :
    departureAt a e s = setStop a e false s := by
  refine if_neg fun hc => ?_
  obtain ⟨hsense, hstate⟩ := hc
  rw [act_setStop] at hstate
  exact h.elim (fun h' => h' hsense) fun h' => h' (beq_iff_eq.mp hstate)

theorem departureAt_of_taken {a : Actuator} {e : StopEnd} {s : State} (hsense : stopSense (s.params.actuator a) e = .both)
    (hstate : (act s.motion a).state = endState e) : departureAt a e s
      = if inUse s.params s.motion.vehicle then raiseEvent .interlockRetract (autoRetract a .vehicle (leftEnd a e s))
        else leftEnd a e s := by
  have hleft : leftEnd a e s
      = putAct a { act (setStop a e false s).motion a with state := .stoppedMid } (setStop a e false s) := by
    rw [act_setStop]
    rfl
  rw [hleft]
  refine if_pos ⟨hsense, ?_⟩
  rw [act_setStop, departsFrom, hstate]
  exact beq_self_eq_true _

theorem moved_leftEnd (a : Actuator) (e : StopEnd) (s : State) : Moved a (setStop a e false s) (leftEnd a e s) :=
  moved_putAct a _ _

theorem stopActive_leftEnd (a : Actuator) (e : StopEnd) (s : State) (d : StopEnd) :
    stopActive (leftEnd a e s) a d = stopActive (setStop a e false s) a d := (moved_leftEnd a e s).stopActive a d

/-- The in-stop once a stop has departed: inactive if it is the one, and as it was otherwise. -/
theorem inStop_leftEnd (a : Actuator) (e : StopEnd) (s : State) : stopActive (leftEnd a e s) a .inStop
    = match e with
      | .inStop => false
      | .outStop => stopActive s a .inStop := by
  rw [stopActive_leftEnd]
  cases e with
  | inStop => exact stopActive_setStop_self a .inStop false s
  | outStop => exact stopActive_setStop_other a .outStop false s

theorem departure_rest {a : Actuator} {e : StopEnd} {s : State} (hsense : stopSense (s.params.actuator a) e = .both)
    (hstate : (act s.motion a).state = endState e) : restOfMotionSame s (departureAt a e s) a
      ∧ (departureAt a e s).motion.pins = (setStop a e false s).motion.pins := by
  have hset := restOfMotionSame_setStop a e false s
  have hleft := moved_leftEnd a e s
  rw [departureAt_of_taken hsense hstate]
  split
  · have hretract : Moved a (leftEnd a e s) (autoRetract a .vehicle (leftEnd a e s)) :=
      moved_autoRetract (by rw [leftEnd, act_putAct_self]; nofun)
    have hmoved := hleft.trans hretract
    have hraise := faultKept_raiseEvent a .interlockRetract (autoRetract a .vehicle (leftEnd a e s))
    exact ⟨restOfMotionSame_trans hset (restOfMotionSame_trans hmoved.rest hraise.rest), hraise.pins.trans hmoved.pins⟩
  · exact ⟨restOfMotionSame_trans hset hleft.rest, hleft.pins⟩

theorem endStops_arrival (s : State) (a : Actuator) (e : StopEnd) :
    ((act s.motion a).state = .fault → act (arrivalAt a e s).motion a = act s.motion a)
    ∧ ((act s.motion a).state ≠ .fault → stopActive s a (otherStop e) = true →
        act (arrivalAt a e s).motion a = faultedRecord .conflict (act s.motion a)) := by
  refine ⟨fun h => ?_, fun h hc => ?_⟩
  · rw [arrivalAt_of_fault h, act_setStop]
  · rw [arrivalAt_of_conflict h hc, act_enterFault, act_setStop]

theorem faultedRecord_kept (f : ActFault) (r : ActRec) : (faultedRecord f r).state = .fault
    ∧ (faultedRecord f r).faults = addFault r.faults f ∧ (faultedRecord f r).position = r.position
    ∧ (faultedRecord f r).hold = r.hold := by
  unfold faultedRecord
  split
  · exact ⟨rfl, rfl, rfl, by simp [travelEnded]⟩
  · exact ⟨rfl, rfl, rfl, rfl⟩

theorem faultedRecord_of_moving {f : ActFault} {r : ActRec} (h : isMoving r.state = true) :
    faultedRecord f r = { travelEnded r .fault r.position with faults := addFault r.faults f } := if_pos h

/-- Settles O37: arrivals by fault, conflict and state, departures by sense, state and vehicle. -/
theorem endStopsActByState : Obligations.EndStopsActByState := by
  refine ⟨fun s a e hrun hhosted => ?_, fun s a e hrun hhosted => ⟨fun h => ?_, fun hsense hstate => ?_⟩⟩
  · obtain ⟨hrest, hpins⟩ := arrival_rest a e s
    refine ⟨_, exec_stopArrival e hrun hhosted, ?_, restOfMotionSame_trans hrest (publish_rest s _ a), fun h => ?_,
      fun h hc => ?_, fun h hc => ⟨?_, ?_⟩⟩
    · rw [publish_pins, hpins]
      rfl
    · rw [arrivalAt_of_fault h, publish_setStop, act_setStop]
      exact ⟨rfl, rfl, rfl⟩
    · have hset : (setStop a e true s).motion.actuatorFaults = s.motion.actuatorFaults := rfl
      obtain ⟨hcount, hraised⟩ := enterFault_counts a .conflict (setStop a e true s)
      obtain ⟨hfstate, hfaults, hposition, hhold⟩ := faultedRecord_kept .conflict (act s.motion a)
      rw [publish_act, publish_event, publish_actuatorFaults, (endStops_arrival s a e).2 h hc, hfaults]
      refine ⟨hfstate, rfl, hposition, hhold, ?_, ?_, fun hmoves => ?_⟩
      · rw [arrivalAt_of_conflict h hc]
        exact hraised
      · rw [arrivalAt_of_conflict h hc, hcount, hset]
      · have hmoves' : isMoving (act (setStop a e true s).motion a).state = true := by rw [act_setStop]; exact hmoves
        rw [faultedRecord_of_moving hmoves, arrivalAt_of_conflict h hc]
        refine ⟨rfl, rfl, publish_load_off s (enterFault_load hmoves'), fun hcause => ?_⟩
        rw [enterFault_stowFailed, hmoves', act_setStop, Option.isSome_iff_ne_none.mpr hcause]
        simp
    · rintro rfl
      obtain ⟨hends, htakes, hstays⟩ := arrive_inStop (a := a) (s := setStop a .inStop true s)
      rw [act_setStop] at hends htakes hstays
      rw [arrivalAt_of_clear h hc, publish_act]
      refine ⟨fun hst => ?_, fun hst => ?_, fun hst => ?_⟩
      · rw [hends hst, act_endAtStop, act_setStop]
        exact ⟨rfl, publish_load_off s (load_endAtStop a _ _)⟩
      · rw [htakes hst, act_takeEnd, act_setStop]
        rfl
      · rw [hstays hst, act_setStop]
    · rintro rfl
      obtain ⟨hends, htakes, hstays⟩ := arrive_outStop (a := a) (s := setStop a .outStop true s)
      rw [act_setStop] at hends htakes hstays
      rw [arrivalAt_of_clear h hc, publish_act]
      refine ⟨fun hst => ?_, fun hst => ?_, fun hst => ?_⟩
      · rw [hends hst, act_endAtStop, act_setStop]
        exact ⟨rfl, publish_load_off s (load_endAtStop a _ _)⟩
      · rw [htakes hst, act_takeEnd, act_setStop]
        rfl
      · rw [hstays hst, act_setStop]
  · rw [exec_stopDeparture e hrun hhosted, departureAt_of_untaken (h.imp_right fun h' => by cases e <;> exact h'),
      publish_setStop]
    rfl
  · replace hstate : (act s.motion a).state = endState e := by cases e <;> exact hstate
    obtain ⟨hrest, hpins⟩ := departure_rest hsense hstate
    refine ⟨_, exec_stopDeparture e hrun hhosted, ?_, restOfMotionSame_trans hrest (publish_rest s _ a), fun huse => ?_,
      fun huse => ⟨?_, ?_, ?_⟩⟩
    · rw [publish_pins, hpins, setStop_pins, hsense]
      rfl
    · rw [publish_act, publish_event, departureAt_of_taken hsense hstate, huse, if_neg nofun]
      refine ⟨act_putAct_self a _ _, ?_⟩
      rw [(moved_leftEnd a e s).event]
      rfl
    · rw [publish_event, departureAt_of_taken hsense hstate, huse, if_pos rfl]
      exact inSet_raiseEvent _ _
    · rintro rfl hin
      have hout : standsOut (act (leftEnd a .outStop s).motion a).state := by
        rw [leftEnd, act_putAct_self]
        exact .inr rfl
      rw [publish_act, departureAt_of_taken hsense hstate, huse, if_pos rfl, raiseEvent_motion,
        autoRetract_of_out_active hout ((inStop_leftEnd a .outStop s).trans hin), act_putAct_self, leftEnd, act_putAct_self]
    · intro hin
      have hout : standsOut (act (leftEnd a e s).motion a).state := by
        rw [leftEnd, act_putAct_self]
        exact .inr rfl
      have hclear : stopActive (leftEnd a e s) a .inStop = false := by
        rw [inStop_leftEnd]
        cases e with
        | inStop => rfl
        | outStop => exact hin.resolve_left nofun
      rw [publish_act, departureAt_of_taken hsense hstate, huse, if_pos rfl, raiseEvent_motion,
        autoRetract_of_out_clear hout hclear, act_recordCause, act_startInward hclear, (moved_leftEnd a e s).params,
        leftEnd, act_putAct_self]
      rfl

end Sys2Proof.Machine

/-! The travel timers, the end of a pause, the wind meter and the vehicle interlock. -/

namespace Sys2Proof.Machine

-- As in the tests, so that no command needs threads of its own.
set_option Elab.async false

/-! ## The travel timers (R121, R122, R124) -/

theorem reached_some {limit x : Nat} (h : limit ≤ x) : reached limit (some x) = true := decide_eq_true h

theorem exec_travelTimeout {s : State} {a : Actuator} {l : Latched} {x : Nat} (hrun : s.running = true)
    (hhosted : (s.params.actuator a).hosted = true) (hlatched : (act s.motion a).latched = some l)
    (htimer : (act s.motion a).travelTimer = some x) (hx : l.timeout * 1000 ≤ x) :
    exec (.travelTimeout a) s = .next (publish s (enterFault a .travelTimeout s)) := by
  refine onActuator_of_due (due := travelOverdue) hrun hhosted ?_
  unfold travelOverdue
  rw [hlatched, htimer]
  exact reached_some hx

theorem exec_stall {s : State} {a : Actuator} {x : Nat} (hrun : s.running = true)
    (hhosted : (s.params.actuator a).hosted = true) (htimer : (act s.motion a).stallTimer = some x) (hx : 500 ≤ x) :
    exec (.stall a) s = .next (publish s (enterFault a .stall s)) :=
  onActuator_of_due (due := fun r => reached Config.stallMs r.stallTimer) hrun hhosted (by rw [htimer]; exact reached_some hx)

theorem exec_overcurrentExpiry {s : State} {a : Actuator} {x : Nat} (hrun : s.running = true)
    (hhosted : (s.params.actuator a).hosted = true) (htimer : (act s.motion a).overTimer = some x) (hx : 200 ≤ x) :
    exec (.overcurrentExpiry a) s = .next (publish s (overcurrentAt a s)) :=
  onActuator_of_due (due := fun r => reached Config.overcurrentMs r.overTimer) hrun hhosted
    (by rw [htimer]; exact reached_some hx)

theorem exec_pauseEnd {s : State} {a : Actuator} {x : Nat} (hrun : s.running = true)
    (hhosted : (s.params.actuator a).hosted = true) (htimer : (act s.motion a).pauseTimer = some x) (hx : 300 ≤ x) :
    exec (.pauseEnd a) s = .next (publish s (endPause a s)) :=
  onActuator_of_due (due := fun r => reached Config.pauseMs r.pauseTimer) hrun hhosted
    (by rw [htimer]; exact reached_some hx)

/-- A travel that ends in FAULT, published. -/
theorem publish_enterFault {s : State} {a : Actuator} (f : ActFault) (hmoves : isMoving (act s.motion a).state = true) :
    act (publish s (enterFault a f s)).motion a
      = { travelEnded (act s.motion a) .fault (act s.motion a).position with faults := addFault (act s.motion a).faults f }
    ∧ (publish s (enterFault a f s)).motion.pins = s.motion.pins
    ∧ restOfMotionSame s (publish s (enterFault a f s)) a
    ∧ (publish s (enterFault a f s)).motion.actuatorFaults = min 65535 (s.motion.actuatorFaults + 1)
    ∧ inSet (publish s (enterFault a f s)).event.flags .actuatorFault = true
    ∧ ((act s.motion a).cause ≠ none → inSet (publish s (enterFault a f s)).event.flags .stowFailed = true)
    ∧ ((act s.motion a).cause = none →
        inSet (publish s (enterFault a f s)).event.flags .stowFailed = inSet s.event.flags .stowFailed)
    ∧ (publish s (enterFault a f s)).budget.loads[motorLoad a].state = .off := by
  have hkept := faultKept_enterFault a f s
  obtain ⟨hcount, hraised⟩ := enterFault_counts a f s
  rw [publish_act, publish_pins, publish_actuatorFaults, publish_event, act_enterFault, faultedRecord_of_moving hmoves,
    enterFault_stowFailed, hmoves]
  refine ⟨rfl, hkept.pins, restOfMotionSame_trans hkept.rest (publish_rest s _ a), hcount, hraised, fun hc => ?_,
    fun hc => ?_, publish_load_off s (enterFault_load hmoves)⟩
  · rw [Option.isSome_iff_ne_none.mpr hc]
    simp
  · rw [hc]
    simp

theorem overcurrentAt_of_inward {a : Actuator} {s : State} (h : (act s.motion a).motor = .inward) :
    overcurrentAt a s = enterFault a .obstructed s := if_pos h

theorem overcurrentAt_step {s : State} (h : (act s.motion .step).motor ≠ .inward) :
    overcurrentAt .step s = recordCause .step .stow (reverseInward .step s) := if_neg h

theorem overcurrentAt_awning {s : State} (h : (act s.motion .awning).motor ≠ .inward) :
    overcurrentAt .awning s = endTravel .awning .stoppedMid s := if_neg h

/-- Settles O39, by the timer and the direction. -/
theorem travelTimersEndTheTravel : Obligations.TravelTimersEndTheTravel := by
  refine ⟨fun s a c f hrun hhosted hmoves hdue => ?_, fun s a x hrun hhosted hext hmotor hover hx => ?_⟩
  · rcases hdue with ⟨rfl, rfl, l, x, hlatched, htimer, hx⟩ | ⟨rfl, rfl, x, htimer, hx⟩ | ⟨rfl, rfl, hin, x, htimer, hx⟩
    · exact ⟨_, exec_travelTimeout hrun hhosted hlatched htimer hx, publish_enterFault .travelTimeout hmoves⟩
    · exact ⟨_, exec_stall hrun hhosted htimer hx, publish_enterFault .stall hmoves⟩
    · refine ⟨_, exec_overcurrentExpiry hrun hhosted htimer hx, ?_⟩
      rw [overcurrentAt_of_inward hin]
      exact publish_enterFault .obstructed hmoves
  · have hne : (act s.motion a).motor ≠ .inward := by rw [hmotor]; nofun
    refine ⟨_, exec_overcurrentExpiry hrun hhosted hover hx, ?_⟩
    cases a with
    | step =>
      rw [overcurrentAt_step hne]
      have hmoved := (moved_reverseInward .step s).trans (moved_recordCause .step .stow _)
      have hload : (recordCause .step .stow (reverseInward .step s)).budget.loads[motorLoad .step]
          = admittedFor .c0 (release (motorLoad .step) s).budget.loads[motorLoad .step] := by
        rw [recordCause, putAct_budget, load_reverseInward]
      rw [publish_event, publish_actuatorFaults, publish_act, hmoved.event, hmoved.count, act_recordCause, act_reverseInward,
        publish_load s (firm_of_admitted (by rw [hload]; rfl)), hload]
      exact ⟨rfl, rfl, restOfMotionSame_trans hmoved.rest (publish_rest s _ _), fun _ => ⟨rfl, rfl, rfl⟩, nofun⟩
    | awning =>
      rw [overcurrentAt_awning hne]
      have hmoved := moved_endTravel .awning .stoppedMid s
      rw [publish_event, publish_actuatorFaults, publish_act, hmoved.event, hmoved.count, act_endTravel, endedTravel_eq_self]
      exact ⟨rfl, rfl, restOfMotionSame_trans hmoved.rest (publish_rest s _ _), nofun,
        fun _ => ⟨rfl, publish_load_off s (load_endTravel _ _ _)⟩⟩

/-- A pause that ends at an active stop, published. -/
theorem exec_pauseEnd_of_active {s : State} {a : Actuator} {e : StopEnd} {x : Nat} (hrun : s.running = true)
    (hhosted : (s.params.actuator a).hosted = true) (htimer : (act s.motion a).pauseTimer = some x) (hx : 300 ≤ x)
    (he : endAhead (act s.motion a).state = e) (hactive : stopActive s a e = true) :
    ∃ t : State, exec (.pauseEnd a) s = .next t
      ∧ act t.motion a = travelEnded (act s.motion a) (endState e) (endPosition (s.params.actuator a) e)
      ∧ restOfMotionSame s t a ∧ t.budget.loads[motorLoad a].state = .off := by
  refine ⟨_, exec_pauseEnd hrun hhosted htimer hx, ?_⟩
  rw [endPause_of_active he hactive, publish_act, act_endAtStop]
  exact ⟨rfl, restOfMotionSame_trans (moved_endAtStop a e s).rest (publish_rest s _ a),
    publish_load_off s (load_endAtStop a e s)⟩

/-- Settles O40, by direction and stop. -/
theorem pauseEndDrivesOrEndsTheTravel : Obligations.PauseEndDrivesOrEndsTheTravel := by
  intro s a x hrun hhosted htimer hx
  refine ⟨fun hst => ⟨fun hclear => ?_, fun hactive => ?_⟩, fun hst => ⟨fun hclear => ?_, fun hactive => ?_⟩⟩
  · rw [exec_pauseEnd hrun hhosted htimer hx, endPause_of_clear (e := .inStop) (by rw [hst]; rfl) hclear,
      driveToward_inStop, publish_putAct (r := drivenInward _ _ _ _) hst.symm rfl rfl]
  · exact exec_pauseEnd_of_active hrun hhosted htimer hx (by rw [hst]; rfl) hactive
  · rw [exec_pauseEnd hrun hhosted htimer hx, endPause_of_clear (e := .outStop) (by rw [hst]; rfl) hclear,
      driveToward_outStop, publish_putAct (r := drivenOutward _ _ _ _) hst.symm rfl rfl]
  · exact exec_pauseEnd_of_active hrun hhosted htimer hx (by rw [hst]; rfl) hactive

/-! ## The wind meter (R134, R135) -/

theorem exec_anemometerEdge {s : State} (hrun : s.running = true) (hhosted : s.params.wind.hosted = true) :
    exec .anemometerEdge s = .next (publish s (windEdge s)) := effectWhen_of_due hrun hhosted

theorem windPeriod_eq (last now : Nat) : windPeriod last now = if now - last = 0 then 1 else now - last := by
  unfold windPeriod
  split <;> omega

theorem windEdge_of_first {s : State} (h : s.motion.wind.lastCapture = none) :
    windEdge s = putWind { s.motion.wind with lastCapture := some s.clock, silence := some 0 } s := by
  unfold windEdge
  simp only
  split
  · rfl
  · next h' => cases h.symm.trans h'

/-- A later edge stores speed and gust count, and a gust is taken (R135). -/
theorem windEdge_of_later {s : State} {last speed gusts : Nat} (h : s.motion.wind.lastCapture = some last)
    (hspeed : speed = s.params.wind.kw / windPeriod last s.clock)
    (hgusts : gusts = gustsAfter s.params.wind speed s.motion.wind.gusts) :
    windEdge s = if gusts < 3 then putWind { lastCapture := some s.clock, speed := speed, gusts := gusts, silence := some 0 } s
      else takeGust (putWind { lastCapture := some s.clock, speed := speed, gusts := 0, silence := some 0 } s) := by
  unfold windEdge
  simp only
  split
  · next h' => cases h.symm.trans h'
  · next last' h' =>
    cases h.symm.trans h'
    rw [hgusts, hspeed]

theorem takeGust_of_in {s : State} (h : s.motion.awning.state ∈ [ActState.stowed, .retracting, .fault]) : takeGust s = s := by
  unfold takeGust
  split
  · next h' => simp [h'] at h
  · next h' => simp [h'] at h
  · next h' => simp [h'] at h
  · rfl

theorem takeGust_of_out {s : State} (h : s.motion.awning.state ∈ [ActState.extending, .extended, .stoppedMid]) :
    takeGust s = raiseEvent .windRetract (autoRetract .awning .wind s) := by
  simp only [List.mem_cons, List.not_mem_nil, or_false] at h
  rcases h with h | h | h <;> simp [takeGust, h]

/-- An auto-retraction keeps the hold, and brings in an actuator that was out (R131). -/
theorem autoRetract_of_moving_out {a : Actuator} (c : Cause) {s : State}
    (h : (act s.motion a).state ∈ [ActState.extending, .extended, .stoppedMid]) :
    (act (autoRetract a c s).motion a).hold = (act s.motion a).hold
    ∧ ((act (autoRetract a c s).motion a).state = .stowed ∧ (act s.motion a).state ≠ .extending
        ∧ stopActive s a .inStop = true
      ∨ (act (autoRetract a c s).motion a).state = .retracting ∧ (act (autoRetract a c s).motion a).cause = some c) := by
  simp only [List.mem_cons, List.not_mem_nil, or_false] at h
  rcases h with h | h
  · rw [autoRetract_of_extending h, act_recordCause, act_reverseInward]
    exact ⟨rfl, .inr ⟨rfl, rfl⟩⟩
  · have hne : (act s.motion a).state ≠ .extending := by rcases h with h | h <;> rw [h] <;> nofun
    cases hin : stopActive s a .inStop with
    | true =>
      rw [autoRetract_of_out_active h hin, act_putAct_self]
      exact ⟨rfl, .inl ⟨rfl, hne, rfl⟩⟩
    | false =>
      rw [autoRetract_of_out_clear h hin, act_recordCause, act_startInward hin]
      exact ⟨rfl, .inr ⟨rfl, rfl⟩⟩

/-- Settles O41, by the latched capture and the gust count. -/
theorem windEdgesGiveSpeedAndGusts : Obligations.WindEdgesGiveSpeedAndGusts := by
  intro s hrun hhosted
  refine ⟨fun h => ?_, fun last speed gusts h hspeed hgusts => ?_, fun x h hx => ?_⟩
  · rw [exec_anemometerEdge hrun hhosted, windEdge_of_first h, publish_putWind]
    rfl
  · have hedge := windEdge_of_later h (by rw [windPeriod_eq]; exact hspeed) hgusts
    refine ⟨fun hlt => ?_, fun hge => ?_⟩
    · rw [exec_anemometerEdge hrun hhosted, hedge, if_pos hlt, publish_putWind]
      rfl
    · rw [if_neg (Nat.not_lt.mpr hge)] at hedge
      refine ⟨_, exec_anemometerEdge hrun hhosted, ?_⟩
      generalize hw : putWind { lastCapture := some s.clock, speed := speed, gusts := 0, silence := some 0 } s = w at hedge
      have hwind : w.motion.wind = { lastCapture := some s.clock, speed := speed, gusts := 0, silence := some 0 } := by
        rw [← hw]
        rfl
      have hawning : w.motion.awning = s.motion.awning := by rw [← hw]; rfl
      have hstep : w.motion.step = s.motion.step := by rw [← hw]; rfl
      have hpins : stopActive w .awning .inStop = stopActive s .awning .inStop := by rw [← hw]; rfl
      have hevent : w.event = s.event := by rw [← hw]; rfl
      have hself : publish s w = w := by rw [← hw]; exact publish_putWind _ s
      rw [hedge]
      by_cases hin : s.motion.awning.state ∈ [ActState.stowed, .retracting, .fault]
      · rw [takeGust_of_in (by rw [hawning]; exact hin), hself]
        refine ⟨hwind, hstep, fun _ => ⟨hawning, hevent⟩, fun hout => ?_⟩
        exfalso
        revert hin hout
        cases s.motion.awning.state <;> decide
      · have hout : s.motion.awning.state ∈ [ActState.extending, .extended, .stoppedMid] := by
          revert hin
          cases s.motion.awning.state <;> decide
        have houtw : (act w.motion .awning).state ∈ [ActState.extending, .extended, .stoppedMid] := by
          show w.motion.awning.state ∈ _
          rw [hawning]
          exact hout
        have hne : (act w.motion .awning).state ≠ .fault := by
          intro hf
          rw [hf] at houtw
          revert houtw
          decide
        have hmoved := moved_autoRetract (c := .wind) hne
        obtain ⟨hother, hwinds, _⟩ := hmoved.rest
        obtain ⟨hhold, hends⟩ := autoRetract_of_moving_out .wind houtw
        have hact : (act w.motion .awning) = s.motion.awning := hawning
        rw [hact, hpins] at hends
        rw [takeGust_of_out (by rw [hawning]; exact hout)]
        have hmotion : (publish s (raiseEvent .windRetract (autoRetract .awning .wind w))).motion.awning
            = act (autoRetract .awning .wind w).motion .awning := by
          rw [publish_motion, raiseEvent_motion]
          rfl
        have hsteps : (publish s (raiseEvent .windRetract (autoRetract .awning .wind w))).motion.step
            = act (autoRetract .awning .wind w).motion .step := by
          rw [publish_motion, raiseEvent_motion]
          rfl
        rw [publish_wind, raiseEvent_motion, hwinds, hwind, hmotion, hsteps, publish_event]
        exact ⟨rfl, hother.trans hstep, fun h' => absurd h' hin,
          fun _ => ⟨inSet_raiseEvent _ _, hhold.trans (by rw [hact]), hends⟩⟩
  · have hexec : exec .windSilenceExpiry s = .next (publish s (windFallsSilent s)) :=
      effectWhen_of_due hrun (by rw [hhosted, h]; exact reached_some hx)
    rw [hexec, windFallsSilent, publish_putWind]
    rfl

end Sys2Proof.Machine

/-! Operations on every hosted actuator: the vehicle interlock and STOW. -/

namespace Sys2Proof.Machine

-- As in the tests, so that no command needs threads of its own.
set_option Elab.async false

/-! ## One actuator after the other -/

/-- One actuator and its load stand as they were, while the other may have moved. -/
structure Beside (a : Actuator) (s t : State) : Prop where
  act : Machine.act t.motion a = Machine.act s.motion a
  wind : t.motion.wind = s.motion.wind
  vehicle : t.motion.vehicle = s.motion.vehicle
  storage : t.motion.storage = s.motion.storage
  pins : t.motion.pins = s.motion.pins
  params : t.params = s.params
  load : LoadKept (motorLoad a) s t

theorem Beside.refl (a : Actuator) (s : State) : Beside a s s := ⟨rfl, rfl, rfl, rfl, rfl, rfl, .refl _ s⟩

theorem Beside.stopActive {a : Actuator} {s t : State} (h : Beside a s t) (b : Actuator) (e : StopEnd) :
    Machine.stopActive t b e = Machine.stopActive s b e := stopActive_congr h.params h.pins b e

theorem FaultKept.beside {a b : Actuator} {s t : State} (h : FaultKept b s t) (hab : a ≠ b) : Beside a s t := by
  obtain rfl : a = otherActuator b := (eq_or_eq_other b a).resolve_left hab
  obtain ⟨⟨hact, hwind, hvehicle, hstorage⟩, hpins, hparams, hload⟩ := h
  exact ⟨hact, hwind, hvehicle, hstorage, hpins, hparams, hload⟩

theorem Beside.off {a : Actuator} {s t : State} (h : Beside a s t) (hoff : s.budget.loads[motorLoad a].state = .off) :
    t.budget.loads[motorLoad a].state = .off := by rw [h.load.1 (firm_of_off hoff), hoff]

theorem Beside.admittedLoad {a : Actuator} {s t : State} (h : Beside a s t)
    (hadm : s.budget.loads[motorLoad a].state = .admitted) :
    t.budget.loads[motorLoad a] = s.budget.loads[motorLoad a] := h.load.1 (firm_of_admitted hadm)

/-- The hosted actuators, awning before step. -/
theorem hostedActs_eq (p : Params) : hostedActs p
    = (if (p.actuator .awning).hosted then [.awning] else []) ++ if (p.actuator .step).hosted then [Actuator.step] else [] := by
  unfold hostedActs
  cases hb : (p.actuator .awning).hosted <;> cases hc : (p.actuator .step).hosted <;> simp [hb, hc]

theorem mem_hostedActs (p : Params) (a : Actuator) : a ∈ hostedActs p ↔ (p.actuator a).hosted = true := by
  unfold hostedActs
  cases a <;> simp

/-- An operation on every hosted actuator leaves an actuator that is not hosted, and acts once on one that is. -/
theorem foldl_hosted {f : State → Actuator → State} (hf : ∀ t b, FaultKept b t (f t b)) (s : State) (a : Actuator) :
    ((s.params.actuator a).hosted = false → Beside a s ((hostedActs s.params).foldl f s))
    ∧ ((s.params.actuator a).hosted = true →
      ∃ t, Beside a s t ∧ Beside a (f t a) ((hostedActs s.params).foldl f s)) := by
  have hawning (t : State) : Beside .step t (f t .awning) := (hf t .awning).beside nofun
  have hstep (t : State) : Beside .awning t (f t .step) := (hf t .step).beside nofun
  rw [hostedActs_eq]
  cases hb : (s.params.actuator .awning).hosted <;> cases hc : (s.params.actuator .step).hosted <;> cases a
  case false.false.awning | false.false.step => exact ⟨fun _ => .refl _ s, fun h => by simp_all⟩
  case false.true.awning => exact ⟨fun _ => hstep s, fun h => by simp_all⟩
  case false.true.step => exact ⟨fun h => by simp_all, fun _ => ⟨s, .refl _ s, .refl _ _⟩⟩
  case true.false.awning => exact ⟨fun h => by simp_all, fun _ => ⟨s, .refl _ s, .refl _ _⟩⟩
  case true.false.step => exact ⟨fun _ => hawning s, fun h => by simp_all⟩
  case true.true.awning => exact ⟨fun h => by simp_all, fun _ => ⟨s, .refl _ s, hstep _⟩⟩
  case true.true.step => exact ⟨fun h => by simp_all, fun _ => ⟨f s .awning, hawning s, .refl _ _⟩⟩

/-! ## Flags are not cleared -/

/-- An operation that does not write the event unit clears no flag. -/
theorem Acts.flags {L : List Effect} {s t : State} (h : Acts L s t) (hL : .writes .event ∉ L) {e : Event}
    (he : inSet s.event.flags e = true) : inSet t.event.flags e = true := by
  induction h with
  | refl => exact he
  | event _ _ k ih =>
    obtain ⟨m, ⟨b, rfl, _⟩, hsteps⟩ := k.rebased_steps
    exact hsteps.frame.flags _ ih
  | send k p _ _ ih => rw [sendTelegram_event]; exact ih
  | raise _ _ ih => exact inSet_raiseEvent_of_set ih
  | write hw _ k ih =>
    rw [show _ = _ from k.frame .event fun hmem => hL (hw _ hmem)]
    exact ih
  | clear page _ _ ih => rw [clearPage_event]; exact ih

/-! ## The vehicle interlock (R130 to R133) -/

theorem faultKept_autoRetract (a : Actuator) (c : Cause) (s : State) : FaultKept a s (autoRetract a c s) := by
  by_cases h : (act s.motion a).state = .fault
  · rw [autoRetract_of_fault h]
    exact faultKept_raiseEvent a _ s
  · exact (moved_autoRetract h).faultKept

theorem faultKept_stopExtension (s : State) (a : Actuator) : FaultKept a s (stopExtension s a) := by
  unfold stopExtension
  split
  · exact (moved_endTravel a _ s).faultKept
  · exact (Moved.refl a s).faultKept

theorem autoRetract_hold (a : Actuator) (c : Cause) (s : State) :
    (act (autoRetract a c s).motion a).hold = (act s.motion a).hold := by
  cases hst : (act s.motion a).state with
  | stowed => rw [autoRetract_of_stowed hst]
  | fault => rw [autoRetract_of_fault hst, raiseEvent_motion]
  | retracting => rw [autoRetract_of_retracting hst, act_putAct_self]
  | extending | extended | stoppedMid => exact (autoRetract_of_moving_out c (by rw [hst]; decide)).1

theorem endedTravel_hold {st : ActState} (h : st ≠ .stowed) (r : ActRec) : (endedTravel st r).hold = r.hold := by
  have hst : (st == .stowed) = false := beq_false_of_ne h
  simp [endedTravel, hst]

theorem stopExtension_hold (s : State) (a : Actuator) : (act (stopExtension s a).motion a).hold = (act s.motion a).hold := by
  unfold stopExtension
  split
  · rw [act_endTravel, endedTravel_hold (st := .stoppedMid) nofun]
  · rfl

/-- The state with the vehicle state taken, before the interlock acts. -/
def withVehicle (v : VehicleState) (s : State) : State := s.setMotion { s.motion with vehicle := v }

theorem act_withVehicle (v : VehicleState) (s : State) (a : Actuator) : act (withVehicle v s).motion a = act s.motion a := by
  cases a <;> rfl

theorem handVehicle_eq (v : VehicleState) (s : State) : handVehicle v s =
    if inUse s.params v && !inUse s.params s.motion.vehicle then interlockRise (withVehicle v s)
    else if interlockActive s.params v then interlockHolds (withVehicle v s)
    else withVehicle v s := rfl

theorem handVehicle_vehicle (v : VehicleState) (s : State) : (handVehicle v s).motion.vehicle = v := by
  have hcopies := (acts_handVehicle_after v s).viewCopies (by decide)
  exact congrArg Prod.fst hcopies

/-- The rise acts on every hosted actuator (R132). -/
def broughtIn (s : State) : State := (hostedActs s.params).foldl (fun x a => autoRetract a .vehicle x) s

theorem interlockRise_eq (s : State) : interlockRise s
    = if (hostedActs s.params).any (isOut s) then raiseEvent .interlockRetract (broughtIn s) else broughtIn s := rfl

theorem act_interlockRise (s : State) (a : Actuator) : act (interlockRise s).motion a = act (broughtIn s).motion a := by
  rw [interlockRise_eq]
  split
  · rw [raiseEvent_motion]
  · rfl

theorem interlockRise_flags {s : State} {e : Event} (h : inSet (broughtIn s).event.flags e = true) :
    inSet (interlockRise s).event.flags e = true := by
  rw [interlockRise_eq]
  split
  · exact inSet_raiseEvent_of_set h
  · exact h

theorem act_broughtIn (s : State) (a : Actuator) :
    ((s.params.actuator a).hosted = false → act (broughtIn s).motion a = act s.motion a)
    ∧ ((s.params.actuator a).hosted = true → ∃ t, Beside a s t
      ∧ act (broughtIn s).motion a = act (autoRetract a .vehicle t).motion a) := by
  obtain ⟨hnot, hhosted⟩ := foldl_hosted (f := fun x a => autoRetract a .vehicle x)
    (fun t b => faultKept_autoRetract b .vehicle t) s a
  refine ⟨fun h => (hnot h).act, fun h => ?_⟩
  obtain ⟨t, hbefore, hafter⟩ := hhosted h
  exact ⟨t, hbefore, hafter.act⟩

theorem acts_autoRetracts (s : State) (l : List Actuator) :
    Acts stowEffects s (l.foldl (fun x a => autoRetract a .vehicle x) s) :=
  .foldl _ (fun t a => acts_autoRetract a .vehicle t) l s

/-- A rise raises STOW-FAILED for a hosted actuator in FAULT (R131). -/
theorem broughtIn_stowFailed {s : State} {a : Actuator} (hhosted : (s.params.actuator a).hosted = true)
    (hfault : (act s.motion a).state = .fault) : inSet (broughtIn s).event.flags .stowFailed = true := by
  have hraise {t : State} (h : Beside a s t) : inSet (autoRetract a .vehicle t).event.flags .stowFailed = true := by
    rw [autoRetract_of_fault (by rw [h.act]; exact hfault)]
    exact inSet_raiseEvent _ _
  have hbeside : Beside .step s (autoRetract .awning .vehicle s) := (faultKept_autoRetract .awning .vehicle s).beside nofun
  unfold broughtIn
  rw [hostedActs_eq]
  cases a with
  | awning =>
    rw [if_pos hhosted, List.foldl_append]
    exact (acts_autoRetracts _ _).flags (by decide) (hraise (.refl _ s))
  | step =>
    rw [if_pos hhosted, List.foldl_append]
    split
    · exact hraise hbeside
    · exact hraise (.refl _ s)

theorem act_interlockHolds (s : State) (a : Actuator) :
    ((s.params.actuator a).hosted = false → act (interlockHolds s).motion a = act s.motion a)
    ∧ ((s.params.actuator a).hosted = true →
      ((act s.motion a).state = .extending → act (interlockHolds s).motion a
          = travelEnded (act s.motion a) .stoppedMid (act s.motion a).position
        ∧ (interlockHolds s).budget.loads[motorLoad a].state = .off)
      ∧ ((act s.motion a).state ≠ .extending → act (interlockHolds s).motion a = act s.motion a)) := by
  obtain ⟨hnot, hhosted⟩ := foldl_hosted (f := stopExtension) faultKept_stopExtension s a
  refine ⟨fun h => (hnot h).act, fun h => ?_⟩
  obtain ⟨t, hbefore, hafter⟩ := hhosted h
  refine ⟨fun hst => ?_, fun hst => ?_⟩
  · have hstop : stopExtension t a = endTravel a .stoppedMid t := if_pos (by rw [hbefore.act]; exact hst)
    rw [hstop] at hafter
    refine ⟨hafter.act.trans ?_, hafter.off (load_endTravel a _ t)⟩
    rw [act_endTravel, endedTravel_eq_self, hbefore.act]
  · have hstop : stopExtension t a = t := if_neg (by rw [hbefore.act]; exact hst)
    rw [hstop] at hafter
    exact hafter.act.trans hbefore.act

theorem interlockHolds_hold (s : State) (a : Actuator) : (act (interlockHolds s).motion a).hold = (act s.motion a).hold := by
  obtain ⟨hnot, hhosted⟩ := foldl_hosted (f := stopExtension) faultKept_stopExtension s a
  cases h : (s.params.actuator a).hosted with
  | false => exact congrArg ActRec.hold (hnot h).act
  | true =>
    obtain ⟨t, hbefore, hafter⟩ := hhosted h
    exact ((congrArg ActRec.hold hafter.act).trans (stopExtension_hold t a)).trans (congrArg ActRec.hold hbefore.act)

theorem interlockRise_hold (s : State) (a : Actuator) : (act (interlockRise s).motion a).hold = (act s.motion a).hold := by
  rw [act_interlockRise]
  obtain ⟨hnot, hhosted⟩ := act_broughtIn s a
  cases h : (s.params.actuator a).hosted with
  | false => rw [hnot h]
  | true =>
    obtain ⟨t, hbefore, hact⟩ := hhosted h
    rw [hact, autoRetract_hold, hbefore.act]

theorem interlockActive_of_inUse {p : Params} {v : VehicleState} (h : inUse p v = true) : interlockActive p v = true := by
  cases v with
  | unknown => cases h
  | known _ _ => exact h

/-- Settles O36, by the rise, the interlock and the state of each actuator. -/
theorem interlockBringsActuatorsIn : Obligations.InterlockBringsActuatorsIn := by
  intro s v
  have hact (a : Actuator) := act_withVehicle v s a
  have hstop (a : Actuator) (e : StopEnd) : stopActive (withVehicle v s) a e = stopActive s a e := stopActive_congr rfl rfl a e
  refine ⟨handVehicle_vehicle v s, fun a => ?_, fun huse hbefore => ⟨fun a hhosted => ?_, ?_⟩,
    fun hactive hno => ⟨?_, fun a hhosted => ?_⟩, fun a hhosted => ?_, fun hactive a => ?_⟩
  · rw [handVehicle_eq]
    split
    · rw [interlockRise_hold, hact]
    · split
      · rw [interlockHolds_hold, hact]
      · rw [hact]
  · have hrise : handVehicle v s = interlockRise (withVehicle v s) := if_pos (by rw [huse, hbefore]; rfl)
    obtain ⟨t, hbeside, hrec⟩ := (act_broughtIn (withVehicle v s) a).2 hhosted
    have hrecord : act t.motion a = act s.motion a := hbeside.act.trans (hact a)
    rw [hrise, act_interlockRise, hrec]
    refine ⟨fun hout => ?_, fun hst => ?_, fun hin => ?_, fun hfault => ?_⟩
    · obtain ⟨_, hends⟩ := autoRetract_of_moving_out .vehicle (a := a) (s := t) (by rw [hrecord]; exact hout)
      rw [hrecord, hbeside.stopActive, hstop] at hends
      exact hends.symm
    · rw [autoRetract_of_retracting (by rw [hrecord]; exact hst), act_putAct_self, hrecord]
    · simp only [List.mem_cons, List.not_mem_nil, or_false] at hin
      rcases hin with hst | hst
      · rw [autoRetract_of_stowed (by rw [hrecord]; exact hst), hrecord]
      · rw [autoRetract_of_fault (by rw [hrecord]; exact hst), raiseEvent_motion, hrecord]
    · exact interlockRise_flags (broughtIn_stowFailed (s := withVehicle v s) hhosted (by rw [hact]; exact hfault))
  · rintro ⟨a, hhosted, hnotStowed, hnotFault⟩
    have hrise : handVehicle v s = interlockRise (withVehicle v s) := if_pos (by rw [huse, hbefore]; rfl)
    have hany : (hostedActs (withVehicle v s).params).any (isOut (withVehicle v s)) = true := by
      refine List.any_eq_true.mpr ⟨a, (mem_hostedActs _ a).mpr hhosted, ?_⟩
      unfold isOut
      rw [hact]
      simp [hnotStowed, hnotFault]
    rw [hrise, interlockRise_eq, if_pos hany]
    exact inSet_raiseEvent _ _
  · have hholds : handVehicle v s = interlockHolds (withVehicle v s) := by
      rw [handVehicle_eq, if_neg, if_pos hactive]
      rcases hno with h | h <;> simp [h]
    rw [hholds]
    exact ((acts_interlockHolds (withVehicle v s)).eventKept (by decide)).trans rfl
  · have hholds : handVehicle v s = interlockHolds (withVehicle v s) := by
      rw [handVehicle_eq, if_neg, if_pos hactive]
      rcases hno with h | h <;> simp [h]
    have hall := (act_interlockHolds (withVehicle v s) a).2 hhosted
    rw [hact] at hall
    rw [hholds]
    exact hall
  · rw [handVehicle_eq]
    split
    · rw [act_interlockRise, (act_broughtIn (withVehicle v s) a).1 hhosted, hact]
    · split
      · rw [(act_interlockHolds (withVehicle v s) a).1 hhosted, hact]
      · exact hact a
  · have hnot : inUse s.params v = false := by
      cases h : inUse s.params v with
      | false => rfl
      | true => exact absurd ((interlockActive_of_inUse h).symm.trans hactive) nofun
    rw [handVehicle_eq, if_neg (by rw [hnot]; nofun), if_neg (by rw [hactive]; nofun), hact]

end Sys2Proof.Machine

/-! STOW (R136) on the hosted actuators. -/

namespace Sys2Proof.Machine

-- As in the tests, so that no command needs threads of its own.
set_option Elab.async false

/-- The end of a command leaves every actuator and its load. -/
theorem beside_publish (before s : State) (a : Actuator) : Beside a s (publish before s) := by
  have hload : LoadKept (motorLoad a) s (publish before s) :=
    (acts_publish before s).loadKept (asks_motorLoad_notMem_publish a)
  have hm := publish_motion before s
  exact ⟨publish_act before s a, by rw [hm], by rw [hm], by rw [hm], by rw [hm], publish_params before s, hload⟩

theorem Beside.trans {a : Actuator} {s t u : State} (h : Beside a s t) (k : Beside a t u) : Beside a s u :=
  ⟨k.act.trans h.act, k.wind.trans h.wind, k.vehicle.trans h.vehicle, k.storage.trans h.storage, k.pins.trans h.pins,
    k.params.trans h.params, h.load.trans k.load⟩

/-! ## One actuator -/

theorem stowOne_of_held {o : Bool} {s : State} {a : Actuator} (hhold : (act s.motion a).hold = true) (ho : o = false) :
    stowOne o s a = s := by
  subst ho
  exact if_pos (by rw [hhold]; rfl)

/-- A STOW that acts on an actuator is an auto-retraction, with override marked (R136). -/
theorem stowOne_of_taken {o : Bool} {s : State} {a : Actuator} (h : (act s.motion a).hold = false ∨ o = true) :
    stowOne o s a = if o then putAct a (afterOverride (act s.motion a).state (act (autoRetract a .stow s).motion a))
      (autoRetract a .stow s) else autoRetract a .stow s :=
  if_neg (by rcases h with h | h <;> simp [h])

theorem act_stowOne {o : Bool} {s : State} {a : Actuator} (h : (act s.motion a).hold = false ∨ o = true) :
    act (stowOne o s a).motion a
      = if o then afterOverride (act s.motion a).state (act (autoRetract a .stow s).motion a)
        else act (autoRetract a .stow s).motion a := by
  rw [stowOne_of_taken h]
  split
  · rw [act_putAct_self]
  · rfl

theorem stowOne_budget {o : Bool} {s : State} {a : Actuator} (h : (act s.motion a).hold = false ∨ o = true) :
    (stowOne o s a).budget = (autoRetract a .stow s).budget := by
  rw [stowOne_of_taken h]
  split
  · rw [putAct_budget]
  · rfl

theorem stowOne_event {o : Bool} {s : State} {a : Actuator} (h : (act s.motion a).hold = false ∨ o = true) :
    (stowOne o s a).event = (autoRetract a .stow s).event := by
  rw [stowOne_of_taken h]
  split
  · rw [putAct_event]
  · rfl

theorem faultKept_stowOne (o : Bool) (s : State) (a : Actuator) : FaultKept a s (stowOne o s a) := by
  unfold stowOne
  simp only
  split
  · exact (Moved.refl a s).faultKept
  · split
    · exact (faultKept_autoRetract a _ s).trans (moved_putAct a _ _).faultKept
    · exact faultKept_autoRetract a _ s

/-- What a STOW leaves of an actuator that it acts on (R131, R136). -/
structure Stowing (o : Bool) (a : Actuator) (s t : State) : Prop where
  still : (act s.motion a).state = .stowed ∨ (act s.motion a).state = .fault → act t.motion a = act s.motion a
  retracting : (act s.motion a).state = .retracting → act t.motion a = { act s.motion a with
    cause := some ((act s.motion a).cause.getD .stow), releaseMark := o || (act s.motion a).releaseMark }
  extending : (act s.motion a).state = .extending →
    act t.motion a = reversing (act s.motion a) .retracting o (some .stow)
    ∧ t.budget.loads[motorLoad a].state = .admitted ∧ t.budget.loads[motorLoad a].cls = .c0
  home : standsOut (act s.motion a).state → stopActive s a .inStop = true → act t.motion a = { act s.motion a with
    state := .stowed, position := 0, hold := if o then false else (act s.motion a).hold }
  driven : standsOut (act s.motion a).state → stopActive s a .inStop = false →
    s.budget.loads[motorLoad a].state = .off →
    act t.motion a = drivenInward (s.params.actuator a) (act s.motion a) (o || (act s.motion a).releaseMark) (some .stow)
    ∧ t.budget.loads[motorLoad a].state = .admitted ∧ t.budget.loads[motorLoad a].cls = .c0

theorem stowing_stowOne {o : Bool} {s : State} {a : Actuator} (h : (act s.motion a).hold = false ∨ o = true) :
    Stowing o a s (stowOne o s a) := by
  have hrec := act_stowOne h
  have hbudget := stowOne_budget h
  have hmoving (hst : isMoving (act s.motion a).state = true) := autoRetractionActsByState s a .stow (.inr hst)
  refine ⟨fun hst => ?_, fun hst => ?_, fun hst => ?_, fun hst hin => ?_, fun hst hin hoff => ?_⟩
  · have hsame : act (autoRetract a .stow s).motion a = act s.motion a := by
      rcases hst with hst | hst
      · rw [autoRetract_of_stowed hst]
      · rw [autoRetract_of_fault hst, raiseEvent_motion]
    rw [hrec, hsame]
    rcases hst with hst | hst <;> simp [afterOverride, hst]
  · rw [hrec, autoRetract_of_retracting hst, act_putAct_self]
    cases o <;> simp [afterOverride, hst]
  · obtain ⟨_, _, hextending, _⟩ := hmoving (by rw [hst]; rfl)
    obtain ⟨hact, hadm, hcls⟩ := hextending hst
    rw [hrec, hbudget, hact]
    refine ⟨?_, hadm, hcls⟩
    cases o <;> simp [afterOverride, reversing]
  · have hne : (act s.motion a).state ≠ .stowed := by rcases hst with hst | hst <;> rw [hst] <;> nofun
    rw [hrec, autoRetract_of_out_active hst hin, act_putAct_self]
    cases o <;> simp [afterOverride, hne]
  · obtain ⟨_, hout, _⟩ := autoRetractionActsByState s a .stow (.inl hoff)
    obtain ⟨hact, hadm, hcls⟩ := (hout hst).2 hin
    rw [hrec, hbudget, hact]
    refine ⟨?_, hadm, hcls⟩
    cases o <;> simp [afterOverride, drivenInward]

/-- What acts beside an actuator shows in nothing that a STOW leaves of it. -/
theorem Stowing.between {o : Bool} {a : Actuator} {s t u v : State} (hbefore : Beside a s t) (h : Stowing o a t u)
    (hafter : Beside a u v) : Stowing o a s v := by
  obtain ⟨hstill, hretracting, hextending, hhome, hdriven⟩ := h
  have hload (hu : u.budget.loads[motorLoad a].state = .admitted ∧ u.budget.loads[motorLoad a].cls = .c0) :
      v.budget.loads[motorLoad a].state = .admitted ∧ v.budget.loads[motorLoad a].cls = .c0 := by
    rw [hafter.admittedLoad hu.1]
    exact hu
  rw [hbefore.act] at hstill hretracting hextending hhome hdriven
  rw [hbefore.stopActive] at hhome hdriven
  rw [hbefore.params] at hdriven
  exact ⟨fun hst => hafter.act.trans (hstill hst), fun hst => hafter.act.trans (hretracting hst),
    fun hst => ⟨hafter.act.trans (hextending hst).1, hload (hextending hst).2⟩,
    fun hst hin => hafter.act.trans (hhome hst hin),
    fun hst hin hoff => ⟨hafter.act.trans (hdriven hst hin (hbefore.off hoff)).1,
      hload (hdriven hst hin (hbefore.off hoff)).2⟩⟩

/-! ## Every hosted actuator -/

/-- A STOW leaves an actuator that is not hosted, and without override a held one (R136). -/
theorem act_takeStow_left {o : Bool} {s : State} {a : Actuator}
    (h : (s.params.actuator a).hosted = false ∨ (act s.motion a).hold = true ∧ o = false) :
    act (takeStow o s).motion a = act s.motion a := by
  obtain ⟨hnot, hhosted⟩ := foldl_hosted (faultKept_stowOne o) s a
  cases hh : (s.params.actuator a).hosted with
  | false => exact (hnot hh).act
  | true =>
    obtain ⟨t, hbefore, hafter⟩ := hhosted hh
    obtain ⟨hhold, ho⟩ := h.resolve_left (by rw [hh]; nofun)
    rw [stowOne_of_held (by rw [hbefore.act]; exact hhold) ho] at hafter
    exact hafter.act.trans hbefore.act

theorem stowing_takeStow {o : Bool} {s : State} {a : Actuator} (hhosted : (s.params.actuator a).hosted = true)
    (h : (act s.motion a).hold = false ∨ o = true) : Stowing o a s (takeStow o s) := by
  obtain ⟨t, hbefore, hafter⟩ := (foldl_hosted (faultKept_stowOne o) s a).2 hhosted
  exact (stowing_stowOne (by rw [hbefore.act]; exact h)).between hbefore hafter

/-- STOW-FAILED is asked of one actuator: it acts on one in FAULT (R131). -/
def stowFails (o : Bool) (r : ActRec) : Bool := r.state == .fault && (!r.hold || o)

theorem stowOne_stowFailed (o : Bool) (s : State) (a : Actuator) : inSet (stowOne o s a).event.flags .stowFailed
    = (inSet s.event.flags .stowFailed || stowFails o (act s.motion a)) := by
  unfold stowFails
  by_cases h : (act s.motion a).hold = false ∨ o = true
  · rw [stowOne_event h]
    have htaken : (!(act s.motion a).hold || o) = true := by rcases h with h | h <;> simp [h]
    rw [htaken]
    by_cases hst : (act s.motion a).state = .fault
    · rw [autoRetract_of_fault hst, hst]
      simp [inSet_raiseEvent]
    · rw [(moved_autoRetract hst).event]
      simp [hst]
  · obtain ⟨hhold, ho⟩ := not_or.mp h
    rw [Bool.not_eq_false] at hhold
    rw [Bool.not_eq_true] at ho
    rw [stowOne_of_held hhold ho, hhold, ho]
    simp

/-- A flag that each actuator's operation sets by its own record is set by the fold for some record. -/
theorem foldl_flag {f : State → Actuator → State} {e : Event} {raises : ActRec → Bool}
    (hf : ∀ t b, FaultKept b t (f t b))
    (hflag : ∀ t b, inSet (f t b).event.flags e = (inSet t.event.flags e || raises (act t.motion b))) :
    ∀ (l : List Actuator) (s : State), l.Nodup →
      inSet (l.foldl f s).event.flags e = (inSet s.event.flags e || l.any fun a => raises (act s.motion a)) := by
  intro l
  induction l with
  | nil => intro s _; simp
  | cons b l ih =>
    intro s hnodup
    obtain ⟨hb, hl⟩ := List.nodup_cons.mp hnodup
    have hsame : (l.any fun a => raises (act (f s b).motion a)) = l.any fun a => raises (act s.motion a) := by
      refine Bool.eq_iff_iff.mpr ?_
      rw [List.any_eq_true, List.any_eq_true]
      refine exists_congr fun a => and_congr_right fun ha => ?_
      rw [((hf s b).beside fun hab => hb (hab ▸ ha)).act]
    rw [List.foldl_cons, ih _ hl, hflag, hsame, List.any_cons, Bool.or_assoc]

theorem nodup_hostedActs (p : Params) : (hostedActs p).Nodup := List.Nodup.filter _ (by decide)

theorem takeStow_stowFailed (o : Bool) (s : State) : inSet (takeStow o s).event.flags .stowFailed = true
    ↔ inSet s.event.flags .stowFailed = true ∨ ∃ a : Actuator, (s.params.actuator a).hosted = true
      ∧ (act s.motion a).state = .fault ∧ ((act s.motion a).hold = false ∨ o = true) := by
  have hflag := foldl_flag (faultKept_stowOne o) (stowOne_stowFailed o) (hostedActs s.params) s (nodup_hostedActs _)
  have htake : takeStow o s = (hostedActs s.params).foldl (stowOne o) s := rfl
  rw [htake, hflag, Bool.or_eq_true, List.any_eq_true]
  refine or_congr_right (exists_congr fun a => ?_)
  rw [mem_hostedActs]
  unfold stowFails
  simp

theorem takeStow_wind (o : Bool) (s : State) : (takeStow o s).motion.wind = s.motion.wind
    ∧ (takeStow o s).motion.pins = s.motion.pins := by
  have hone (t : State) (b : Actuator) := faultKept_stowOne o t b
  unfold takeStow
  generalize hostedActs s.params = l
  induction l generalizing s with
  | nil => exact ⟨rfl, rfl⟩
  | cons b l ih =>
    obtain ⟨hwind, hpins⟩ := ih (stowOne o s b)
    exact ⟨hwind.trans (hone s b).rest.2.1, hpins.trans (hone s b).pins⟩

/-- Settles O46, from what a STOW leaves of each actuator. -/
theorem stowBringsActuatorsIn : Obligations.StowBringsActuatorsIn := by
  intro s o hrun hoff
  obtain ⟨hwind, hpins⟩ := takeStow_wind o s
  have hpublish (a : Actuator) := beside_publish s (takeStow o s) a
  refine ⟨publish s (takeStow o s), effectWhen_of_due hrun rfl, (publish_pins s _).trans hpins, (publish_wind s _).trans hwind,
    fun a ha => ?_, ?_, fun a ha => ⟨fun hhold ho => ?_, fun htaken => ?_⟩⟩
  · rw [publish_act, act_takeStow_left (.inl ha)]
  · rw [publish_event]
    exact takeStow_stowFailed o s
  · rw [publish_act, act_takeStow_left (.inr ⟨hhold, ho⟩)]
  · obtain ⟨hstill, hretracting, hextending, hhome, hdriven⟩ :=
      (stowing_takeStow ha htaken).between (.refl a s) (hpublish a)
    exact ⟨fun hst => hstill (.inl hst), fun hst => hstill (.inr hst), hretracting, hextending,
      fun hst => ⟨hhome hst, fun hin => hdriven hst hin
        (hoff a ha (by rcases hst with hst | hst <;> rw [hst] <;> rfl))⟩⟩

end Sys2Proof.Machine

/-! Requests and their REPLY, and the refusals of MOVE (R126, R127). -/

namespace Sys2Proof.Machine

-- As in the tests, so that no command needs threads of its own.
set_option Elab.async false

/-! ## A request taken (R177) -/

/-- A request that is taken publishes what its owner decided, and hands the line the REPLY. -/
theorem takeRequest_of_decided {s t : State} {rq : Requester} {a : Answer} {d : State → State × Answer}
    (htakes : takesRequests s = true) (hdec : d s = (t, a)) :
    takeRequest rq d s = sendTelegram .reply (replyPayload rq a) (publish s t) := by
  rw [takeRequest, if_pos htakes, hdec, reply]

/-- But for the line, a request that is taken leaves what the publishing of its decision leaves. -/
theorem takeRequest_published {s t : State} {rq : Requester} {a : Answer} {d : State → State × Answer}
    (htakes : takesRequests s = true) (hdec : d s = (t, a)) :
    ∃ l : Line, takeRequest rq d s = (publish s t).setLine l :=
  ⟨_, (takeRequest_of_decided htakes hdec).trans (sendTelegram_eq _ _ _)⟩

/-- The REPLY is the last telegram that a request hands the line. -/
theorem takeRequest_replied {L : List Effect} {s t : State} {rq : Requester} {a : Answer} {d : State → State × Answer}
    (htakes : takesRequests s = true) (hdec : d s = (t, a)) (hacts : Acts L s t) (hL : .clearsCounters ∉ L) :
    Replied s (takeRequest rq d s) rq a.outcome a.data := by
  have hpublish : Acts (L ++ publishEffects) s (publish s t) := hacts.append (acts_publish s t)
    (fun _ => List.mem_append_left _) fun _ => List.mem_append_right _
  have hstation : (publish s t).boot.station = s.boot.station := hpublish.station
  have hhanded := hpublish.lineHanded fun h => by
    rcases List.mem_append.mp h with h | h
    · exact hL h
    · revert h
      decide
  refine ⟨(publish s t).line, hhanded.1, ?_⟩
  rw [takeRequest_of_decided htakes hdec, sendTelegram_of_configured
    (hstation ▸ station_ne_zero_of_takesRequests htakes), hstation]
  rfl

/-- A request whose owner leaves the state as it is changes nothing but the REPLY. -/
theorem takeRequest_refused {s : State} {rq : Requester} {o : ReplyOutcome} {d : State → State × Answer}
    (htakes : takesRequests s = true) (hdec : d s = (s, .bare o)) : takeRequest rq d s = answered s rq o [] :=
  takeRequest_eq_answered (a := .bare o) htakes hdec rfl (publish_self s)

/-! ## The operands -/

/-- The byte that names an actuator (chapter 11). -/
def actuatorByte : Actuator → Byte
  | .awning => 0#8
  | .step => 1#8

theorem actuatorOfByte_actuatorByte (a : Actuator) : actuatorOfByte (actuatorByte a) = some a := by cases a <;> rfl

theorem toNat_of_actuatorOfByte {x : Byte} {a : Actuator} (h : actuatorOfByte x = some a) : x.toNat < 2 := by
  unfold actuatorOfByte at h
  split at h
  · next hx => rw [hx]; decide
  · split at h
    · next hx => rw [hx]; decide
    · cases h

theorem actuatorOfByte_of_large {x : Byte} (h : 2 ≤ x.toNat) : actuatorOfByte x = none := by
  cases hx : actuatorOfByte x with
  | none => rfl
  | some a => exact absurd (toNat_of_actuatorOfByte hx) (Nat.not_lt.mpr h)

theorem flagOfByte_of_large {x : Byte} (h : 2 ≤ x.toNat) : flagOfByte x = none := by
  unfold flagOfByte
  rw [if_neg, if_neg]
  all_goals
    rintro rfl
    exact absurd h (by decide)

theorem flagOfByte_of_small {x : Byte} (h : x.toNat < 2) : x = 0#8 ∨ x = 1#8 := by
  rcases Nat.le_one_iff_eq_zero_or_eq_one.mp (Nat.le_of_lt_succ h) with h | h
  · exact .inl (BitVec.eq_of_toNat_eq h)
  · exact .inr (BitVec.eq_of_toNat_eq h)

/-! ## MOVE decided -/

theorem decideMove_of_large {x d : Byte} (h : 2 ≤ x.toNat ∨ 2 ≤ d.toNat) (s : State) :
    decideMove x d s = (s, .bare .badRequest) := by
  unfold decideMove
  rcases h with h | h
  · rw [actuatorOfByte_of_large h]
  · rw [flagOfByte_of_large h]
    split
    · next h' => cases h'
    · rfl

theorem decideMove_of_notHosted {a : Actuator} {d : Byte} {s : State} (hd : d.toNat < 2)
    (h : (s.params.actuator a).hosted = false) : decideMove (actuatorByte a) d s = (s, .bare .notHosted) := by
  unfold decideMove
  rw [actuatorOfByte_actuatorByte]
  rcases flagOfByte_of_small hd with rfl | rfl <;> exact if_pos (by rw [h]; rfl)

theorem decideMove_extend {a : Actuator} {s : State} (h : (s.params.actuator a).hosted = true) :
    decideMove (actuatorByte a) 1#8 s = moveExtend a s := by
  unfold decideMove
  rw [actuatorOfByte_actuatorByte]
  exact (if_neg (by rw [h]; nofun)).trans (if_pos rfl)

theorem decideMove_retract {a : Actuator} {s : State} (h : (s.params.actuator a).hosted = true) :
    decideMove (actuatorByte a) 0#8 s = moveRetract a s := by
  unfold decideMove
  rw [actuatorOfByte_actuatorByte]
  exact (if_neg (by rw [h]; nofun)).trans (if_neg nofun)

theorem moveExtend_of_fault {a : Actuator} {s : State} (h : (act s.motion a).state = .fault) :
    moveExtend a s = (s, .bare .fault) := if_pos h

theorem moveRetract_of_fault {a : Actuator} {s : State} (h : (act s.motion a).state = .fault) :
    moveRetract a s = (s, .bare .fault) := if_pos h

theorem moveExtend_of_out {a : Actuator} {s : State}
    (h : (act s.motion a).state = .extended ∨ (act s.motion a).state = .extending) : moveExtend a s = (s, .bare .done) :=
  (if_neg (by rcases h with h | h <;> rw [h] <;> nofun)).trans (if_pos h)

theorem moveRetract_of_in {a : Actuator} {s : State}
    (h : (act s.motion a).state = .stowed ∨ (act s.motion a).state = .retracting) : moveRetract a s = (s, .bare .done) :=
  (if_neg (by rcases h with h | h <;> rw [h] <;> nofun)).trans (if_pos h)

/-- The states from which an extension may begin. -/
def mayExtend (st : ActState) : Prop := st = .stowed ∨ st = .stoppedMid ∨ st = .retracting

/-- The states from which a retraction may begin. -/
def mayRetract (st : ActState) : Prop := st = .extended ∨ st = .stoppedMid ∨ st = .extending

theorem mayExtend_ne {st : ActState} (h : mayExtend st) : st ≠ .fault ∧ ¬ (st = .extended ∨ st = .extending) := by
  rcases h with rfl | rfl | rfl <;> decide

theorem mayRetract_ne {st : ActState} (h : mayRetract st) : st ≠ .fault ∧ ¬ (st = .stowed ∨ st = .retracting) := by
  rcases h with rfl | rfl | rfl <;> decide

theorem moveExtend_of_held {a : Actuator} {s : State} (hst : mayExtend (act s.motion a).state)
    (h : (act s.motion a).hold = true) : moveExtend a s = (s, .bare .held) := by
  obtain ⟨hfault, hout⟩ := mayExtend_ne hst
  unfold moveExtend
  rw [if_neg hfault, if_neg hout, if_pos h]

theorem moveRetract_of_held {a : Actuator} {s : State} (hst : mayRetract (act s.motion a).state)
    (h : (act s.motion a).hold = true) : moveRetract a s = (s, .bare .held) := by
  obtain ⟨hfault, hin⟩ := mayRetract_ne hst
  unfold moveRetract
  rw [if_neg hfault, if_neg hin, if_pos h]

theorem moveExtend_of_storage {a : Actuator} {s : State} (hst : mayExtend (act s.motion a).state)
    (hhold : (act s.motion a).hold = false) (h : s.motion.storage = true) : moveExtend a s = (s, .bare .storage) := by
  obtain ⟨hfault, hout⟩ := mayExtend_ne hst
  unfold moveExtend
  rw [if_neg hfault, if_neg hout, if_neg (by rw [hhold]; nofun), if_pos h]

theorem moveExtend_of_interlock {a : Actuator} {s : State} (hst : mayExtend (act s.motion a).state)
    (hhold : (act s.motion a).hold = false) (hstorage : s.motion.storage = false)
    (h : (interlockActive s.params s.motion.vehicle || windForbids s a) = true) :
    moveExtend a s = (s, .bare .interlock) := by
  obtain ⟨hfault, hout⟩ := mayExtend_ne hst
  unfold moveExtend
  rw [if_neg hfault, if_neg hout, if_neg (by rw [hhold]; nofun), if_neg (by rw [hstorage]; nofun), if_pos h]

/-- Settles O42, check by check. -/
theorem moveIsRefusedInOrder : Obligations.MoveIsRefusedInOrder := by
  intro s rq htakes
  have hrefused {x d : Byte} {o : ReplyOutcome} (h : decideMove x d s = (s, .bare o)) :
      exec (.move rq x d) s = .next (answered s rq o []) := congrArg Host.Outcome.next (takeRequest_refused htakes h)
  refine ⟨fun x d h => hrefused (decideMove_of_large h s), fun a x hx => ?_⟩
  obtain rfl : x = actuatorByte a := hx.trans (by cases a <;> rfl)
  refine ⟨fun d hd hhosted => hrefused (decideMove_of_notHosted hd hhosted), fun hhosted => ?_⟩
  have hextend {o : ReplyOutcome} (h : moveExtend a s = (s, .bare o)) :
      exec (.move rq (actuatorByte a) 1#8) s = .next (answered s rq o []) := hrefused ((decideMove_extend hhosted).trans h)
  have hretract {o : ReplyOutcome} (h : moveRetract a s = (s, .bare o)) :
      exec (.move rq (actuatorByte a) 0#8) s = .next (answered s rq o []) := hrefused ((decideMove_retract hhosted).trans h)
  have hmay (h : (act s.motion a).state ∈ [ActState.stowed, .stoppedMid, .retracting]) :
      mayExtend (act s.motion a).state := by simpa [mayExtend] using h
  have hmayIn (h : (act s.motion a).state ∈ [ActState.extended, .stoppedMid, .extending]) :
      mayRetract (act s.motion a).state := by simpa [mayRetract] using h
  refine ⟨fun d hd hfault => ?_, fun h => hextend (moveExtend_of_out h), fun h => hretract (moveRetract_of_in h),
    fun hhold => ⟨fun hst => hextend (moveExtend_of_held (hmay hst) hhold),
      fun hst => hretract (moveRetract_of_held (hmayIn hst) hhold)⟩,
    fun hhold hst => ⟨fun hstorage => hextend (moveExtend_of_storage (hmay hst) hhold hstorage),
      fun hstorage hlock => hextend (moveExtend_of_interlock (hmay hst) hhold hstorage ?_)⟩⟩
  · rcases flagOfByte_of_small hd with rfl | rfl
    · exact hretract (moveRetract_of_fault hfault)
    · exact hextend (moveExtend_of_fault hfault)
  · rcases hlock with h | ⟨rfl, hwind, hspeed⟩
    · rw [h, Bool.true_or]
    · simp [windForbids, hwind, hspeed]

end Sys2Proof.Machine

/-! MOVE that no check refuses (R115, R116, R126, R127). -/

namespace Sys2Proof.Machine

-- As in the tests, so that no command needs threads of its own.
set_option Elab.async false

/-! ## The class 2 ask (R52) -/

theorem release_shed (i : Fin 17) (s : State) : (release i s).budget.shed = s.budget.shed := by
  refine congrArg Prod.fst (?_ : flagsAndCounters (release i s) = flagsAndCounters s)
  unfold release
  split
  · rfl
  · exact (flagsAndCounters_settle _ _ _).trans (flagsAndCounters_place (turnOff_budget i s))

theorem release_gate_caps (i : Fin 17) (s : State) :
    (release i s).budget.gateOpen = s.budget.gateOpen ∧ (release i s).budget.caps = s.budget.caps := by
  obtain ⟨_, _, _, _, _, _, _, hcaps, hgate⟩ := (loadSteps_release i s).frame.basis
  exact ⟨hgate, hcaps⟩

theorem extensionRefused_of_refused {i : Fin 17} {s : State} (h : s.budget.gateOpen = false ∨ s.budget.shed.c2 = true
    ∨ s.budget.caps.c2 < sumUpTo (totals s.budget) .c2 + s.budget.loads[i].rated) : extensionRefused i s = true := by
  have htest : admissionTest s.budget .c2 s.budget.loads[i].rated
      = decide (sumUpTo (totals s.budget) .c2 + s.budget.loads[i].rated ≤ s.budget.caps.c2) := rfl
  unfold extensionRefused
  rw [htest]
  rcases h with h | h | h
  · simp [h]
  · simp [h]
  · rw [decide_eq_false (Nat.not_le.mpr h)]
    simp

theorem extensionRefused_of_fits {i : Fin 17} {s : State} (hgate : s.budget.gateOpen = true)
    (hshed : s.budget.shed.c2 = false) (hfits : sumUpTo (totals s.budget) .c2 + s.budget.loads[i].rated ≤ s.budget.caps.c2) :
    extensionRefused i s = false := by
  have htest : admissionTest s.budget .c2 s.budget.loads[i].rated
      = decide (sumUpTo (totals s.budget) .c2 + s.budget.loads[i].rated ≤ s.budget.caps.c2) := rfl
  unfold extensionRefused
  rw [htest, hgate, hshed, decide_eq_true hfits]
  rfl

/-! ## Travels outward (R115, R116) -/

theorem startOutward_of_active {a : Actuator} {s : State} (h : stopActive s a .outStop = true) :
    startOutward a s = putAct a { act s.motion a with
      state := .extended, position := (s.params.actuator a).length } s := if_pos h

theorem startOutward_of_refused {a : Actuator} {s : State} (h : stopActive s a .outStop = false)
    (hoff : s.budget.loads[motorLoad a].state = .off) (hr : extensionRefused (motorLoad a) s = true) :
    startOutward a s = s := by
  unfold startOutward
  rw [if_neg (by rw [h]; nofun)]
  simp only
  rw [askExtension_refused hr, if_neg (by rw [hoff]; nofun)]

theorem startOutward_of_admitted {a : Actuator} {s : State} (h : stopActive s a .outStop = false)
    (hoff : s.budget.loads[motorLoad a].state = .off) (hr : extensionRefused (motorLoad a) s = false) :
    startOutward a s = startDrive a .outStop (askExtension (motorLoad a) s) := by
  unfold startOutward
  rw [if_neg (by rw [h]; nofun)]
  simp only
  rw [askExtension_load hoff hr]
  exact if_pos rfl

theorem act_startDrive_outward (a : Actuator) (s : State) :
    act (startDrive a .outStop (askExtension (motorLoad a) s)).motion a
      = drivenOutward (s.params.actuator a) (act s.motion a) (act s.motion a).releaseMark (act s.motion a).cause := by
  rw [startDrive, act_putAct_self, askExtension_motion, (moved_askExtension a s).params, driveToward_outStop]

theorem moved_startDrive_outward (a : Actuator) (s : State) :
    Moved a s (startDrive a .outStop (askExtension (motorLoad a) s)) :=
  (moved_askExtension a s).trans (moved_putAct a _ _)

theorem reverseOutward_of_admitted {a : Actuator} {s : State}
    (hr : extensionRefused (motorLoad a) (release (motorLoad a) s) = false) : reverseOutward a s
      = putAct a (reversing (act s.motion a) .extending false none) (askExtension (motorLoad a) (release (motorLoad a) s)) := by
  unfold reverseOutward
  simp only
  rw [askExtension_load (release_state _ _) hr, askExtension_motion, release_motion, pausedToward_outStop]
  exact if_pos rfl

theorem reverseOutward_of_refused {a : Actuator} {s : State}
    (hr : extensionRefused (motorLoad a) (release (motorLoad a) s) = true) :
    reverseOutward a s = askRetraction (motorLoad a) (release (motorLoad a) s) := by
  unfold reverseOutward
  simp only
  rw [askExtension_refused hr, if_neg (by rw [release_state]; nofun)]

/-! ## MOVE decided -/

/-- No check of R126 stands against an extension. -/
structure MayExtend (a : Actuator) (s : State) : Prop where
  hold : (act s.motion a).hold = false
  storage : s.motion.storage = false
  interlock : interlockActive s.params s.motion.vehicle = false
  wind : windForbids s a = false

theorem moveExtend_of_still {a : Actuator} {s : State}
    (hst : (act s.motion a).state = .stowed ∨ (act s.motion a).state = .stoppedMid) (h : MayExtend a s) :
    moveExtend a s = (startOutward a s, .bare (match (act (startOutward a s).motion a).state with
      | .extending => .started
      | .extended => .done
      | _ => .budget)) := by
  obtain ⟨hhold, hstorage, hinterlock, hwind⟩ := h
  obtain ⟨hfault, hout⟩ := mayExtend_ne (hst.elim .inl fun h => .inr (.inl h))
  have hne : (act s.motion a).state ≠ .retracting := by rcases hst with h | h <;> rw [h] <;> nofun
  exact (if_neg hfault).trans <| (if_neg hout).trans <| (if_neg (by rw [hhold]; nofun)).trans <|
    (if_neg (by rw [hstorage]; nofun)).trans <| (if_neg (by rw [hinterlock, hwind]; nofun)).trans (if_neg hne)

theorem moveExtend_of_retracting {a : Actuator} {s : State} (hst : (act s.motion a).state = .retracting) (h : MayExtend a s) :
    moveExtend a s = (reverseOutward a s,
      .bare (if (act (reverseOutward a s).motion a).state = .extending then .started else .budget)) := by
  obtain ⟨hhold, hstorage, hinterlock, hwind⟩ := h
  obtain ⟨hfault, hout⟩ := mayExtend_ne (.inr (.inr hst))
  unfold moveExtend
  rw [if_neg hfault, if_neg hout, if_neg (by rw [hhold]; nofun), if_neg (by rw [hstorage]; nofun),
    if_neg (by rw [hinterlock, hwind]; nofun), if_pos hst]

theorem moveRetract_of_still {a : Actuator} {s : State} (hst : standsOut (act s.motion a).state)
    (hhold : (act s.motion a).hold = false) : moveRetract a s = (startInward a s,
      .bare (if (act (startInward a s).motion a).state = .stowed then .done else .started)) := by
  obtain ⟨hfault, hin⟩ := mayRetract_ne (hst.elim .inl fun h => .inr (.inl h))
  have hne : (act s.motion a).state ≠ .extending := by rcases hst with h | h <;> rw [h] <;> nofun
  unfold moveRetract
  rw [if_neg hfault, if_neg hin, if_neg (by rw [hhold]; nofun), if_neg hne]

theorem moveRetract_of_extending {a : Actuator} {s : State} (hst : (act s.motion a).state = .extending)
    (hhold : (act s.motion a).hold = false) : moveRetract a s = (reverseInward a s, .bare .started) := by
  obtain ⟨hfault, hin⟩ := mayRetract_ne (.inr (.inr hst))
  unfold moveRetract
  rw [if_neg hfault, if_neg hin, if_neg (by rw [hhold]; nofun), if_pos hst]

/-! ## The state a request leaves -/

/-- A request that moved one actuator: what it leaves of it, of its load and of the rest, and its REPLY. -/
structure MovedBy (a : Actuator) (s t u : State) (rq : Requester) (o : ReplyOutcome) : Prop where
  act : Machine.act u.motion a = Machine.act t.motion a
  rest : restOfMotionSame s u a
  pins : u.motion.pins = t.motion.pins
  event : u.event = t.event
  count : u.motion.actuatorFaults = t.motion.actuatorFaults
  load : Firm (motorLoad a) t.budget → u.budget.loads[motorLoad a] = t.budget.loads[motorLoad a]
  replied : Replied s u rq o []

theorem movedBy_takeRequest {L : List Effect} {a : Actuator} {s t : State} {rq : Requester} {o : ReplyOutcome}
    {d : State → State × Answer} (htakes : takesRequests s = true) (hdec : d s = (t, .bare o)) (hacts : Acts L s t)
    (hL : .clearsCounters ∉ L) (hrest : restOfMotionSame s t a) : MovedBy a s t (takeRequest rq d s) rq o := by
  obtain ⟨l, hl⟩ := takeRequest_published (rq := rq) htakes hdec
  have hreplied := takeRequest_replied (rq := rq) htakes hdec hacts hL
  rw [hl] at hreplied ⊢
  have hpublished : restOfMotionSame s (publish s t) a := restOfMotionSame_trans hrest (publish_rest s t a)
  exact ⟨publish_act s t a, hpublished, publish_pins s t, publish_event s t, publish_actuatorFaults s t,
    fun h => publish_load s h, hreplied⟩

theorem moves_extend {a : Actuator} {s t : State} {rq : Requester} {o : ReplyOutcome} (htakes : takesRequests s = true)
    (hhosted : (s.params.actuator a).hosted = true) (hdec : moveExtend a s = (t, .bare o)) (hmoved : Moved a s t) :
    ∃ u, exec (.move rq (actuatorByte a) 1#8) s = .next u ∧ MovedBy a s t u rq o := by
  have hall : decideMove (actuatorByte a) 1#8 s = (t, .bare o) := (decideMove_extend hhosted).trans hdec
  have hacts := acts_decideMove (actuatorByte a) 1#8 s
  rw [hall] at hacts
  exact ⟨_, rfl, movedBy_takeRequest htakes hall hacts (by decide) hmoved.rest⟩

theorem moves_retract {a : Actuator} {s t : State} {rq : Requester} {o : ReplyOutcome} (htakes : takesRequests s = true)
    (hhosted : (s.params.actuator a).hosted = true) (hdec : moveRetract a s = (t, .bare o)) (hmoved : Moved a s t) :
    ∃ u, exec (.move rq (actuatorByte a) 0#8) s = .next u ∧ MovedBy a s t u rq o := by
  have hall : decideMove (actuatorByte a) 0#8 s = (t, .bare o) := (decideMove_retract hhosted).trans hdec
  have hacts := acts_decideMove (actuatorByte a) 0#8 s
  rw [hall] at hacts
  exact ⟨_, rfl, movedBy_takeRequest htakes hall hacts (by decide) hmoved.rest⟩

/-- Settles O43, by the stops and the ask. -/
theorem moveDrivesTheActuator : Obligations.MoveDrivesTheActuator := by
  refine ⟨fun s rq a x htakes hx hhosted hhold hstorage hlock hwind => ?_, fun s rq a x htakes hx hhosted hhold => ?_⟩
  · obtain rfl : x = actuatorByte a := hx.trans (by cases a <;> rfl)
    have hforbids : windForbids s a = false := by
      rcases hwind with rfl | h | h
      · rfl
      · simp [windForbids, h]
      · simp [windForbids, Nat.not_le.mpr h]
    have hmay : MayExtend a s := ⟨hhold, hstorage, hlock, hforbids⟩
    refine ⟨fun hst hoff => ⟨fun hstop => ?_, fun hstop href => ?_, fun hstop hgate hshed hfits => ?_⟩, fun hst => ?_⟩
    · have hdec := moveExtend_of_still hst hmay
      rw [startOutward_of_active hstop, act_putAct_self] at hdec
      obtain ⟨u, hexec, hu⟩ := moves_extend (rq := rq) htakes hhosted hdec (moved_putAct a _ s)
      refine ⟨u, hexec, hu.act.trans (act_putAct_self a _ s), hu.rest, hu.replied, ?_⟩
      have hload := hu.load
      rw [putAct_budget] at hload
      exact hload (firm_of_off hoff)
    · have hdec := moveExtend_of_still hst hmay
      rw [startOutward_of_refused hstop hoff (extensionRefused_of_refused href)] at hdec
      have hbare : moveExtend a s = (s, .bare .budget) := by
        rw [hdec]
        rcases hst with h | h <;> rw [h]
      exact congrArg Host.Outcome.next (takeRequest_refused htakes ((decideMove_extend hhosted).trans hbare))
    · have hr := extensionRefused_of_fits (i := motorLoad a) hgate hshed hfits
      have hdec := moveExtend_of_still hst hmay
      rw [startOutward_of_admitted hstop hoff hr, act_startDrive_outward] at hdec
      obtain ⟨u, hexec, hu⟩ := moves_extend (rq := rq) htakes hhosted hdec (moved_startDrive_outward a s)
      have hload : (startDrive a .outStop (askExtension (motorLoad a) s)).budget.loads[motorLoad a]
          = admittedFor .c2 s.budget.loads[motorLoad a] := by rw [startDrive, putAct_budget, askExtension_load hoff hr]
      exact ⟨u, hexec, hu.act.trans (act_startDrive_outward a s),
        (hu.load (firm_of_admitted (by rw [hload]; rfl))).trans hload, hu.rest, hu.replied⟩
    · have hdec := moveExtend_of_retracting hst hmay
      obtain ⟨hgates, hcaps⟩ := release_gate_caps (motorLoad a) s
      have hshedSame := release_shed (motorLoad a) s
      have hrated := release_rated (motorLoad a) (motorLoad a) s
      cases hr : extensionRefused (motorLoad a) (release (motorLoad a) s) with
      | false =>
        rw [reverseOutward_of_admitted hr, act_putAct_self] at hdec
        obtain ⟨u, hexec, hu⟩ := moves_extend (rq := rq) htakes hhosted hdec
          (((moved_release a s).trans (moved_askExtension a _)).trans (moved_putAct a _ _))
        have hload := hu.load
        rw [putAct_budget, askExtension_load (release_state _ _) hr] at hload
        have hload' := hload (firm_of_admitted (by rw [askExtension_load (release_state _ _) hr]; rfl))
        refine ⟨u, hexec, hu.rest, by rw [hload']; rfl, fun _ _ _ =>
          ⟨hu.act.trans (act_putAct_self a _ _), by rw [hload']; rfl, hu.replied⟩, fun href => ?_⟩
        have href' : extensionRefused (motorLoad a) (release (motorLoad a) s) = true := by
          refine extensionRefused_of_refused ?_
          rw [hgates, hcaps, hshedSame, hrated]
          exact href
        exact absurd (hr.symm.trans href') nofun
      | true =>
        rw [reverseOutward_of_refused hr, askRetraction_motion, release_motion, if_neg (by rw [hst]; nofun)] at hdec
        obtain ⟨u, hexec, hu⟩ := moves_extend (rq := rq) htakes hhosted hdec
          ((moved_release a s).trans (moved_askRetraction a _))
        have hload := hu.load
        rw [askRetraction_load (release_state _ _)] at hload
        have hload' := hload (firm_of_admitted (by rw [askRetraction_load (release_state _ _)]; rfl))
        have hact := hu.act
        rw [askRetraction_motion, release_motion] at hact
        refine ⟨u, hexec, hu.rest, by rw [hload']; rfl, fun hgate hshed hfits => ?_, fun _ =>
          ⟨hact, by rw [hload']; rfl, hu.replied⟩⟩
        have hfits' : extensionRefused (motorLoad a) (release (motorLoad a) s) = false :=
          extensionRefused_of_fits (hgates.trans hgate) ((congrArg PerClass.c2 hshedSame).trans hshed)
            (by rw [hcaps, hrated]; exact hfits)
        exact absurd (hr.symm.trans hfits') nofun
  · obtain rfl : x = actuatorByte a := hx.trans (by cases a <;> rfl)
    refine ⟨fun hst hoff => ?_, fun hst => ?_⟩
    · have hdec := moveRetract_of_still hst hhold
      obtain ⟨u, hexec, hu⟩ := moves_retract (rq := rq) htakes hhosted hdec (moved_startInward a s)
      refine ⟨u, hexec, hu.rest, fun hstop => ?_, fun hstop => ?_⟩
      · have hact := hu.act
        have hreplied := hu.replied
        rw [startInward_of_active hstop, act_putAct_self] at hact hreplied
        exact ⟨hact, hreplied⟩
      · have hload := hu.load
        rw [load_startInward hstop hoff] at hload
        have hreplied := hu.replied
        rw [act_startInward hstop] at hreplied
        exact ⟨hu.act.trans (act_startInward hstop),
          hload (firm_of_admitted (by rw [load_startInward hstop hoff]; rfl)), hreplied⟩
    · have hdec := moveRetract_of_extending hst hhold
      obtain ⟨u, hexec, hu⟩ := moves_retract (rq := rq) htakes hhosted hdec (moved_reverseInward a s)
      have hload := hu.load
      rw [load_reverseInward] at hload
      have hload' := hload (firm_of_admitted (by rw [load_reverseInward]; rfl))
      exact ⟨u, hexec, hu.rest, hu.act.trans (act_reverseInward a s), by rw [hload']; rfl, by rw [hload']; rfl, hu.replied⟩

end Sys2Proof.Machine

/-! HALT, HOLD_SET and FAULT_CLEAR (R125, R128, R129). -/

namespace Sys2Proof.Machine

-- As in the tests, so that no command needs threads of its own.
set_option Elab.async false

/-! ## HALT -/

theorem decideHalt_of_large {x : Byte} (h : 2 ≤ x.toNat) (s : State) : decideHalt x s = (s, .bare .badRequest) := by
  unfold decideHalt
  rw [actuatorOfByte_of_large h]

theorem decideHalt_named (a : Actuator) (s : State) : decideHalt (actuatorByte a) s
    = if !(s.params.actuator a).hosted then (s, .bare .notHosted)
      else if isMoving (act s.motion a).state then (endTravel a .stoppedMid s, .bare .done)
      else (s, .bare .done) := by
  unfold decideHalt
  rw [actuatorOfByte_actuatorByte]

/-! ## HOLD_SET -/

theorem decideHoldSet_of_large {x v : Byte} (h : 2 ≤ x.toNat ∨ 2 ≤ v.toNat) (s : State) :
    decideHoldSet x v s = (s, .bare .badRequest) := by
  unfold decideHoldSet
  rcases h with h | h
  · rw [actuatorOfByte_of_large h]
  · rw [flagOfByte_of_large h]
    split
    · next h' => cases h'
    · rfl

theorem decideHoldSet_of_notHosted {a : Actuator} {v : Byte} {s : State} (hv : v.toNat < 2)
    (h : (s.params.actuator a).hosted = false) : decideHoldSet (actuatorByte a) v s = (s, .bare .notHosted) := by
  unfold decideHoldSet
  rw [actuatorOfByte_actuatorByte]
  rcases flagOfByte_of_small hv with rfl | rfl <;> exact if_pos (by rw [h]; rfl)

theorem decideHoldSet_of_hosted {a : Actuator} {s : State} (h : (s.params.actuator a).hosted = true) :
    decideHoldSet (actuatorByte a) 0#8 s = (setHold a false s, .bare .done)
    ∧ decideHoldSet (actuatorByte a) 1#8 s = (setHold a true s, .bare .done) := by
  unfold decideHoldSet
  rw [actuatorOfByte_actuatorByte]
  exact ⟨if_neg (by rw [h]; nofun), if_neg (by rw [h]; nofun)⟩

theorem setHold_of_still {a : Actuator} {s : State} (h : (act s.motion a).state ≠ .extending) :
    setHold a true s = putAct a { act s.motion a with hold := true, releaseMark := false } s := if_neg h

theorem setHold_of_extending {a : Actuator} {s : State} (h : (act s.motion a).state = .extending) :
    setHold a true s
      = endTravel a .stoppedMid (putAct a { act s.motion a with hold := true, releaseMark := false } s) := if_pos h

theorem moved_setHold (a : Actuator) (v : Bool) (s : State) : Moved a s (setHold a v s) := by
  cases v
  · exact moved_putAct a _ s
  · by_cases h : (act s.motion a).state = .extending
    · rw [setHold_of_extending h]
      exact (moved_putAct a _ s).trans (moved_endTravel a _ _)
    · rw [setHold_of_still h]
      exact moved_putAct a _ s

/-- A request that only moves an actuator's record leaves the load table. -/
theorem takeRequest_budget_of_putAct {a : Actuator} {r : ActRec} {s : State} {rq : Requester} {o : ReplyOutcome}
    {d : State → State × Answer} (htakes : takesRequests s = true) (hdec : d s = (putAct a r s, .bare o))
    (hstate : r.state = (act s.motion a).state) : (takeRequest rq d s).budget = s.budget := by
  have hout : ownStepOut (putAct a r s) = ownStepOut s := by
    unfold ownStepOut
    rw [putAct_params]
    cases a
    · rfl
    · exact congrArg (fun st : ActState => s.params.step.hosted && st != .stowed) hstate
  have hkeep : stepOutAfter s (putAct a r s) = putAct a r s := if_pos hout
  obtain ⟨l, hl⟩ := takeRequest_published (rq := rq) htakes hdec
  have hmotion (t : State) : (motionAfter s t).budget = t.budget :=
    ((acts_motionAfter s t).blockSame (b := .budget) (by decide) : _)
  have htanks (t : State) : (tanksAfter s t).budget = t.budget :=
    ((acts_tanksAfter s t).blockSame (b := .budget) (by decide) : _)
  rw [hl, State.setLine_budget]
  unfold publish
  simp only
  rw [htanks, hmotion, hkeep, putAct_budget]

/-- Settles O44, by the state of the actuator. -/
theorem haltAndHoldEndTravels : Obligations.HaltAndHoldEndTravels := by
  refine ⟨fun s rq htakes => ⟨fun x hx => ?_, fun a x hx => ?_⟩, fun s rq htakes => ⟨fun x v h => ?_, fun a x hx => ?_⟩⟩
  · exact congrArg Host.Outcome.next (takeRequest_refused htakes (decideHalt_of_large hx s))
  · obtain rfl : x = actuatorByte a := hx.trans (by cases a <;> rfl)
    have hdec := decideHalt_named a s
    refine ⟨fun h => ?_, fun h hstill => ?_, fun h hmoves => ?_⟩
    · rw [if_pos (by rw [h]; rfl)] at hdec
      exact congrArg Host.Outcome.next (takeRequest_refused htakes hdec)
    · rw [if_neg (by rw [h]; nofun), if_neg (by rw [hstill]; nofun)] at hdec
      exact congrArg Host.Outcome.next (takeRequest_refused htakes hdec)
    · rw [if_neg (by rw [h]; nofun), if_pos hmoves] at hdec
      have hacts := acts_decideHalt (actuatorByte a) s
      rw [hdec] at hacts
      have hmoved := moved_endTravel a .stoppedMid s
      have hu := movedBy_takeRequest (rq := rq) htakes hdec hacts (by decide) hmoved.rest
      have hload := load_endTravel a .stoppedMid s
      exact ⟨_, rfl, hu.act.trans ((act_endTravel a _ s).trans (endedTravel_eq_self _ _)),
        (congrArg LoadRecord.state (hu.load (firm_of_off hload))).trans hload, hu.rest, hu.pins.trans hmoved.pins, hu.replied⟩
  · exact congrArg Host.Outcome.next (takeRequest_refused htakes (decideHoldSet_of_large h s))
  · obtain rfl : x = actuatorByte a := hx.trans (by cases a <;> rfl)
    refine ⟨fun v hv h => congrArg Host.Outcome.next (takeRequest_refused htakes (decideHoldSet_of_notHosted hv h)),
      fun h => ?_⟩
    obtain ⟨hclear, hset⟩ := decideHoldSet_of_hosted h
    have hclearActs := acts_decideHoldSet (actuatorByte a) 0#8 s
    have hsetActs := acts_decideHoldSet (actuatorByte a) 1#8 s
    rw [hclear] at hclearActs
    rw [hset] at hsetActs
    have hcleared := movedBy_takeRequest (rq := rq) htakes hclear hclearActs (by decide) (moved_setHold a false s).rest
    have hu := movedBy_takeRequest (rq := rq) htakes hset hsetActs (by decide) (moved_setHold a true s).rest
    refine ⟨⟨_, rfl, hcleared.act.trans (act_putAct_self a _ s), hcleared.rest,
      takeRequest_budget_of_putAct htakes hclear rfl, hcleared.replied⟩,
      _, rfl, hu.rest, hu.replied, fun hst => ?_, fun hst => ?_⟩
    · have hact := hu.act
      rw [setHold_of_still hst] at hset hact
      exact ⟨hact.trans (act_putAct_self a _ s), takeRequest_budget_of_putAct htakes hset rfl⟩
    · have hact := hu.act
      have hload := hu.load
      rw [setHold_of_extending hst] at hact hload
      have hoff := load_endTravel a .stoppedMid (putAct a { act s.motion a with hold := true, releaseMark := false } s)
      refine ⟨hact.trans ?_, (congrArg LoadRecord.state (hload (firm_of_off hoff))).trans hoff⟩
      rw [act_endTravel, act_putAct_self, endedTravel_eq_self]
      rfl

/-! ## FAULT_CLEAR -/

theorem decideFaultClear_of_large {x : Byte} (h : 2 ≤ x.toNat) (s : State) :
    decideFaultClear x s = (s, .bare .badRequest) := by
  unfold decideFaultClear
  rw [actuatorOfByte_of_large h]

theorem decideFaultClear_named (a : Actuator) (s : State) : decideFaultClear (actuatorByte a) s
    = if !(s.params.actuator a).hosted then (s, .bare .notHosted)
      else if (act s.motion a).state = .fault then clearFault a s
      else (s, .bare .done) := by
  unfold decideFaultClear
  rw [actuatorOfByte_actuatorByte]

/-- The record whose fault set has been emptied. -/
def withoutFaults (a : Actuator) (s : State) : State := putAct a { act s.motion a with faults := FaultSet.empty } s

theorem clearFault_eq (a : Actuator) (s : State) : clearFault a s
    = if stopActive s a .inStop && stopActive s a .outStop then (enterFault a .conflict (withoutFaults a s), .bare .fault)
      else if stopActive s a .inStop then (takeEnd a .inStop (withoutFaults a s), .bare .done)
      else if stopActive s a .outStop then (takeEnd a .outStop (withoutFaults a s), .bare .done)
      else (putAct a { act (withoutFaults a s).motion a with state := .stoppedMid } (withoutFaults a s), .bare .done) := rfl

/-- Settles O45, by the two stops. -/
theorem faultClearReadsTheStops : Obligations.FaultClearReadsTheStops := by
  intro s rq htakes
  refine ⟨fun x hx => congrArg Host.Outcome.next (takeRequest_refused htakes (decideFaultClear_of_large hx s)),
    fun a x hx => ?_⟩
  obtain rfl : x = actuatorByte a := hx.trans (by cases a <;> rfl)
  have hdec := decideFaultClear_named a s
  refine ⟨fun h => ?_, fun h hst => ?_, fun h hst => ?_⟩
  · rw [if_pos (by rw [h]; rfl)] at hdec
    exact congrArg Host.Outcome.next (takeRequest_refused htakes hdec)
  · rw [if_neg (by rw [h]; nofun), if_neg hst] at hdec
    exact congrArg Host.Outcome.next (takeRequest_refused htakes hdec)
  · rw [if_neg (by rw [h]; nofun), if_pos hst, clearFault_eq] at hdec
    have hacts := acts_decideFaultClear (actuatorByte a) s
    have hcleared : Moved a s (withoutFaults a s) := moved_putAct a _ s
    have hrec : act (withoutFaults a s).motion a = { act s.motion a with faults := FaultSet.empty } := act_putAct_self a _ s
    refine ⟨takeRequest rq (decideFaultClear (actuatorByte a)) s, rfl, ?_⟩
    cases hin : stopActive s a .inStop <;> cases hout : stopActive s a .outStop
    case true.true =>
      rw [hin, hout, Bool.and_self, if_pos rfl] at hdec
      rw [hdec] at hacts
      have hkept := hcleared.faultKept.trans (faultKept_enterFault a .conflict _)
      have hu := movedBy_takeRequest (rq := rq) htakes hdec hacts (by decide) hkept.rest
      obtain ⟨hcount, hflag⟩ := enterFault_counts a .conflict (withoutFaults a s)
      have hfailed := enterFault_stowFailed a .conflict (withoutFaults a s)
      have hnotMoving : isMoving (act (withoutFaults a s).motion a).state = false := by
        rw [hrec]
        exact congrArg isMoving hst
      refine ⟨hu.rest, hu.pins.trans hkept.pins, hu.act.trans ?_, fun _ _ => ⟨?_, ?_, ?_, hu.replied⟩,
        fun h => h.elim nofun nofun⟩
      · rw [act_enterFault, faultedRecord, if_neg (by rw [hnotMoving]; nofun), hrec]
        rfl
      · rw [hu.event]
        exact hflag
      · rw [hu.event, hfailed, hnotMoving, Bool.false_and, Bool.or_false, hcleared.event]
      · rw [hu.count, hcount, hcleared.count]
    case true.false =>
      rw [hin, hout, if_neg nofun, if_pos rfl] at hdec
      rw [hdec] at hacts
      have hmoved := hcleared.trans (moved_takeEnd a .inStop _)
      have hu := movedBy_takeRequest (rq := rq) htakes hdec hacts (by decide) hmoved.rest
      refine ⟨hu.rest, hu.pins.trans hmoved.pins, hu.act.trans ?_, nofun,
        fun _ => ⟨by rw [hu.event, hmoved.event], hu.count.trans hmoved.count, hu.replied⟩⟩
      rw [act_takeEnd, hrec]
      rfl
    case false.true =>
      rw [hin, hout, if_neg nofun, if_neg nofun, if_pos rfl] at hdec
      rw [hdec] at hacts
      have hmoved := hcleared.trans (moved_takeEnd a .outStop _)
      have hu := movedBy_takeRequest (rq := rq) htakes hdec hacts (by decide) hmoved.rest
      refine ⟨hu.rest, hu.pins.trans hmoved.pins, hu.act.trans ?_, nofun,
        fun _ => ⟨by rw [hu.event, hmoved.event], hu.count.trans hmoved.count, hu.replied⟩⟩
      rw [act_takeEnd, hrec, hcleared.params]
      rfl
    case false.false =>
      rw [hin, hout, if_neg nofun, if_neg nofun, if_neg nofun] at hdec
      rw [hdec] at hacts
      have hmoved := hcleared.trans (moved_putAct a { act (withoutFaults a s).motion a with state := .stoppedMid } _)
      have hu := movedBy_takeRequest (rq := rq) htakes hdec hacts (by decide) hmoved.rest
      refine ⟨hu.rest, hu.pins.trans hmoved.pins, hu.act.trans ?_, nofun,
        fun _ => ⟨by rw [hu.event, hmoved.event], hu.count.trans hmoved.count, hu.replied⟩⟩
      rw [act_putAct_self, hrec]
      rfl

end Sys2Proof.Machine

/-! The telegrams that are due: MOTION, BATTERY, CLAIM and TANKS (R21, R66, R108, R109, R139, R140). -/

namespace Sys2Proof.Machine

-- As in the tests, so that no command needs threads of its own.
set_option Elab.async false

/-! ## Bytes -/

theorem wordBytes_join (w : Word) : w.extractLsb' 8 8 ++ w.extractLsb' 0 8 = w := by
  apply BitVec.eq_of_getLsbD_eq
  intro i hi
  simp only [BitVec.getLsbD_append, BitVec.getLsbD_extractLsb']
  grind

theorem getLsbD_bitOf {k j : Nat} (hk : k < 8) (hj : j < 8) (f : Bool) : (bitOf k f).getLsbD j = (f && decide (j = k)) := by
  have hall : ∀ (k j : Fin 8) (f : Bool), (bitOf k.val f).getLsbD j.val = (f && decide (j.val = k.val)) := by decide
  exact hall ⟨k, hk⟩ ⟨j, hj⟩ f

theorem faultByte_bits (r : ActRec) : (faultByte r).getLsbD 0 = r.faults.travelTimeout
    ∧ (faultByte r).getLsbD 1 = r.faults.stall ∧ (faultByte r).getLsbD 2 = r.faults.obstructed
    ∧ (faultByte r).getLsbD 3 = r.faults.conflict ∧ (faultByte r).getLsbD 7 = r.hold := by
  unfold faultByte
  simp (disch := decide) only [BitVec.getLsbD_or, getLsbD_bitOf]
  simp

/-! ## MOTION (R139, R140) -/

/-- The four bytes of an actuator in MOTION. -/
theorem actBytes_eq (s : State) (a : Actuator) (k : Nat) : ∃ code high low faults : Byte,
    actBytes s a k = [code, high, low, faults]
    ∧ ((s.params.actuator a).hosted = false → code = 0#8)
    ∧ ((s.params.actuator a).hosted = true → code = actCode (act s.motion a).state
      ∧ high ++ low = BitVec.ofNat 16 ((act s.motion a).position * 1000 / (s.params.actuator a).length)
      ∧ faults = faultByte (act s.motion a)) := by
  unfold actBytes
  cases h : (s.params.actuator a).hosted with
  | true => exact ⟨_, _, _, _, if_pos h, nofun, fun _ => ⟨rfl, wordBytes_join _, rfl⟩⟩
  | false => exact ⟨_, _, _, _, if_neg (by rw [h]; nofun), fun _ => rfl, nofun⟩

theorem formsMotion_of_hosted {s : State} (hstation : s.boot.station ≠ 0#4)
    (h : s.params.awning.hosted = true ∨ s.params.step.hosted = true ∨ s.params.wind.hosted = true) :
    formsMotion s = true := by
  have hany : (s.params.awning.hosted || s.params.step.hosted || s.params.wind.hosted) = true := by
    rcases h with h | h | h <;> simp [h]
  exact Bool.and_eq_true_iff.mpr ⟨hany, bne_iff_ne.mpr hstation⟩

/-- The eleven bytes of a MOTION, those of the actuators given. -/
def motionBytes (s : State) (c0 c1 c2 c3 d0 d1 d2 d3 : Byte) : List Byte :=
  [c0, c1, c2, c3, d0, d1, d2, d3, if s.params.wind.hosted then 1#8 else 0#8]
  ++ wordBytes (BitVec.ofNat 16 s.motion.wind.speed)

/-- Settles O47, byte by byte. -/
theorem motionHeartbeatCarriesTheActuators : Obligations.MotionHeartbeatCarriesTheActuators := by
  intro s hrun hstation hdue hhosted
  have hexec : exec .motionHeartbeat s = .next (queueMotion s) :=
    (effectWhen_of_due hrun (decide_eq_true hdue)).trans (by rw [publish_queueMotion])
  have hqueue : queueMotion s = drawFree 2 (sendTelegram .motion (motionPayload s)
      (s.setMotion { s.motion with motionTimer := 0 })) := if_pos (formsMotion_of_hosted hstation hhosted)
  have hsend := sendTelegram_of_configured (s := s.setMotion { s.motion with motionTimer := 0 }) hstation .motion
    (motionPayload s)
  obtain ⟨c0, c1, c2, c3, hawning, hawningNot, hawningHosted⟩ := actBytes_eq s .awning 0
  obtain ⟨d0, d1, d2, d3, hstep, hstepNot, hstepHosted⟩ := actBytes_eq s .step 1
  have hpayload : motionPayload s = motionBytes s c0 c1 c2 c3 d0 d1 d2 d3 := by
    unfold motionPayload
    rw [hawning, hstep]
    rfl
  refine ⟨motionPayload s, s.freeCount + 2, ?_, by rw [hpayload]; rfl, fun a k hk => ?_, fun hwind => ?_, fun hwind => ?_⟩
  · rw [hexec, hqueue, hsend]
    rfl
  · rw [hpayload]
    cases a with
    | awning =>
      obtain rfl : k = 0 := hk
      refine ⟨hawningNot, fun h => ?_⟩
      obtain ⟨hc, hpos, hf⟩ := hawningHosted h
      refine ⟨hc.trans (by cases (act s.motion .awning).state <;> rfl), hpos, ?_⟩
      have hbyte : byteAt (motionBytes s c0 c1 c2 c3 d0 d1 d2 d3) (0 + 3) = faultByte (act s.motion .awning) := hf
      rw [hbyte]
      exact faultByte_bits _
    | step =>
      obtain rfl : k = 4 := hk
      refine ⟨hstepNot, fun h => ?_⟩
      obtain ⟨hc, hpos, hf⟩ := hstepHosted h
      refine ⟨hc.trans (by cases (act s.motion .step).state <;> rfl), hpos, ?_⟩
      have hbyte : byteAt (motionBytes s c0 c1 c2 c3 d0 d1 d2 d3) (4 + 3) = faultByte (act s.motion .step) := hf
      rw [hbyte]
      exact faultByte_bits _
  · rw [hpayload]
    exact ⟨if_pos hwind, wordBytes_join _⟩
  · rw [hpayload]
    exact if_neg (by rw [hwind]; nofun)

/-! ## BATTERY (R21, R22) -/

theorem batteryPayload_eq (p : BankParams) (b : Bank) : batteryPayload p b
    = [(if p.letter = .b then 0x01#8 else 0x00#8) ||| (if b.estimated then 0x40#8 else 0x00#8)
        ||| (if b.quiet then 0x80#8 else 0x00#8)]
      ++ wordBytes (BitVec.ofNat 16 b.soc) ++ wordBytes (BitVec.ofInt 16 b.current)
      ++ wordBytes (BitVec.ofNat 16 b.voltage) ++ wordBytes (BitVec.ofInt 16 b.temp)
      ++ wordBytes (BitVec.ofNat 16 p.limit) := by
  have hletter : bitOf 0 (letterBit p.letter) = if p.letter = .b then 0x01#8 else 0x00#8 := by cases p.letter <;> rfl
  have hestimated : bitOf 6 b.estimated = if b.estimated then 0x40#8 else 0x00#8 := by cases b.estimated <;> rfl
  have hquiet : bitOf 7 b.quiet = if b.quiet then 0x80#8 else 0x00#8 := by cases b.quiet <;> rfl
  unfold batteryPayload
  rw [hletter, hestimated, hquiet]
  rfl

theorem exec_batteryPeriod {s : State} {p : BankParams} (hrun : s.running = true) (hp : s.params.bank = some p)
    (hdue : 1000 ≤ s.bank.batteryTimer) : exec .batteryPeriod s = .next (publish s (formBattery p s)) := by
  have hhost : exec .batteryPeriod s = onBankHost (decide (Config.batteryMs ≤ s.bank.batteryTimer)) formBattery s := rfl
  rw [hhost, onBankHost, hp]
  exact effectWhen_of_due hrun (decide_eq_true hdue)

theorem publish_formBattery (p : BankParams) (s : State) : publish s (formBattery p s) = formBattery p s := by
  unfold formBattery
  simp only
  split
  · exact publish_of_untracked rfl (fun a => by cases a <;> rfl) rfl
  · rw [sendTelegram_eq]
    exact publish_of_untracked rfl (fun a => by cases a <;> rfl) rfl

/-! ## CLAIM (R66, R67) -/

theorem publish_queueClaim (s : State) : publish s (queueClaim s) = queueClaim s := by
  unfold queueClaim
  split
  · exact publish_self s
  · rw [sendTelegram_eq]
    exact publish_of_untracked rfl (fun a => by cases a <;> rfl) rfl

/-! ## TANKS (R108, R109) -/

/-- The code of a tank in TANKS. -/
theorem tankBytes_eq (hosted : Bool) (x : Tank) : tankBytes hosted x = if hosted then
      (match x.state with
        | .normal => 1#8
        | .low => 2#8
        | .empty => 3#8
        | .high => 4#8
        | .full => 5#8
        | .fault => 6#8) :: wordBytes (match x.filtered with
        | none => 0xFFFF#16
        | some level => BitVec.ofNat 16 level)
    else [0x00#8, 0xFF#8, 0xFF#8] := by
  cases hosted
  · have hnone : wordBytes 0xFFFF#16 = [0xFF#8, 0xFF#8] := by decide
    simp [tankBytes, tankCode, hnone]
  · unfold tankBytes tankCode
    obtain ⟨filtered, state⟩ := x
    cases filtered <;> cases state <;> rfl

theorem otherPumpBlock_iff (s : State) : otherPumpBlock s = true ↔ s.water.pump.disabled = true
    ∨ s.water.fresh.state = .empty ∨ s.water.grey.state = .full ∨ s.water.peerGreyFull = true
    ∨ s.water.frost.valveOpen = true ∨ s.boot.storage = true := by
  simp [otherPumpBlock, anyGreyFull, or_assoc]

theorem exec_tanks {c : Instr} {s : State} (hrun : s.running = true)
    (hc : c = .tanksDue ∧ s.water.tanksDue = true ∧ 200 ≤ s.water.tanksTimer
      ∨ c = .tanksHeartbeat ∧ 5000 ≤ s.water.tanksTimer) : exec c s = .next (queueTanks s) := by
  rcases hc with ⟨rfl, hdue, htimer⟩ | ⟨rfl, htimer⟩
  · exact (effectWhen_of_due hrun (by rw [hdue]; exact decide_eq_true htimer)).trans (by rw [publish_queueTanks])
  · exact (effectWhen_of_due hrun (decide_eq_true htimer)).trans (by rw [publish_queueTanks])

theorem exec_claims {c : Instr} {s : State} (hrun : s.running = true)
    (hc : c = .claimDue ∧ s.budget.claimDue = true ∧ 200 ≤ s.budget.claimTimer
      ∨ c = .claimHeartbeat ∧ 2000 ≤ s.budget.claimTimer) : exec c s = .next (queueClaim s) := by
  rcases hc with ⟨rfl, hdue, htimer⟩ | ⟨rfl, htimer⟩
  · exact (effectWhen_of_due hrun (by rw [hdue]; exact decide_eq_true htimer)).trans (by rw [publish_queueClaim])
  · exact (effectWhen_of_due hrun (decide_eq_true htimer)).trans (by rw [publish_queueClaim])

theorem formsTanks_of_hosted {s : State} (hstation : s.boot.station ≠ 0#4)
    (h : s.params.water.fresh.hosted = true ∨ s.params.water.grey.hosted = true ∨ s.params.water.black.hosted = true
      ∨ s.params.water.pump = true ∨ s.params.water.frost = true) : formsTanks s = true := by
  have hany : hostsWater s.params = true := by
    unfold hostsWater
    rcases h with h | h | h | h | h <;> simp [h]
  exact Bool.and_eq_true_iff.mpr ⟨hany, bne_iff_ne.mpr hstation⟩

/-- Settles O54, telegram by telegram. -/
theorem dueTelegramsCarryTheFigures : Obligations.DueTelegramsCarryTheFigures := by
  refine ⟨fun s p hrun hp hdue => ⟨fun hstation => ?_, fun hstation => ?_⟩, fun c s hrun hstation hc => ?_,
    fun c s hrun hstation hhosted hc => ?_⟩
  · rw [exec_batteryPeriod hrun hp hdue, publish_formBattery, formBattery]
    exact congrArg Host.Outcome.next (if_pos hstation)
  · have hsend := sendTelegram_of_configured (s := s.setBank { s.bank with batteryTimer := 0 }) hstation .battery
      (batteryPayload p s.bank)
    rw [batteryPayload_eq] at hsend
    rw [exec_batteryPeriod hrun hp hdue, publish_formBattery, formBattery]
    refine congrArg Host.Outcome.next ((if_neg hstation).trans ?_)
    exact (congrArg (fun l => sendTelegram .battery l (s.setBank { s.bank with batteryTimer := 0 }))
      (batteryPayload_eq p s.bank)).trans hsend
  · have hsend := sendTelegram_of_configured (s := s.setBudget { s.budget with claimTimer := 0, claimDue := false })
      hstation .claim (claimPayload s)
    rw [exec_claims hrun hc, queueClaim, if_neg hstation, hsend]
    rfl
  · intro tank load pump heater valve temp
    have htank (hosted : Bool) (x : Tank) : tankBytes hosted x = tank hosted x := tankBytes_eq hosted x
    have hpump : pumpCode s = pump := by
      unfold pumpCode
      cases h : s.params.water.pump <;> cases h' : s.water.pump.dryLock <;> simp [pump, h, h', otherPumpBlock_iff, load] <;>
        rfl
    have hheater : heaterCode s = heater := by
      unfold heaterCode
      cases h : s.params.water.frost <;> simp [heater, h, load] <;> rfl
    have hvalve : valveCode s = valve := by
      unfold valveCode
      cases h : s.params.water.frost <;> simp [valve, h]
    have htemp : tankTempWord s = temp := by
      unfold tankTempWord
      cases h : s.params.water.frost <;> simp [temp, h] <;> rfl
    have hpayload : tanksPayload s = tank s.params.water.fresh.hosted s.water.fresh
        ++ tank s.params.water.grey.hosted s.water.grey ++ tank s.params.water.black.hosted s.water.black
        ++ [pump ++ heater ++ valve] ++ wordBytes temp := by
      unfold tanksPayload
      rw [htank, htank, htank, hpump, hheater, hvalve, htemp]
    have hsend := sendTelegram_of_configured (s := s.setWater { s.water with tanksTimer := 0, tanksDue := false })
      hstation .tanks (tanksPayload s)
    rw [hpayload] at hsend
    rw [exec_tanks hrun hc, queueTanks, if_pos (formsTanks_of_hosted hstation hhosted), hpayload, hsend]
    rfl

end Sys2Proof.Machine

/-! Sound actuators: what the record alone must be (R112 to R117, R120 to R122), what its load must be, and the
operations on one actuator. -/

namespace Sys2Proof.Machine

-- As in the tests, so that no command needs threads of its own.
set_option Elab.async false

/-! ## The record -/

/-- What soundness asks of an actuator's record alone, the travel length given. -/
structure RecSound (length : Nat) (r : ActRec) : Prop where
  outward : r.motor = .outward → r.state = .extending
  inward : r.motor = .inward → r.state = .retracting
  faults : r.faults ≠ FaultSet.empty ↔ r.state = .fault
  cause : r.cause ≠ none ∨ r.releaseMark = true → r.state = .retracting
  pause : r.pauseTimer ≠ none → isMoving r.state = true ∧ r.motor = .off
  paused : isMoving r.state = true → r.motor = .off → r.pauseTimer ≠ none
  latched : r.motor = .off ↔ r.latched = none
  drive : ∀ l, r.latched = some l → l.drive = r.motor
  travel : r.motor = .off ↔ r.travelTimer = none
  stall : r.motor = .off ↔ r.stallTimer = none
  overcurrent : r.overTimer ≠ none → r.motor ≠ .off
  position : r.position ≤ length

/-- A motor's load record fits its actuator's state (R112). -/
def LoadFits (st : ActState) (l : LoadRecord) : Prop :=
  (isMoving st = true → l.state = .admitted ∧ l.cls = travelClass st) ∧ (isMoving st = false → l.state = .off)

/-- The record and the load of an actuator are sound. -/
structure Standing (a : Actuator) (s : State) : Prop where
  record : RecSound (s.params.actuator a).length (act s.motion a)
  load : LoadFits (act s.motion a).state s.budget.loads[motorLoad a]

/-- An actuator extends only where R115 lets it. -/
def Freely (a : Actuator) (s : State) : Prop :=
  (act s.motion a).state = .extending → (act s.motion a).hold = false ∧ s.motion.storage = false
    ∧ interlockActive s.params s.motion.vehicle = false

theorem actuatorOk_iff (s : State) (a : Actuator) : ActuatorOk s a ↔ Standing a s ∧ Freely a s := by
  constructor
  · rintro ⟨h1, h2, h3, h4, h5, h6, h7, h8, h9, h10, h11, h12, h13, h14, h15⟩
    exact ⟨⟨⟨h4, h5, h6, h7, h8, h9, h10, h11, h12, h13, h14, h15⟩, ⟨h1, h2⟩⟩, h3⟩
  · rintro ⟨⟨⟨h4, h5, h6, h7, h8, h9, h10, h11, h12, h13, h14, h15⟩, ⟨h1, h2⟩⟩, h3⟩
    exact ⟨h1, h2, h3, h4, h5, h6, h7, h8, h9, h10, h11, h12, h13, h14, h15⟩

/-- The motor is off, nothing is latched and no timer runs. -/
structure AtRest (r : ActRec) : Prop where
  motor : r.motor = .off
  latched : r.latched = none
  travel : r.travelTimer = none
  stall : r.stallTimer = none
  overcurrent : r.overTimer = none
  pause : r.pauseTimer = none

theorem motor_off_of_still {length : Nat} {r : ActRec} (h : RecSound length r) (hst : isMoving r.state = false) :
    r.motor = .off := by
  cases hm : r.motor with
  | off => rfl
  | outward => rw [h.outward hm] at hst; cases hst
  | inward => rw [h.inward hm] at hst; cases hst

theorem RecSound.atRest {length : Nat} {r : ActRec} (h : RecSound length r) (hst : isMoving r.state = false) : AtRest r := by
  have hm := motor_off_of_still h hst
  refine ⟨hm, h.latched.mp hm, h.travel.mp hm, h.stall.mp hm, ?_, ?_⟩
  · exact Classical.not_not.mp fun hne => h.overcurrent hne hm
  · refine Classical.not_not.mp fun hne => ?_
    rw [(h.pause hne).1] at hst
    cases hst

theorem RecSound.faultless {length : Nat} {r : ActRec} (h : RecSound length r) (hst : r.state ≠ .fault) :
    r.faults = FaultSet.empty := Classical.not_not.mp fun hne => hst (h.faults.mp hne)

/-- Outside RETRACTING there is no cause and no mark. -/
theorem RecSound.unmarked {length : Nat} {r : ActRec} (h : RecSound length r) (hst : r.state ≠ .retracting) :
    r.cause = none ∧ r.releaseMark = false :=
  ⟨Classical.not_not.mp fun hne => hst (h.cause (.inl hne)), by
    cases hm : r.releaseMark with
    | false => rfl
    | true => exact absurd (h.cause (.inr hm)) hst⟩

theorem recSound_of_atRest {length : Nat} {r : ActRec} (h : AtRest r) (hst : isMoving r.state = false)
    (hfaults : r.faults ≠ FaultSet.empty ↔ r.state = .fault) (hcause : r.cause = none) (hmark : r.releaseMark = false)
    (hpos : r.position ≤ length) : RecSound length r := by
  obtain ⟨hmotor, hlatched, htravel, hstall, hover, hpause⟩ := h
  constructor <;> simp_all

theorem recSound_travelEnded {length : Nat} {r : ActRec} {st : ActState} {n : Nat} (hfaults : r.faults = FaultSet.empty)
    (hst : isMoving st = false) (hfault : st ≠ .fault) (hpos : n ≤ length) : RecSound length (travelEnded r st n) :=
  recSound_of_atRest ⟨rfl, rfl, rfl, rfl, rfl, rfl⟩ hst
    ⟨fun h => absurd hfaults h, fun h => absurd h hfault⟩ rfl rfl hpos

theorem recSound_reversing {length : Nat} {r : ActRec} {st : ActState} {mark : Bool} {cause : Option Cause}
    (hfaults : r.faults = FaultSet.empty) (hpos : r.position ≤ length) (hst : isMoving st = true)
    (hcause : st = .retracting ∨ cause = none ∧ mark = false) : RecSound length (reversing r st mark cause) := by
  have hne : st ≠ .fault := by rintro rfl; cases hst
  constructor <;> simp_all [reversing]
  rintro (h | h)
  · exact hcause.resolve_right fun hc => h hc.1
  · refine hcause.resolve_right fun hc => ?_
    rw [h] at hc
    exact absurd hc.2 nofun

theorem recSound_drivenInward {length : Nat} {p : ActuatorParams} {r : ActRec} {mark : Bool} {cause : Option Cause}
    (hfaults : r.faults = FaultSet.empty) (hpos : r.position ≤ length) :
    RecSound length (drivenInward p r mark cause) := by
  constructor <;> simp_all [drivenInward]

theorem recSound_drivenOutward {length : Nat} {p : ActuatorParams} {r : ActRec} (hfaults : r.faults = FaultSet.empty)
    (hpos : r.position ≤ length) : RecSound length (drivenOutward p r false none) := by
  constructor <;> simp_all [drivenOutward]

theorem addFault_ne_empty (f : FaultSet) (e : ActFault) : addFault f e ≠ FaultSet.empty := by
  obtain ⟨travelTimeout, stall, obstructed, conflict⟩ := f
  cases e <;> simp [addFault, FaultSet.empty]

theorem recSound_faultedRecord {length : Nat} {r : ActRec} (h : RecSound length r) (f : ActFault) :
    RecSound length (faultedRecord f r) := by
  unfold faultedRecord
  split
  · exact recSound_of_atRest ⟨rfl, rfl, rfl, rfl, rfl, rfl⟩ rfl ⟨fun _ => rfl, fun _ => addFault_ne_empty _ _⟩ rfl rfl
      h.position
  · next hst =>
    rw [Bool.not_eq_true] at hst
    obtain ⟨hcause, hmark⟩ := h.unmarked fun hr => by rw [hr] at hst; cases hst
    obtain ⟨hmotor, hlatched, htravel, hstall, hover, hpause⟩ := h.atRest hst
    exact recSound_of_atRest ⟨hmotor, hlatched, htravel, hstall, hover, hpause⟩ rfl
      ⟨fun _ => rfl, fun _ => addFault_ne_empty _ _⟩ hcause hmark h.position

/-- A still actuator that is not in FAULT may take another such state and position. -/
theorem recSound_placed {length : Nat} {r : ActRec} {st : ActState} {n : Nat} (h : RecSound length r)
    (hst : isMoving r.state = false) (hfaults : r.faults = FaultSet.empty) (hst' : isMoving st = false) (hne : st ≠ .fault)
    (hpos : n ≤ length) : RecSound length { r with state := st, position := n } := by
  obtain ⟨hcause, hmark⟩ := h.unmarked fun hr => by rw [hr] at hst; cases hst
  obtain ⟨hmotor, hlatched, htravel, hstall, hover, hpause⟩ := h.atRest hst
  exact recSound_of_atRest ⟨hmotor, hlatched, htravel, hstall, hover, hpause⟩ hst'
    ⟨fun h => absurd hfaults h, fun h => absurd h hne⟩ hcause hmark hpos

/-- Cause, mark and hold of a retraction are free. -/
theorem recSound_retracting {length : Nat} {r : ActRec} (h : RecSound length r) (hst : r.state = .retracting)
    (hold mark : Bool) (cause : Option Cause) :
    RecSound length { r with hold := hold, releaseMark := mark, cause := cause } := by
  obtain ⟨h1, h2, h3, _, h5, h6, h7, h8, h9, h10, h11, h12⟩ := h
  exact ⟨h1, h2, h3, fun _ => hst, h5, h6, h7, h8, h9, h10, h11, h12⟩

theorem recSound_hold {length : Nat} {r : ActRec} (h : RecSound length r) (hold : Bool) :
    RecSound length { r with hold := hold } := by
  obtain ⟨h1, h2, h3, h4, h5, h6, h7, h8, h9, h10, h11, h12⟩ := h
  exact ⟨h1, h2, h3, h4, h5, h6, h7, h8, h9, h10, h11, h12⟩

theorem recSound_unmark {length : Nat} {r : ActRec} (h : RecSound length r) (hold : Bool) :
    RecSound length { r with hold := hold, releaseMark := false } := by
  obtain ⟨h1, h2, h3, h4, h5, h6, h7, h8, h9, h10, h11, h12⟩ := h
  exact ⟨h1, h2, h3, fun hc => h4 (hc.imp id nofun), h5, h6, h7, h8, h9, h10, h11, h12⟩

/-! ## The load -/

theorem loadFits_off {st : ActState} {l : LoadRecord} (hst : isMoving st = false) (h : l.state = .off) : LoadFits st l :=
  ⟨fun hm => absurd (hst.symm.trans hm) nofun, fun _ => h⟩

theorem loadFits_retracting {l : LoadRecord} (h : l.state = .admitted ∧ l.cls = .c0) : LoadFits .retracting l :=
  ⟨fun _ => h, nofun⟩

theorem loadFits_extending {l : LoadRecord} (h : l.state = .admitted ∧ l.cls = .c2) : LoadFits .extending l :=
  ⟨fun _ => h, nofun⟩

theorem Standing.firm {a : Actuator} {s : State} (h : Standing a s) : Firm (motorLoad a) s.budget := by
  cases hm : isMoving (act s.motion a).state with
  | true => exact firm_of_admitted (h.load.1 hm).1
  | false => exact firm_of_off (h.load.2 hm)

theorem Standing.off {a : Actuator} {s : State} (h : Standing a s) (hst : isMoving (act s.motion a).state = false) :
    s.budget.loads[motorLoad a].state = .off := h.load.2 hst

/-- Off or moving: what R131 asks of an actuator's load. -/
theorem Standing.off_or_moving {a : Actuator} {s : State} (h : Standing a s) :
    s.budget.loads[motorLoad a].state = .off ∨ isMoving (act s.motion a).state = true := by
  cases hm : isMoving (act s.motion a).state with
  | true => exact .inr rfl
  | false => exact .inl (h.off hm)

/-- What acts beside an actuator leaves it sound. -/
theorem Standing.kept {a : Actuator} {s t : State} (hs : Standing a s) (hact : act t.motion a = act s.motion a)
    (hparams : t.params = s.params) (hload : LoadKept (motorLoad a) s t) : Standing a t := by
  refine ⟨?_, ?_⟩
  · rw [hact, hparams]
    exact hs.record
  · rw [hact, hload.1 hs.firm]
    exact hs.load

theorem Freely.kept {a : Actuator} {s t : State} (hs : Freely a s) (hact : act t.motion a = act s.motion a)
    (hparams : t.params = s.params) (hstorage : t.motion.storage = s.motion.storage)
    (hvehicle : t.motion.vehicle = s.motion.vehicle) : Freely a t := by
  unfold Freely
  rw [hact, hstorage, hvehicle, hparams]
  exact hs

/-! ## Operations on one actuator -/

/-- An operation on one actuator: the other and its load stand, a sound one stays sound, and it begins no extension. -/
structure Turns (a : Actuator) (s t : State) : Prop where
  rest : restOfMotionSame s t a
  params : t.params = s.params
  load : LoadKept (motorLoad (otherActuator a)) s t
  standing : Standing a s → Standing a t
  extends' : Standing a s → (act t.motion a).state = .extending →
    (act s.motion a).state = .extending ∧ ((act s.motion a).hold = false → (act t.motion a).hold = false)

theorem Turns.refl (a : Actuator) (s : State) : Turns a s s :=
  ⟨⟨rfl, rfl, rfl, rfl⟩, rfl, .refl _ s, id, fun _ h => ⟨h, id⟩⟩

theorem Turns.trans {a : Actuator} {s t u : State} (h : Turns a s t) (k : Turns a t u) : Turns a s u := by
  refine ⟨restOfMotionSame_trans h.rest k.rest, k.params.trans h.params, h.load.trans k.load,
    fun hs => k.standing (h.standing hs), fun hs hext => ?_⟩
  obtain ⟨htext, hthold⟩ := k.extends' (h.standing hs) hext
  obtain ⟨hsext, hshold⟩ := h.extends' hs htext
  exact ⟨hsext, fun hold => hthold (hshold hold)⟩

theorem FaultKept.turns {a : Actuator} {s t : State} (h : FaultKept a s t) (hst : Standing a s → Standing a t)
    (hext : Standing a s → (act t.motion a).state = .extending →
      (act s.motion a).state = .extending ∧ ((act s.motion a).hold = false → (act t.motion a).hold = false)) :
    Turns a s t := ⟨h.rest, h.params, h.load, hst, hext⟩

/-- What leaves the actuator's record and load leaves it sound. -/
theorem FaultKept.turns_of_same {a : Actuator} {s t : State} (h : FaultKept a s t)
    (hact : act t.motion a = act s.motion a) (hbudget : t.budget = s.budget) : Turns a s t := by
  refine h.turns (fun hs => ⟨?_, ?_⟩) fun _ hext => ?_
  · rw [hact, h.params]
    exact hs.record
  · rw [hact, hbudget]
    exact hs.load
  · rw [hact] at hext ⊢
    exact ⟨hext, id⟩

theorem turns_raiseEvent (a : Actuator) (e : Event) (s : State) : Turns a s (raiseEvent e s) :=
  (faultKept_raiseEvent a e s).turns_of_same (by rw [raiseEvent_motion]) (raiseEvent_budget e s)

/-- A record written in the actuator's own state. -/
theorem turns_putAct {a : Actuator} {r : ActRec} {s : State} (hst : r.state = (act s.motion a).state)
    (hhold : r.state = .extending → (act s.motion a).hold = false → r.hold = false)
    (hrec : RecSound (s.params.actuator a).length (act s.motion a) → RecSound (s.params.actuator a).length r) :
    Turns a s (putAct a r s) := by
  refine (moved_putAct a r s).faultKept.turns (fun hs => ⟨?_, ?_⟩) fun _ hext => ?_
  · rw [putAct_params, act_putAct_self]
    exact hrec hs.record
  · rw [putAct_budget, act_putAct_self, hst]
    exact hs.load
  · rw [act_putAct_self] at hext ⊢
    exact ⟨hst.symm.trans hext, hhold hext⟩

/-- An operation after which the actuator stands still, out of FAULT or in it. -/
theorem FaultKept.turns_to_still {a : Actuator} {s t : State} (h : FaultKept a s t)
    (hstill : Standing a s → isMoving (act t.motion a).state = false
      ∧ RecSound (s.params.actuator a).length (act t.motion a) ∧ t.budget.loads[motorLoad a].state = .off) :
    Turns a s t := by
  refine h.turns (fun hs => ?_) fun hs hext => ?_
  · obtain ⟨hst, hrec, hoff⟩ := hstill hs
    exact ⟨by rw [h.params]; exact hrec, loadFits_off hst hoff⟩
  · rw [hext] at hstill
    cases (hstill hs).1

theorem turns_endTravel {a : Actuator} {st : ActState} {s : State} (hst : isMoving st = false) (hne : st ≠ .fault)
    (hfault : Standing a s → (act s.motion a).state ≠ .fault) : Turns a s (endTravel a st s) := by
  refine (moved_endTravel a st s).faultKept.turns_to_still fun hs => ?_
  rw [act_endTravel, endedTravel_eq_self]
  exact ⟨hst, recSound_travelEnded (hs.record.faultless (hfault hs)) hst hne hs.record.position, load_endTravel a st s⟩

theorem isMoving_endState (e : StopEnd) : isMoving (endState e) = false := by cases e <;> rfl

theorem endState_ne_fault (e : StopEnd) : endState e ≠ .fault := by cases e <;> nofun

theorem endPosition_le (p : ActuatorParams) (e : StopEnd) : endPosition p e ≤ p.length := by
  cases e
  · exact Nat.zero_le _
  · exact Nat.le_refl _

theorem turns_endAtStop {a : Actuator} (e : StopEnd) {s : State} (hfault : Standing a s → (act s.motion a).state ≠ .fault) :
    Turns a s (endAtStop a e s) := by
  refine (moved_endAtStop a e s).faultKept.turns_to_still fun hs => ?_
  rw [act_endAtStop]
  exact ⟨isMoving_endState e, recSound_travelEnded (hs.record.faultless (hfault hs)) (isMoving_endState e) (endState_ne_fault e)
    (endPosition_le _ e), load_endAtStop a e s⟩

/-- A still actuator out of FAULT takes another still state and position. -/
theorem turns_placed {a : Actuator} {st : ActState} {n : Nat} {s : State} (hstill : isMoving (act s.motion a).state = false)
    (hfault : (act s.motion a).state ≠ .fault) (hst : isMoving st = false) (hne : st ≠ .fault)
    (hpos : Standing a s → n ≤ (s.params.actuator a).length) :
    Turns a s (putAct a { act s.motion a with state := st, position := n } s) := by
  refine (moved_putAct a _ s).faultKept.turns_to_still fun hs => ?_
  rw [act_putAct_self, putAct_budget]
  exact ⟨hst, recSound_placed hs.record hstill (hs.record.faultless hfault) hst hne (hpos hs), hs.off hstill⟩

/-- An operation after which the actuator retracts at class 0. -/
theorem FaultKept.turns_inward {a : Actuator} {s t : State} (h : FaultKept a s t)
    (hin : Standing a s → (act t.motion a).state = .retracting ∧ RecSound (s.params.actuator a).length (act t.motion a)
      ∧ t.budget.loads[motorLoad a].state = .admitted ∧ t.budget.loads[motorLoad a].cls = .c0) :
    Turns a s t := by
  refine h.turns (fun hs => ?_) fun hs hext => ?_
  · obtain ⟨hst, hrec, hload⟩ := hin hs
    exact ⟨by rw [h.params]; exact hrec, by rw [hst]; exact loadFits_retracting hload⟩
  · rw [hext] at hin
    cases (hin hs).1

theorem turns_autoRetract (a : Actuator) (c : Cause) (s : State) : Turns a s (autoRetract a c s) := by
  have hkept := faultKept_autoRetract a c s
  have hby (hs : Standing a s) := autoRetractionActsByState s a c hs.off_or_moving
  cases hst : (act s.motion a).state with
  | stowed =>
    rw [autoRetract_of_stowed hst]
    exact .refl a s
  | fault =>
    rw [autoRetract_of_fault hst]
    exact turns_raiseEvent a _ s
  | retracting =>
    rw [autoRetract_of_retracting hst]
    exact turns_putAct rfl (fun h => absurd (hst.symm.trans h) nofun) fun hrec =>
      recSound_retracting hrec hst _ _ _
  | extending =>
    refine hkept.turns_inward fun hs => ?_
    obtain ⟨_, _, hextending, _⟩ := hby hs
    obtain ⟨hact, hload⟩ := hextending hst
    rw [hact]
    exact ⟨rfl, recSound_reversing (hs.record.faultless (by rw [hst]; nofun)) hs.record.position rfl (.inl rfl), hload⟩
  | extended | stoppedMid =>
    have hout : standsOut (act s.motion a).state := by simp [standsOut, hst]
    have hfault : (act s.motion a).state ≠ .fault := by rw [hst]; nofun
    have hstill : isMoving (act s.motion a).state = false := by rw [hst]; rfl
    cases hin : stopActive s a .inStop with
    | true =>
      rw [autoRetract_of_out_active hout hin]
      exact turns_placed hstill hfault rfl nofun fun _ => Nat.zero_le _
    | false =>
      refine hkept.turns_inward fun hs => ?_
      obtain ⟨_, hmoves, _⟩ := hby hs
      obtain ⟨hact, hload⟩ := (hmoves hout).2 hin
      rw [hact]
      exact ⟨rfl, recSound_drivenInward (hs.record.faultless hfault) hs.record.position, hload⟩

/-- An auto-retraction leaves no actuator extending. -/
theorem autoRetract_not_extending (a : Actuator) (c : Cause) (s : State) :
    (act (autoRetract a c s).motion a).state ≠ .extending := by
  cases hst : (act s.motion a).state with
  | stowed => rw [autoRetract_of_stowed hst, hst]; nofun
  | fault => rw [autoRetract_of_fault hst, raiseEvent_motion, hst]; nofun
  | retracting =>
    rw [autoRetract_of_retracting hst, act_putAct_self]
    exact fun h => absurd (hst.symm.trans h) nofun
  | extending | extended | stoppedMid =>
    obtain ⟨_, hends⟩ := autoRetract_of_moving_out c (by rw [hst]; decide)
    rcases hends with ⟨h, _⟩ | ⟨h, _⟩ <;> rw [h] <;> nofun

theorem turns_enterFault (a : Actuator) (f : ActFault) (s : State) : Turns a s (enterFault a f s) := by
  refine (faultKept_enterFault a f s).turns_to_still fun hs => ?_
  rw [act_enterFault]
  refine ⟨?_, recSound_faultedRecord hs.record f, ?_⟩
  · unfold faultedRecord
    split <;> rfl
  · cases hm : isMoving (act s.motion a).state with
    | true => exact enterFault_load hm
    | false =>
      rw [enterFault_load_of_still hm]
      exact hs.off hm

theorem turns_reverseInward {a : Actuator} {s : State} (hfault : Standing a s → (act s.motion a).state ≠ .fault) :
    Turns a s (reverseInward a s) := by
  refine (moved_reverseInward a s).faultKept.turns_inward fun hs => ?_
  rw [act_reverseInward, load_reverseInward]
  exact ⟨rfl, recSound_reversing (hs.record.faultless (hfault hs)) hs.record.position rfl (.inl rfl), rfl, rfl⟩

theorem turns_recordCause {a : Actuator} {c : Cause} {s : State} (hst : (act s.motion a).state = .retracting) :
    Turns a s (recordCause a c s) :=
  turns_putAct rfl (fun h => absurd (hst.symm.trans h) nofun) fun hrec => recSound_retracting hrec hst _ _ _

theorem turns_startInward {a : Actuator} {s : State} (hst : standsOut (act s.motion a).state) :
    Turns a s (startInward a s) := by
  have hstill : isMoving (act s.motion a).state = false := by rcases hst with h | h <;> rw [h] <;> rfl
  have hfault : (act s.motion a).state ≠ .fault := by rcases hst with h | h <;> rw [h] <;> nofun
  cases hin : stopActive s a .inStop with
  | true =>
    rw [startInward_of_active hin]
    exact turns_placed hstill hfault rfl nofun fun _ => Nat.zero_le _
  | false =>
    refine (moved_startInward a s).faultKept.turns_inward fun hs => ?_
    rw [act_startInward hin, load_startInward hin (hs.off hstill)]
    exact ⟨rfl, recSound_drivenInward (hs.record.faultless hfault) hs.record.position, rfl, rfl⟩

end Sys2Proof.Machine

/-! The events and the requests of one actuator keep every hosted actuator sound. -/

namespace Sys2Proof.Machine

-- As in the tests, so that no command needs threads of its own.
set_option Elab.async false

/-! ## Every hosted actuator -/

/-- Every hosted actuator is sound, and the storage flag of the motion controller is this one. -/
def Sounds (flag : Bool) (s : State) : Prop :=
  s.motion.storage = flag ∧ ∀ a : Actuator, (s.params.actuator a).hosted = true → Standing a s ∧ Freely a s

section
variable {flag : Bool}

theorem Turns.sounds {b : Actuator} {s t : State} (h : Turns b s t) (hs : Sounds flag s) : Sounds flag t := by
  obtain ⟨hflag, hall⟩ := hs
  obtain ⟨hother, _, hvehicle, hstorage⟩ := h.rest
  refine ⟨hstorage.trans hflag, fun a ha => ?_⟩
  rw [h.params] at ha
  obtain ⟨hstanding, hfree⟩ := hall a ha
  rcases eq_or_eq_other b a with rfl | rfl
  · refine ⟨h.standing hstanding, fun hext => ?_⟩
    obtain ⟨hbefore, hhold⟩ := h.extends' hstanding hext
    obtain ⟨hfreeHold, hfreeStorage, hfreeLock⟩ := hfree hbefore
    rw [hstorage, hvehicle, h.params]
    exact ⟨hhold hfreeHold, hfreeStorage, hfreeLock⟩
  · exact ⟨hstanding.kept hother h.params h.load, hfree.kept hother h.params hstorage hvehicle⟩

/-- An operation that begins an extension, allowed by R126. -/
theorem FaultKept.sounds_extends {b : Actuator} {s t : State} (h : FaultKept b s t) (hs : Sounds flag s)
    (hrec : RecSound (s.params.actuator b).length (act t.motion b)) (hst : (act t.motion b).state = .extending)
    (hload : t.budget.loads[motorLoad b].state = .admitted ∧ t.budget.loads[motorLoad b].cls = .c2)
    (hfree : (act t.motion b).hold = false ∧ s.motion.storage = false
      ∧ interlockActive s.params s.motion.vehicle = false) : Sounds flag t := by
  obtain ⟨hflag, hall⟩ := hs
  obtain ⟨hother, _, hvehicle, hstorage⟩ := h.rest
  refine ⟨hstorage.trans hflag, fun a ha => ?_⟩
  rw [h.params] at ha
  rcases eq_or_eq_other b a with rfl | rfl
  · refine ⟨⟨by rw [h.params]; exact hrec, by rw [hst]; exact loadFits_extending hload⟩, fun _ => ?_⟩
    rw [hstorage, hvehicle, h.params]
    exact hfree
  · obtain ⟨hstanding, hfreely⟩ := hall _ ha
    exact ⟨hstanding.kept hother h.params h.load, hfreely.kept hother h.params hstorage hvehicle⟩

/-! ## Stops -/

theorem turns_setStop (a : Actuator) (e : StopEnd) (active : Bool) (s : State) : Turns a s (setStop a e active s) := by
  have hact := act_setStop a a e active s
  have hbudget : (setStop a e active s).budget = s.budget := rfl
  refine ⟨restOfMotionSame_setStop a e active s, rfl, loadKept_of_eq rfl, fun hs => ⟨?_, ?_⟩, fun _ hext => ?_⟩
  · rw [hact]
    exact hs.record
  · rw [hact, hbudget]
    exact hs.load
  · rw [hact] at hext ⊢
    exact ⟨hext, id⟩

theorem turns_takeEnd {a : Actuator} (e : StopEnd) {s : State} (hstill : isMoving (act s.motion a).state = false)
    (hfault : (act s.motion a).state ≠ .fault) : Turns a s (takeEnd a e s) :=
  turns_placed hstill hfault (isMoving_endState e) (endState_ne_fault e) fun _ => endPosition_le _ e

theorem turns_arrive (a : Actuator) (e : StopEnd) {s : State} (hfault : (act s.motion a).state ≠ .fault) :
    Turns a s (arrive a e s) := by
  have hend := turns_endAtStop (s := s) (a := a) e fun _ => hfault
  have htake (h : isMoving (act s.motion a).state = false) := turns_takeEnd e h hfault
  unfold arrive
  split
  · exact hend
  · exact hend
  · next h => exact htake (by rw [h]; rfl)
  · next h => exact htake (by rw [h]; rfl)
  · next h => exact htake (by rw [h]; rfl)
  · next h => exact htake (by rw [h]; rfl)
  · exact .refl a s

theorem turns_arrivalAt (a : Actuator) (e : StopEnd) (s : State) : Turns a s (arrivalAt a e s) := by
  have hset := turns_setStop a e true s
  by_cases hfault : (act s.motion a).state = .fault
  · rw [arrivalAt_of_fault hfault]
    exact hset
  · cases hc : stopActive s a (otherStop e) with
    | true =>
      rw [arrivalAt_of_conflict hfault hc]
      exact hset.trans (turns_enterFault a .conflict _)
    | false =>
      rw [arrivalAt_of_clear hfault hc]
      exact hset.trans (turns_arrive a e (by rw [act_setStop]; exact hfault))

theorem turns_leftEnd {a : Actuator} {e : StopEnd} {s : State} (hst : (act s.motion a).state = endState e) :
    Turns a s (leftEnd a e s) := by
  have hact := act_setStop a a e false s
  have hplaced : Turns a (setStop a e false s) (putAct a { act (setStop a e false s).motion a with
      state := .stoppedMid, position := (act (setStop a e false s).motion a).position } (setStop a e false s)) :=
    turns_placed (by rw [hact, hst]; exact isMoving_endState e) (by rw [hact, hst]; exact endState_ne_fault e) rfl nofun
      fun hs => hs.record.position
  unfold leftEnd
  rw [hact] at hplaced
  exact (turns_setStop a e false s).trans hplaced

theorem turns_departureAt (a : Actuator) (e : StopEnd) (s : State) : Turns a s (departureAt a e s) := by
  by_cases h : stopSense (s.params.actuator a) e = .both ∧ (act s.motion a).state = endState e
  · obtain ⟨hsense, hst⟩ := h
    rw [departureAt_of_taken hsense hst]
    have hleft : Turns a s (leftEnd a e s) := turns_leftEnd hst
    split
    · exact (hleft.trans (turns_autoRetract a .vehicle _)).trans (turns_raiseEvent a _ _)
    · exact hleft
  · rw [departureAt_of_untaken (not_and_or.mp h)]
    exact turns_setStop a e false s

/-! ## The driven motor -/

theorem positionAfter_le {p : ActuatorParams} {d : Drive} {n : Nat} (h : n ≤ p.length) :
    positionAfter p d n ≤ p.length := by
  cases d
  · exact h
  · exact Nat.min_le_right _ _
  · exact Nat.le_trans (Nat.sub_le n 1) h

theorem turns_hallEdgeAt (a : Actuator) (s : State) : Turns a s (hallEdgeAt a s) := by
  unfold hallEdgeAt
  simp only
  split
  · exact .refl a s
  · next hmotor =>
    refine turns_putAct rfl (fun _ => id) fun h => ?_
    obtain ⟨h1, h2, h3, h4, h5, h6, h7, h8, h9, _, h11, h12⟩ := h
    exact ⟨h1, h2, h3, h4, h5, h6, h7, h8, h9, ⟨fun hoff => absurd hoff hmotor, nofun⟩, h11, positionAfter_le h12⟩

theorem turns_currentCrossing (a : Actuator) (current : Nat) (s : State) : Turns a s (currentCrossing a current s) := by
  cases hl : (act s.motion a).latched with
  | none =>
    rw [currentCrossing_of_off hl]
    exact .refl a s
  | some l =>
    rw [currentCrossing_of_latched hl]
    refine turns_putAct rfl (fun _ => id) fun h => ?_
    obtain ⟨h1, h2, h3, h4, h5, h6, h7, h8, h9, h10, _, h12⟩ := h
    refine ⟨h1, h2, h3, h4, h5, h6, h7, h8, h9, h10, fun _ hoff => ?_, h12⟩
    cases hl.symm.trans (h7.mp hoff)

/-- A sound actuator whose overcurrent timer runs is moving. -/
theorem ne_fault_of_overTimer {a : Actuator} {s : State} (hover : (act s.motion a).overTimer ≠ none)
    (hs : Standing a s) : (act s.motion a).state ≠ .fault := by
  intro hst
  exact hs.record.overcurrent hover (motor_off_of_still hs.record (by rw [hst]; rfl))

theorem turns_overcurrentAt {a : Actuator} {s : State} (hover : (act s.motion a).overTimer ≠ none) :
    Turns a s (overcurrentAt a s) := by
  have hfault (hs : Standing a s) := ne_fault_of_overTimer hover hs
  unfold overcurrentAt
  split
  · exact turns_enterFault a .obstructed s
  · split
    · exact (turns_reverseInward hfault).trans (turns_recordCause (by rw [act_reverseInward]; rfl))
    · exact turns_endTravel rfl nofun hfault

/-- A sound actuator whose pause runs is moving. -/
theorem moving_of_pauseTimer {a : Actuator} {s : State} (hpause : (act s.motion a).pauseTimer ≠ none)
    (hs : Standing a s) : isMoving (act s.motion a).state = true := (hs.record.pause hpause).1

theorem turns_endPause {a : Actuator} {s : State} (hpause : (act s.motion a).pauseTimer ≠ none) :
    Turns a s (endPause a s) := by
  have hmoves (hs : Standing a s) := moving_of_pauseTimer hpause hs
  have hfault (hs : Standing a s) : (act s.motion a).state ≠ .fault := by
    intro hst
    have hm := hmoves hs
    rw [hst] at hm
    cases hm
  cases hstop : stopActive s a (endAhead (act s.motion a).state) with
  | true =>
    rw [endPause_of_active rfl hstop]
    exact turns_endAtStop _ hfault
  | false =>
    rw [endPause_of_clear rfl hstop]
    refine (moved_putAct a _ s).faultKept.turns (fun hs => ?_) fun hs hext => ?_
    · have hfaultless := hs.record.faultless (hfault hs)
      have hload := hs.load
      unfold LoadFits at hload
      cases hst : (act s.motion a).state with
      | stowed | extended | stoppedMid | fault =>
        have hm := hmoves hs
        rw [hst] at hm
        cases hm
      | retracting =>
        rw [hst] at hload
        refine ⟨?_, ?_⟩
        · rw [act_putAct_self, putAct_params]
          exact (recSound_drivenInward hfaultless hs.record.position :
            RecSound _ (drivenInward (s.params.actuator a) (act s.motion a) (act s.motion a).releaseMark (act s.motion a).cause))
        · rw [act_putAct_self, putAct_budget]
          exact hload
      | extending =>
        rw [hst] at hload
        obtain ⟨hcause, hmark⟩ := hs.record.unmarked (by rw [hst]; nofun)
        have hsound : RecSound (s.params.actuator a).length (drivenOutward (s.params.actuator a) (act s.motion a)
            (act s.motion a).releaseMark (act s.motion a).cause) := by
          rw [hcause, hmark]
          exact recSound_drivenOutward hfaultless hs.record.position
        refine ⟨?_, ?_⟩
        · rw [act_putAct_self, putAct_params]
          exact hsound
        · rw [act_putAct_self, putAct_budget]
          exact hload
    · rw [act_putAct_self] at hext ⊢
      refine ⟨?_, id⟩
      have hm := hmoves hs
      cases hst : (act s.motion a).state with
      | extending => rfl
      | _ => rw [hst] at hext; cases hext

/-! ## Wind -/

theorem sounds_putWind {s : State} (h : Sounds flag s) (w : WindMeter) : Sounds flag (putWind w s) := by
  refine ⟨h.1, fun a ha => ?_⟩
  have hact : act (putWind w s).motion a = act s.motion a := by cases a <;> rfl
  obtain ⟨hstanding, hfree⟩ := h.2 a ha
  exact ⟨hstanding.kept hact rfl (loadKept_of_eq rfl), hfree.kept hact rfl rfl rfl⟩

theorem sounds_takeGust {s : State} (h : Sounds flag s) : Sounds flag (takeGust s) := by
  have hbrought : Sounds flag (raiseEvent .windRetract (autoRetract .awning .wind s)) :=
    ((turns_autoRetract .awning .wind s).trans (turns_raiseEvent .awning _ _)).sounds h
  unfold takeGust
  split
  · exact hbrought
  · exact hbrought
  · exact hbrought
  · exact h

theorem sounds_windEdge {s : State} (h : Sounds flag s) : Sounds flag (windEdge s) := by
  unfold windEdge
  simp only
  split
  · exact sounds_putWind h _
  · split
    · exact sounds_putWind h _
    · exact sounds_takeGust (sounds_putWind h _)

/-! ## MOVE -/

theorem sounds_startOutward {a : Actuator} {s : State} (h : Sounds flag s) (hhosted : (s.params.actuator a).hosted = true)
    (hst : (act s.motion a).state = .stowed ∨ (act s.motion a).state = .stoppedMid) (hmay : MayExtend a s) :
    Sounds flag (startOutward a s) := by
  obtain ⟨hstanding, _⟩ := h.2 a hhosted
  have hstill : isMoving (act s.motion a).state = false := by rcases hst with h | h <;> rw [h] <;> rfl
  have hfault : (act s.motion a).state ≠ .fault := by rcases hst with h | h <;> rw [h] <;> nofun
  have hoff := hstanding.off hstill
  cases hstop : stopActive s a .outStop with
  | true =>
    rw [startOutward_of_active hstop]
    exact (turns_placed (st := .extended) hstill hfault rfl nofun fun _ => Nat.le_refl _).sounds h
  | false =>
    cases hr : extensionRefused (motorLoad a) s with
    | true =>
      rw [startOutward_of_refused hstop hoff hr]
      exact h
    | false =>
      rw [startOutward_of_admitted hstop hoff hr]
      obtain ⟨hcause, hmark⟩ := hstanding.record.unmarked fun hr' => by rw [hr'] at hstill; cases hstill
      have hact := act_startDrive_outward a s
      have hload : (startDrive a .outStop (askExtension (motorLoad a) s)).budget.loads[motorLoad a]
          = admittedFor .c2 s.budget.loads[motorLoad a] := by rw [startDrive, putAct_budget, askExtension_load hoff hr]
      rw [hcause, hmark] at hact
      refine (moved_startDrive_outward a s).faultKept.sounds_extends h ?_ (by rw [hact]; rfl) ?_ ?_
      · rw [hact]
        exact recSound_drivenOutward (hstanding.record.faultless hfault) hstanding.record.position
      · rw [hload]
        exact ⟨rfl, rfl⟩
      · rw [hact]
        exact ⟨hmay.hold, hmay.storage, hmay.interlock⟩

theorem sounds_reverseOutward {a : Actuator} {s : State} (h : Sounds flag s) (hhosted : (s.params.actuator a).hosted = true)
    (hst : (act s.motion a).state = .retracting) (hmay : MayExtend a s) : Sounds flag (reverseOutward a s) := by
  obtain ⟨hstanding, _⟩ := h.2 a hhosted
  have hfaultless := hstanding.record.faultless (by rw [hst]; nofun)
  cases hr : extensionRefused (motorLoad a) (release (motorLoad a) s) with
  | true =>
    rw [reverseOutward_of_refused hr]
    have hmoved := (moved_release a s).trans (moved_askRetraction a _)
    have hact : act (askRetraction (motorLoad a) (release (motorLoad a) s)).motion a = act s.motion a := by
      rw [askRetraction_motion, release_motion]
    refine (hmoved.faultKept.turns_inward fun _ => ?_).sounds h
    rw [hact, askRetraction_load (release_state _ _)]
    exact ⟨hst, hstanding.record, rfl, rfl⟩
  | false =>
    rw [reverseOutward_of_admitted hr]
    have hmoved := ((moved_release a s).trans (moved_askExtension a _)).trans
      (moved_putAct a (reversing (act s.motion a) .extending false none) _)
    refine hmoved.faultKept.sounds_extends h ?_ (by rw [act_putAct_self]; rfl) ?_ ?_
    · rw [act_putAct_self]
      exact recSound_reversing hfaultless hstanding.record.position rfl (.inr ⟨rfl, rfl⟩)
    · rw [putAct_budget, askExtension_load (release_state _ _) hr]
      exact ⟨rfl, rfl⟩
    · rw [act_putAct_self]
      exact ⟨hmay.hold, hmay.storage, hmay.interlock⟩

theorem sounds_moveExtend {a : Actuator} {s : State} (h : Sounds flag s) (hhosted : (s.params.actuator a).hosted = true) :
    Sounds flag (moveExtend a s).1 := by
  by_cases hst : mayExtend (act s.motion a).state
  · cases hhold : (act s.motion a).hold with
    | true => rw [moveExtend_of_held hst hhold]; exact h
    | false =>
      cases hstorage : s.motion.storage with
      | true => rw [moveExtend_of_storage hst hhold hstorage]; exact h
      | false =>
        cases hlock : interlockActive s.params s.motion.vehicle || windForbids s a with
        | true => rw [moveExtend_of_interlock hst hhold hstorage hlock]; exact h
        | false =>
          obtain ⟨hinterlock, hwind⟩ := Bool.or_eq_false_iff.mp hlock
          have hmay : MayExtend a s := ⟨hhold, hstorage, hinterlock, hwind⟩
          rcases hst with hst | hst | hst
          · rw [moveExtend_of_still (.inl hst) hmay]
            exact sounds_startOutward h hhosted (.inl hst) hmay
          · rw [moveExtend_of_still (.inr hst) hmay]
            exact sounds_startOutward h hhosted (.inr hst) hmay
          · rw [moveExtend_of_retracting hst hmay]
            exact sounds_reverseOutward h hhosted hst hmay
  · cases hs : (act s.motion a).state with
    | fault => rw [moveExtend_of_fault hs]; exact h
    | extended => rw [moveExtend_of_out (.inl hs)]; exact h
    | extending => rw [moveExtend_of_out (.inr hs)]; exact h
    | stowed => exact absurd (.inl hs) hst
    | stoppedMid => exact absurd (.inr (.inl hs)) hst
    | retracting => exact absurd (.inr (.inr hs)) hst

theorem sounds_moveRetract {a : Actuator} {s : State} (h : Sounds flag s) : Sounds flag (moveRetract a s).1 := by
  by_cases hst : mayRetract (act s.motion a).state
  · cases hhold : (act s.motion a).hold with
    | true => rw [moveRetract_of_held hst hhold]; exact h
    | false =>
      rcases hst with hst | hst | hst
      · rw [moveRetract_of_still (.inl hst) hhold]
        exact (turns_startInward (.inl hst)).sounds h
      · rw [moveRetract_of_still (.inr hst) hhold]
        exact (turns_startInward (.inr hst)).sounds h
      · rw [moveRetract_of_extending hst hhold]
        exact (turns_reverseInward fun _ => by rw [hst]; nofun).sounds h
  · cases hs : (act s.motion a).state with
    | fault => rw [moveRetract_of_fault hs]; exact h
    | stowed => rw [moveRetract_of_in (.inl hs)]; exact h
    | retracting => rw [moveRetract_of_in (.inr hs)]; exact h
    | extended => exact absurd (.inl hs) hst
    | stoppedMid => exact absurd (.inr (.inl hs)) hst
    | extending => exact absurd (.inr (.inr hs)) hst

theorem sounds_decideMove {s : State} (h : Sounds flag s) (x d : Byte) : Sounds flag (decideMove x d s).1 := by
  unfold decideMove
  split
  · next a extend _ _ =>
    cases hhosted : (s.params.actuator a).hosted with
    | false => exact h
    | true =>
      cases extend
      · exact sounds_moveRetract h
      · exact sounds_moveExtend h hhosted
  · exact h

/-! ## HALT, HOLD_SET and FAULT_CLEAR -/

theorem sounds_decideHalt {s : State} (h : Sounds flag s) (x : Byte) : Sounds flag (decideHalt x s).1 := by
  unfold decideHalt
  split
  · exact h
  · split
    · exact h
    · split
      · next hmoves =>
        exact (turns_endTravel (st := .stoppedMid) rfl nofun fun _ hst => by rw [hst] at hmoves; cases hmoves).sounds h
      · exact h

theorem turns_setHold (a : Actuator) (v : Bool) (s : State) : Turns a s (setHold a v s) := by
  cases v
  · exact turns_putAct rfl (fun _ _ => rfl) fun hrec => recSound_hold hrec false
  · by_cases hst : (act s.motion a).state = .extending
    · rw [setHold_of_extending hst]
      refine ((moved_putAct a _ s).trans (moved_endTravel a _ _)).faultKept.turns_to_still fun hs => ?_
      rw [act_endTravel, act_putAct_self, endedTravel_eq_self]
      exact ⟨rfl, recSound_travelEnded (hs.record.faultless (by rw [hst]; nofun)) rfl nofun hs.record.position,
        load_endTravel a _ _⟩
    · rw [setHold_of_still hst]
      exact turns_putAct rfl (fun hext => absurd hext hst) fun hrec => recSound_unmark hrec true

theorem sounds_decideHoldSet {s : State} (h : Sounds flag s) (x v : Byte) : Sounds flag (decideHoldSet x v s).1 := by
  unfold decideHoldSet
  split
  · split
    · exact h
    · exact (turns_setHold _ _ s).sounds h
  · exact h

theorem turns_clearFault {a : Actuator} {s : State} (hst : (act s.motion a).state = .fault) :
    Turns a s (clearFault a s).1 := by
  have hcleared : Moved a s (withoutFaults a s) := moved_putAct a _ s
  have hrec : act (withoutFaults a s).motion a = { act s.motion a with faults := FaultSet.empty } := act_putAct_self a _ s
  have hbudget : (withoutFaults a s).budget = s.budget := putAct_budget a _ s
  have hstill : isMoving (act s.motion a).state = false := by rw [hst]; rfl
  have hplaced {st : ActState} {n : Nat} (hs : Standing a s) (hst' : isMoving st = false) (hne : st ≠ .fault)
      (hn : n ≤ (s.params.actuator a).length) : RecSound (s.params.actuator a).length
        { act s.motion a with faults := FaultSet.empty, state := st, position := n } := by
    obtain ⟨hcause, hmark⟩ := hs.record.unmarked fun hr => by rw [hr] at hst; cases hst
    obtain ⟨hmotor, hlatched, htravel, hstall, hover, hpause⟩ := hs.record.atRest hstill
    exact recSound_of_atRest ⟨hmotor, hlatched, htravel, hstall, hover, hpause⟩ hst'
      ⟨fun h => absurd rfl h, fun h => absurd h hne⟩ hcause hmark hn
  rw [clearFault_eq]
  split
  · refine (hcleared.faultKept.trans (faultKept_enterFault a .conflict _)).turns_to_still fun hs => ?_
    have hmoving : isMoving (act (withoutFaults a s).motion a).state = false := by rw [hrec]; exact hstill
    obtain ⟨hcause, hmark⟩ := hs.record.unmarked fun hr => by rw [hr] at hst; cases hst
    obtain ⟨hmotor, hlatched, htravel, hstall, hover, hpause⟩ := hs.record.atRest hstill
    rw [act_enterFault, faultedRecord, if_neg (by rw [hmoving]; nofun), hrec, enterFault_load_of_still hmoving, hbudget]
    exact ⟨rfl, recSound_of_atRest ⟨hmotor, hlatched, htravel, hstall, hover, hpause⟩ rfl
      ⟨fun _ => rfl, fun _ => addFault_ne_empty FaultSet.empty .conflict⟩ hcause hmark hs.record.position, hs.off hstill⟩
  · split
    · refine (hcleared.trans (moved_takeEnd a .inStop _)).faultKept.turns_to_still fun hs => ?_
      rw [act_takeEnd, hrec, takeEnd, putAct_budget, hbudget]
      exact ⟨rfl, hplaced hs rfl nofun (Nat.zero_le _), hs.off hstill⟩
    · split
      · refine (hcleared.trans (moved_takeEnd a .outStop _)).faultKept.turns_to_still fun hs => ?_
        rw [act_takeEnd, hrec, hcleared.params, takeEnd, putAct_budget, hbudget]
        exact ⟨rfl, hplaced hs rfl nofun (Nat.le_refl _), hs.off hstill⟩
      · refine (hcleared.trans (moved_putAct a _ _)).faultKept.turns_to_still fun hs => ?_
        rw [act_putAct_self, hrec, putAct_budget, hbudget]
        exact ⟨rfl, hplaced hs rfl nofun hs.record.position, hs.off hstill⟩

theorem sounds_decideFaultClear {s : State} (h : Sounds flag s) (x : Byte) : Sounds flag (decideFaultClear x s).1 := by
  unfold decideFaultClear
  split
  · exact h
  · split
    · exact h
    · split
      · next hst => exact (turns_clearFault hst).sounds h
      · exact h

end

end Sys2Proof.Machine

/-! Every operation, the start and the passing of time keep every hosted actuator sound (O10). -/

namespace Sys2Proof.Machine

-- As in the tests, so that no command needs threads of its own.
set_option Elab.async false

section
variable {flag : Bool}

/-! ## What acts beside every actuator -/

theorem Sounds.beside {s t : State} (hs : Sounds flag s) (h : ∀ a, Beside a s t) : Sounds flag t := by
  refine ⟨(h .awning).storage.trans hs.1, fun a ha => ?_⟩
  have hb := h a
  rw [hb.params] at ha
  obtain ⟨hstanding, hfree⟩ := hs.2 a ha
  exact ⟨hstanding.kept hb.act hb.params hb.load, hfree.kept hb.act hb.params hb.storage hb.vehicle⟩

/-- What moves of the motion controller at most the MOTION timer. -/
theorem beside_of_motion {s t : State} (hm : t.motion = { s.motion with motionTimer := t.motion.motionTimer })
    (hp : t.params = s.params) (hl : ∀ a, LoadKept (motorLoad a) s t) (a : Actuator) : Beside a s t :=
  ⟨by rw [hm]; cases a <;> rfl, by rw [hm], by rw [hm], by rw [hm], by rw [hm], hp, hl a⟩

/-- A chain of acts that leaves the motion controller and its motors. -/
theorem Acts.besides {L : List Effect} {s t : State} (h : Acts L s t)
    (hL : .writes .motion ∉ L ∧ .clearsCounters ∉ L ∧ .asks 15 ∉ L ∧ .asks 16 ∉ L := by decide) (a : Actuator) :
    Beside a s t := by
  obtain ⟨hmotion, hclears, hawning, hstep⟩ := hL
  refine beside_of_motion ?_ h.params (fun b => h.loadKept ?_) a
  · rw [h.motion hmotion hclears]
  · cases b
    · exact hawning
    · exact hstep

theorem Acts.sounds {L : List Effect} {s t : State} (h : Acts L s t) (hs : Sounds flag s)
    (hL : .writes .motion ∉ L ∧ .clearsCounters ∉ L ∧ .asks 15 ∉ L ∧ .asks 16 ∉ L := by decide) : Sounds flag t :=
  hs.beside (h.besides hL)

theorem sounds_publish {before s : State} (h : Sounds flag s) : Sounds flag (publish before s) :=
  h.beside (beside_publish before s)

theorem sounds_queueMotion {s : State} (h : Sounds flag s) : Sounds flag (queueMotion s) :=
  h.beside <| beside_of_motion (queueMotion_motion s) (acts_queueMotion s).params fun b =>
    (acts_queueMotion s).loadKept (by cases b <;> decide)

theorem sounds_clearPage {s : State} (h : Sounds flag s) (page : Nat) : Sounds flag (clearPage page s) := by
  have hparams : (clearPage page s).params = s.params := (Acts.clear (L := [.clearsCounters]) page (by decide) .refl).params
  have hact (a : Actuator) : act (clearPage page s).motion a = act s.motion a := by
    unfold clearPage
    split
    · rfl
    · split
      · rfl
      · cases a <;> rfl
  have hrest : (clearPage page s).motion.storage = s.motion.storage ∧ (clearPage page s).motion.vehicle = s.motion.vehicle
      ∧ (clearPage page s).budget.loads = s.budget.loads := by
    unfold clearPage
    split
    · exact ⟨rfl, rfl, rfl⟩
    · split <;> exact ⟨rfl, rfl, rfl⟩
  obtain ⟨hstorage, hvehicle, hloads⟩ := hrest
  refine ⟨hstorage.trans h.1, fun a ha => ?_⟩
  rw [hparams] at ha
  obtain ⟨hstanding, hfree⟩ := h.2 a ha
  exact ⟨hstanding.kept (hact a) hparams (loadKept_of_eq (by rw [hloads])), hfree.kept (hact a) hparams hstorage hvehicle⟩

/-! ## The vehicle (R130 to R133) -/

/-- The records and the loads of every hosted actuator are sound. -/
def Standings (s : State) : Prop := ∀ a : Actuator, (s.params.actuator a).hosted = true → Standing a s

theorem Turns.standings {b : Actuator} {s t : State} (h : Turns b s t) (hs : Standings s) : Standings t := by
  intro a ha
  rw [h.params] at ha
  rcases eq_or_eq_other b a with rfl | rfl
  · exact h.standing (hs _ ha)
  · exact (hs _ ha).kept h.rest.1 h.params h.load

theorem standings_foldl {f : State → Actuator → State} (hf : ∀ t b, Turns b t (f t b)) :
    ∀ (l : List Actuator) (s : State), Standings s → Standings (l.foldl f s)
  | [], _, hs => hs
  | b :: l, s, hs => standings_foldl hf l _ ((hf s b).standings hs)

theorem standings_withVehicle {s : State} (h : Sounds flag s) (v : VehicleState) : Standings (withVehicle v s) := by
  intro a ha
  exact (h.2 a ha).1.kept (act_withVehicle v s a) rfl (loadKept_of_eq rfl)

theorem turns_stopExtension (s : State) (a : Actuator) : Turns a s (stopExtension s a) := by
  unfold stopExtension
  split
  · next h => exact turns_endTravel rfl nofun fun _ => by rw [h]; nofun
  · exact .refl a s

theorem standings_interlockRise {s : State} (h : Standings s) : Standings (interlockRise s) := by
  have hin : Standings (broughtIn s) := standings_foldl (fun t b => turns_autoRetract b .vehicle t) _ s h
  rw [interlockRise_eq]
  split
  · exact (turns_raiseEvent .awning _ _).standings hin
  · exact hin

/-- After an active interlock has acted no hosted actuator is extending. -/
theorem not_extending_interlock {s : State} {a : Actuator} (ha : (s.params.actuator a).hosted = true) :
    (act (interlockRise s).motion a).state ≠ .extending ∧ (act (interlockHolds s).motion a).state ≠ .extending := by
  refine ⟨?_, ?_⟩
  · obtain ⟨t, _, hact⟩ := (act_broughtIn s a).2 ha
    rw [act_interlockRise, hact]
    exact autoRetract_not_extending a .vehicle t
  · obtain ⟨hext, hother⟩ := (act_interlockHolds s a).2 ha
    by_cases h : (act s.motion a).state = .extending
    · rw [(hext h).1]
      nofun
    · rw [hother h]
      exact h

theorem handVehicle_storage (v : VehicleState) (s : State) : (handVehicle v s).motion.storage = s.motion.storage := by
  have hfold {f : State → Actuator → State} (hf : ∀ t b, Turns b t (f t b)) (l : List Actuator) (t : State) :
      (l.foldl f t).motion.storage = t.motion.storage := by
    induction l generalizing t with
    | nil => rfl
    | cons b l ih => exact (ih (f t b)).trans (hf t b).rest.2.2.2
  have hin := hfold (fun t b => turns_autoRetract b .vehicle t) (hostedActs (withVehicle v s).params) (withVehicle v s)
  have hstop := hfold turns_stopExtension (hostedActs (withVehicle v s).params) (withVehicle v s)
  rw [handVehicle_eq]
  split
  · rw [interlockRise_eq]
    split
    · rw [raiseEvent_motion]
      exact hin
    · exact hin
  · split
    · exact hstop
    · rfl

theorem sounds_handVehicle {s : State} (h : Sounds flag s) (v : VehicleState) : Sounds flag (handVehicle v s) := by
  have hstandings := standings_withVehicle h v
  have hparams : (handVehicle v s).params = s.params := (acts_handVehicle v s).params
  have hfree (a : Actuator) (ha : (s.params.actuator a).hosted = true)
      (hst : Standing a (handVehicle v s)) (hne : (act (handVehicle v s).motion a).state ≠ .extending) :
      Standing a (handVehicle v s) ∧ Freely a (handVehicle v s) := ⟨hst, fun hext => absurd hext hne⟩
  refine ⟨(handVehicle_storage v s).trans h.1, fun a ha => ?_⟩
  rw [hparams] at ha
  have hnot := not_extending_interlock (s := withVehicle v s) (a := a) ha
  have hcases := handVehicle_eq v s
  split at hcases
  · refine hfree a ha ?_ ?_
    · have hrise := standings_interlockRise hstandings a
      rw [hcases] at hparams ⊢
      rw [hparams] at hrise
      exact hrise ha
    · rw [hcases]
      exact hnot.1
  · split at hcases
    · refine hfree a ha ?_ ?_
      · have hholds := standings_foldl turns_stopExtension (hostedActs (withVehicle v s).params) _ hstandings a
        rw [hcases] at hparams ⊢
        have hparams' : (interlockHolds (withVehicle v s)).params = s.params := hparams
        rw [interlockHolds] at hparams'
        rw [hparams'] at hholds
        exact hholds ha
      · rw [hcases]
        exact hnot.2
    · next hlock =>
      rw [hcases]
      refine ⟨hstandings a ha, fun hext => ?_⟩
      rw [act_withVehicle] at hext ⊢
      obtain ⟨hhold, hstorage, _⟩ := (h.2 a ha).2 hext
      exact ⟨hhold, hstorage, Bool.not_eq_true _ ▸ hlock⟩

theorem viewKept_sounds (flag : Bool) : ViewKept (Sounds flag) where
  peers s x h := ⟨h.1, fun a ha => ⟨⟨(h.2 a ha).1.record, (h.2 a ha).1.load⟩, (h.2 a ha).2⟩⟩
  lost s h := (acts_raiseEvent .peerLost s).sounds h
  quantities s banks supply known sums h := (LoadEvent.acts (.quantities banks supply known sums s)).sounds h
  vehicle s v h := sounds_handVehicle h v
  moving s moving h := (acts_handMoving moving s).sounds h
  step s o h := (acts_handPeerStepOut o s).sounds h
  grey s full h := (acts_handGreyFull full s).sounds h

/-! ## STOW and storage mode (R136, R137, R190) -/

theorem afterOverride_state (before : ActState) (r : ActRec) : (afterOverride before r).state = r.state := by
  unfold afterOverride
  split
  · rfl
  · split <;> rfl

theorem turns_stowOne (o : Bool) (s : State) (a : Actuator) : Turns a s (stowOne o s a) := by
  by_cases h : (act s.motion a).hold = false ∨ o = true
  · rw [stowOne_of_taken h]
    have hretract := turns_autoRetract a .stow s
    have hnot := autoRetract_not_extending a .stow s
    generalize autoRetract a .stow s = t at hretract hnot
    split
    · refine hretract.trans (turns_putAct (afterOverride_state _ _)
        (fun hext => absurd ((afterOverride_state _ _).symm.trans hext) hnot) fun hrec => ?_)
      unfold afterOverride
      split
      · next hst => exact recSound_retracting hrec hst _ _ _
      · split
        · exact recSound_hold hrec false
        · exact hrec
    · exact hretract
  · obtain ⟨hhold, ho⟩ := not_or.mp h
    rw [stowOne_of_held (Bool.not_eq_false _ ▸ hhold) (Bool.not_eq_true _ ▸ ho)]
    exact .refl a s

theorem sounds_foldl {f : State → Actuator → State} (hf : ∀ t b, Turns b t (f t b)) :
    ∀ (l : List Actuator) (s : State), Sounds flag s → Sounds flag (l.foldl f s)
  | [], _, hs => hs
  | b :: l, s, hs => sounds_foldl hf l _ ((hf s b).sounds hs)

theorem sounds_takeStow {s : State} (h : Sounds flag s) (o : Bool) : Sounds flag (takeStow o s) :=
  sounds_foldl (turns_stowOne o) _ s h

theorem stowing_not_extending {o : Bool} {a : Actuator} {s t : State} (h : Stowing o a s t) (hs : Standing a s) :
    (act t.motion a).state ≠ .extending := by
  cases hst : (act s.motion a).state with
  | stowed => rw [h.still (.inl hst), hst]; nofun
  | fault => rw [h.still (.inr hst), hst]; nofun
  | retracting => rw [h.retracting hst]; exact fun h' => absurd (hst.symm.trans h') nofun
  | extending => rw [(h.extending hst).1]; nofun
  | extended | stoppedMid =>
    have hout : standsOut (act s.motion a).state := by simp [standsOut, hst]
    cases hin : stopActive s a .inStop with
    | true => rw [h.home hout hin]; nofun
    | false => rw [(h.driven hout hin (hs.off (by rw [hst]; rfl))).1]; nofun

/-- The state with the motion controller's storage flag taken, before the STOW of R137. -/
def storageTaken (s : State) : State := s.setMotion { s.motion with storage := true }

theorem sounds_motionEntersStorage {s : State} (h : Sounds flag s) : Sounds true (motionEntersStorage s) := by
  have hact (a : Actuator) : act (storageTaken s).motion a = act s.motion a := by cases a <;> rfl
  have hbefore : Standings (storageTaken s) := fun a ha => (h.2 a ha).1.kept (hact a) rfl (loadKept_of_eq rfl)
  have hafter : Standings (takeStow false (storageTaken s)) := standings_foldl (turns_stowOne false) _ _ hbefore
  have hstorage (l : List Actuator) (t : State) : (l.foldl (stowOne false) t).motion.storage = t.motion.storage := by
    induction l generalizing t with
    | nil => rfl
    | cons b l ih => exact (ih _).trans (turns_stowOne false t b).rest.2.2.2
  refine ⟨hstorage _ _, fun a ha => ⟨hafter a ha, fun hext => ?_⟩⟩
  have hparams : (takeStow false (storageTaken s)).params = s.params := (acts_takeStow false _).params
  have ha' : (s.params.actuator a).hosted = true := by rw [← hparams]; exact ha
  obtain ⟨hstanding, hfree⟩ := h.2 a ha'
  have hext' : (act (takeStow false (storageTaken s)).motion a).state = .extending := hext
  cases hhold : (act s.motion a).hold with
  | true =>
    rw [act_takeStow_left (.inr ⟨by rw [hact]; exact hhold, rfl⟩), hact] at hext'
    exact absurd (hhold.symm.trans (hfree hext').1) nofun
  | false =>
    exact absurd hext' (stowing_not_extending (stowing_takeStow (s := storageTaken s) ha' (.inl (by rw [hact]; exact hhold)))
      (hbefore a ha'))

theorem sounds_motionExitsStorage {s : State} (h : Sounds flag s) : Sounds false (motionExitsStorage s) := by
  have hact (a : Actuator) : act (motionExitsStorage s).motion a = act s.motion a := by cases a <;> rfl
  refine ⟨rfl, fun a ha => ?_⟩
  obtain ⟨hstanding, hfree⟩ := h.2 a ha
  refine ⟨hstanding.kept (hact a) rfl (loadKept_of_eq rfl), fun hext => ?_⟩
  rw [hact] at hext ⊢
  obtain ⟨hhold, _, hlock⟩ := hfree hext
  exact ⟨hhold, rfl, hlock⟩

theorem sounds_setBoot {s : State} (h : Sounds flag s) (b : Boot) : Sounds flag (s.setBoot b) :=
  ⟨h.1, fun a ha => ⟨⟨(h.2 a ha).1.record, (h.2 a ha).1.load⟩, (h.2 a ha).2⟩⟩

theorem sounds_enterStorage {s : State} (h : Sounds flag s) : Sounds true (enterStorage s) := by
  have hzones := (acts_zonesEnterStorage (s.setBoot { s.boot with storage := true })).sounds (sounds_setBoot h _)
  unfold enterStorage
  generalize zonesEnterStorage (s.setBoot { s.boot with storage := true }) = z at hzones
  have hmotion := sounds_motionEntersStorage ((acts_evalPump z).sounds hzones)
  generalize motionEntersStorage (evalPump z) = u at hmotion
  exact (acts_lightsEnterStorage u).sounds hmotion

theorem sounds_exitStorage {s : State} (h : Sounds flag s) : Sounds false (exitStorage s) := by
  have hzones := (acts_zonesExitStorage (s.setBoot { s.boot with storage := false })).sounds (sounds_setBoot h _)
  unfold exitStorage
  generalize zonesExitStorage (s.setBoot { s.boot with storage := false }) = z at hzones
  have hmotion := sounds_motionExitsStorage ((acts_evalPump z).sounds hzones)
  generalize motionExitsStorage (evalPump z) = u at hmotion
  exact (acts_lightsExitStorage u).sounds hmotion

end

theorem enterStorage_storage (s : State) : (enterStorage s).boot.storage = true := by
  have hacts := acts_beforeLightsEnter (s.setBoot { s.boot with storage := true })
  unfold enterStorage
  generalize motionEntersStorage (evalPump (zonesEnterStorage (s.setBoot { s.boot with storage := true }))) = u at hacts
  rw [boot_of_acts (acts_lightsEnterStorage u) (by decide), boot_of_acts hacts (by decide)]
  rfl

theorem exitStorage_storage (s : State) : (exitStorage s).boot.storage = false := by
  have hacts := acts_beforeLightsExit (s.setBoot { s.boot with storage := false })
  unfold exitStorage
  generalize motionExitsStorage (evalPump (zonesExitStorage (s.setBoot { s.boot with storage := false }))) = u at hacts
  rw [boot_of_acts (acts_lightsExitStorage u) (by decide), boot_of_acts hacts (by decide)]
  rfl

theorem enterRun_storage (s : State) : (enterRun s).boot.storage = s.boot.storage := by
  unfold enterRun
  simp only
  split
  · rw [boot_of_acts (LoadEvent.acts (.gate _)) (by decide)]
    rfl
  · rfl

/-! ## Every operation -/

/-- Every hosted actuator is sound, and the motion controller's storage flag is the part's (R137). -/
def ActsIn (s : State) : Prop := Sounds s.boot.storage s

theorem actsIn_of_boot {s u : State} (hs : Sounds s.boot.storage u) (hboot : u.boot = s.boot) : ActsIn u := by
  unfold ActsIn
  rw [hboot]
  exact hs

theorem actsIn_decideStorageSet {s : State} (h : ActsIn s) (value : Byte) : ActsIn (decideStorageSet value s).1 := by
  unfold decideStorageSet
  split
  · exact h
  · simp only
    split
    · exact h
    · split
      · have henter := sounds_enterStorage h
        unfold ActsIn
        rw [enterStorage_storage]
        exact henter
      · have hexit := sounds_exitStorage h
        unfold ActsIn
        rw [exitStorage_storage]
        exact hexit

theorem Decides.actsIn {n : Nat} {args : List Byte} {d : State → State × Answer} (h : Decides n args d) {s : State}
    (hs : ActsIn s) : ActsIn (d s).1 := by
  cases h with
  | zoneSet zone mode sp1 sp0 =>
    have hacts := acts_decideZoneSet zone mode (sp1 ++ sp0) s
    exact actsIn_of_boot (hacts.sounds hs) (boot_of_acts hacts (by decide))
  | lightSet channel on level =>
    have hacts := acts_decideLightSet channel on level s
    exact actsIn_of_boot (hacts.sounds hs) (boot_of_acts hacts (by decide))
  | move a x => exact actsIn_of_boot (sounds_decideMove hs a x) (boot_of_acts (acts_decideMove a x s) (by decide))
  | halt a => exact actsIn_of_boot (sounds_decideHalt hs a) (boot_of_acts (acts_decideHalt a s) (by decide))
  | holdSet a v => exact actsIn_of_boot (sounds_decideHoldSet hs a v) (boot_of_acts (acts_decideHoldSet a v s) (by decide))
  | faultClear a =>
    exact actsIn_of_boot (sounds_decideFaultClear hs a) (boot_of_acts (acts_decideFaultClear a s) (by decide))
  | pumpSet v =>
    have hacts := acts_decidePumpSet v s
    exact actsIn_of_boot (hacts.sounds hs) (boot_of_acts hacts (by decide))
  | valveClose =>
    have hacts := acts_decideValveClose s
    exact actsIn_of_boot (hacts.sounds hs) (boot_of_acts hacts (by decide))
  | eventsClear x y =>
    have hacts := acts_decideEventsClear (x ++ y) s
    exact actsIn_of_boot (hacts.sounds hs) (boot_of_acts hacts (by decide))
  | storageSet v => exact actsIn_decideStorageSet hs v
  | diagQuery page =>
    have hboot := boot_of_acts (acts_decideDiagQuery page s) (by decide)
    refine actsIn_of_boot ?_ hboot
    unfold decideDiagQuery
    split
    · exact hs
    · exact sounds_clearPage hs _

theorem Did.actsIn {L : List Effect} {s u : State} (h : Did s L u) (hs : ActsIn s) : ActsIn u := by
  have hacts := h.acts
  cases h with
  | decided hd => exact hd.actsIn hs
  | entersRun =>
    have hsounds := hacts.sounds hs
    unfold ActsIn
    rw [show (enterRun s).boot.storage = s.boot.storage by exact enterRun_storage s]
    exact hsounds
  | expires n => exact actsIn_of_boot ((viewKept_sounds _).expirePeer hs n) (boot_of_acts hacts (by decide))
  | hears n k payload => exact actsIn_of_boot ((viewKept_sounds _).peerArrival hs n k payload) (boot_of_acts hacts (by decide))
  | arrives a e => exact actsIn_of_boot ((turns_arrivalAt a e s).sounds hs) (boot_of_acts hacts (by decide))
  | departs a e => exact actsIn_of_boot ((turns_departureAt a e s).sounds hs) (boot_of_acts hacts (by decide))
  | edges a => exact actsIn_of_boot ((turns_hallEdgeAt a s).sounds hs) (boot_of_acts hacts (by decide))
  | fails a f => exact actsIn_of_boot ((turns_enterFault a f s).sounds hs) (boot_of_acts hacts (by decide))
  | crosses a current => exact actsIn_of_boot ((turns_currentCrossing a current s).sounds hs) (boot_of_acts hacts (by decide))
  | overcurrent a _ hover => exact actsIn_of_boot ((turns_overcurrentAt hover).sounds hs) (boot_of_acts hacts (by decide))
  | endsPause a _ hpause => exact actsIn_of_boot ((turns_endPause hpause).sounds hs) (boot_of_acts hacts (by decide))
  | windEdge => exact actsIn_of_boot (sounds_windEdge hs) (boot_of_acts hacts (by decide))
  | windSilent => exact actsIn_of_boot (sounds_putWind hs _) (boot_of_acts hacts (by decide))
  | stows o => exact actsIn_of_boot (sounds_takeStow hs o) (boot_of_acts hacts (by decide))
  | queuesMotion => exact actsIn_of_boot (sounds_queueMotion hs) (boot_of_acts hacts (by decide))
  | _ => exact actsIn_of_boot (hacts.sounds hs) (boot_of_acts hacts (by decide))

/-! ## The start (R141) -/

theorem faultKept_startAct (s : State) (a : Actuator) : FaultKept a s (startAct s a) := by
  unfold startAct
  simp only
  split
  · exact ((moved_putAct a _ s).faultKept.trans (faultKept_raiseEvent a _ _)).trans (faultKept_countFault a _)
  · exact (moved_putAct a _ s).faultKept

/-- The record an actuator starts with (R141). -/
def startRecord (p : ActuatorParams) (i o : Bool) : ActRec :=
  { ActRec.reset with
    state := startState i o, position := startPosition p i o, faults := { FaultSet.empty with conflict := i && o } }

theorem act_startAct (s : State) (a : Actuator) : act (startAct s a).motion a
    = startRecord (s.params.actuator a) (stopActive s a .inStop) (stopActive s a .outStop) := by
  have hcount (t : State) : act (countFault t).motion a = act t.motion a := by cases a <;> rfl
  unfold startAct
  simp only
  split
  · rw [hcount, raiseEvent_motion, act_putAct_self]
    rfl
  · exact act_putAct_self a _ s

theorem startAct_budget (s : State) (a : Actuator) : (startAct s a).budget = s.budget := by
  have hcount (t : State) : (countFault t).budget = t.budget := rfl
  unfold startAct
  simp only
  split
  · rw [hcount, raiseEvent_budget, putAct_budget]
  · exact putAct_budget a _ s

theorem startRecord_still (p : ActuatorParams) (i o : Bool) : isMoving (startRecord p i o).state = false := by
  cases i <;> cases o <;> rfl

theorem recSound_startRecord (p : ActuatorParams) (i o : Bool) : RecSound p.length (startRecord p i o) := by
  refine recSound_of_atRest ⟨rfl, rfl, rfl, rfl, rfl, rfl⟩ (startRecord_still p i o) ?_ rfl rfl ?_
  · cases i <;> cases o <;> simp [startRecord, startState, FaultSet.empty]
  · cases i <;> cases o
    · exact Nat.div_le_self _ _
    · exact Nat.le_refl _
    · exact Nat.zero_le _
    · exact Nat.div_le_self _ _

/-- The start leaves every hosted actuator still and sound, their loads being OFF. -/
theorem sounds_startMotion {flag : Bool} {s : State} (inputs : StartInputs) (hflag : s.motion.storage = flag)
    (hoff : ∀ a : Actuator, s.budget.loads[motorLoad a].state = .off) : Sounds flag (startMotion inputs s) := by
  unfold startMotion
  generalize hm : s.setMotion { s.motion with
    pins := ⟨inputs.awningIn, inputs.awningOut, inputs.stepIn, inputs.stepOut⟩
    wind := { WindMeter.reset with silence := if s.params.wind.hosted then some 0 else none } } = m
  have hmoff (a : Actuator) : m.budget.loads[motorLoad a].state = .off := by rw [← hm]; exact hoff a
  have hmflag : m.motion.storage = flag := by rw [← hm]; exact hflag
  have hstorage (l : List Actuator) (t : State) : (l.foldl startAct t).motion.storage = t.motion.storage := by
    induction l generalizing t with
    | nil => rfl
    | cons b l ih => exact (ih _).trans (faultKept_startAct t b).rest.2.2.2
  have hparams (l : List Actuator) (t : State) : (l.foldl startAct t).params = t.params := by
    induction l generalizing t with
    | nil => rfl
    | cons b l ih => exact (ih _).trans (faultKept_startAct t b).params
  refine sounds_queueMotion ⟨(hstorage _ _).trans hmflag, fun a ha => ?_⟩
  rw [hparams] at ha
  obtain ⟨t, hbefore, hafter⟩ := (foldl_hosted faultKept_startAct m a).2 ha
  have hrec := act_startAct t a
  have hstarted : Standing a (startAct t a) := by
    refine ⟨?_, ?_⟩
    · rw [hrec, (faultKept_startAct t a).params]
      exact recSound_startRecord _ _ _
    · rw [hrec, startAct_budget]
      exact loadFits_off (startRecord_still _ _ _) (hbefore.off (hmoff a))
  refine ⟨hstarted.kept hafter.act hafter.params hafter.load, fun hext => ?_⟩
  rw [hafter.act, hrec] at hext
  have hstill := startRecord_still (t.params.actuator a) (stopActive t a .inStop) (stopActive t a .outStop)
  rw [hext] at hstill
  cases hstill

theorem actsIn_startBlocks (record : List Byte) (passed : Bool) (inputs : StartInputs) (s : State) :
    ActsIn (startBlocks record passed inputs s) := by
  have hwater := acts_waterStarted record passed inputs s
  have hflag : (waterStarted record passed inputs s).motion.storage = s.boot.storage := by
    rw [hwater.motion (by decide) (by decide)]
    rfl
  have hoff (a : Actuator) : (waterStarted record passed inputs s).budget.loads[motorLoad a].state = .off :=
    (hwater.loadKept (by cases a <;> decide)).off_iff.mpr (settledState_off record passed s _)
  have hstart := sounds_startMotion inputs hflag hoff
  have hacts := acts_startBlocks record passed inputs s
  rw [startBlocks_eq] at hacts ⊢
  unfold motionStarted at *
  generalize startMotion inputs (waterStarted record passed inputs s) = u at hstart hacts
  have hown := acts_handOwnStepOut (ownStepOut u) u
  unfold ActsIn
  rw [boot_of_acts hacts (by decide)]
  exact hstart.beside <| beside_of_motion (by rw [handOwnStepOut_motion]) hown.params fun b =>
    hown.loadKept (by cases b <;> decide)

/-! ## Time and resets -/

theorem recSound_tickAct {length : Nat} {r : ActRec} (h : RecSound length r) : RecSound length (tickAct r) := by
  have hrun (n : Nat) (t : Option Nat) : runToIfRunning n t = none ↔ t = none := by cases t <;> simp [runToIfRunning]
  obtain ⟨h1, h2, h3, h4, h5, h6, h7, h8, h9, h10, h11, h12⟩ := h
  have htravel : (tickAct r).travelTimer = none ↔ r.travelTimer = none := by
    unfold tickAct
    simp only
    split
    · exact Iff.rfl
    · exact hrun _ _
  exact ⟨h1, h2, h3, h4, fun h => h5 fun hn => h ((hrun _ _).mpr hn), fun hm hoff hn => h6 hm hoff ((hrun _ _).mp hn), h7,
    h8, h9.trans htravel.symm, h10.trans (hrun _ _).symm, fun h => h11 fun hn => h ((hrun _ _).mpr hn), h12⟩

/-- What soundness of the motion controller asks of a state. -/
def MotionIn (s : State) : Prop := Sounds s.motion.storage s ∧ (s.running = true → s.motion.storage = s.boot.storage)

theorem motionIn_iff (s : State) : MotionIn s ↔ MotionOk s := by
  refine and_congr_left fun _ => ?_
  constructor
  · rintro ⟨_, h⟩ a ha
    exact (actuatorOk_iff s a).mpr (h a ((mem_hostedActs _ a).mp ha))
  · intro h
    exact ⟨rfl, fun a ha => (actuatorOk_iff s a).mp (h a ((mem_hostedActs _ a).mpr ha))⟩

theorem MotionIn.actsIn {s : State} (h : MotionIn s) (hrun : s.running = true) : ActsIn s := by
  unfold ActsIn
  rw [← h.2 hrun]
  exact h.1

theorem ActsIn.motionIn {s : State} (h : ActsIn s) : MotionIn s :=
  ⟨⟨rfl, h.2⟩, fun _ => h.1⟩

theorem motionIn_ticked {s t : State} (h : BlocksTicked s t) (hs : MotionIn s) : MotionIn t := by
  have hact (a : Actuator) : act t.motion a = tickAct (act s.motion a) := by rw [h.motion, act_tickMotion]
  have hstorage : t.motion.storage = s.motion.storage := by rw [h.motion]; rfl
  have hvehicle : t.motion.vehicle = s.motion.vehicle := by rw [h.motion]; rfl
  refine ⟨⟨rfl, fun a ha => ?_⟩, fun hrun => ?_⟩
  · rw [h.params] at ha
    obtain ⟨⟨hrec, hload⟩, hfree⟩ := hs.1.2 a ha
    refine ⟨⟨?_, ?_⟩, ?_⟩
    · rw [hact, h.params]
      exact recSound_tickAct hrec
    · rw [hact, h.budget, tickBudget_loads]
      exact hload
    · unfold Freely
      rw [hact, hstorage, hvehicle, h.params]
      exact hfree
  · rw [hstorage, h.boot.2.2]
    exact hs.2 (h.running ▸ hrun)

theorem motionIn_same {s t : State} (h : BlocksSame s t) (hs : MotionIn s) : MotionIn t := by
  refine ⟨⟨rfl, fun a ha => ?_⟩, fun hrun => ?_⟩
  · rw [h.params] at ha
    obtain ⟨hstanding, hfree⟩ := hs.1.2 a ha
    exact ⟨hstanding.kept (by rw [h.motion]) h.params (loadKept_of_eq (by rw [h.budget])),
      hfree.kept (by rw [h.motion]) h.params (by rw [h.motion]) (by rw [h.motion])⟩
  · rw [h.motion, h.boot.2.2]
    exact hs.2 (h.running ▸ hrun)

theorem inductive_motionIn : Inductive MotionIn where
  pending s q h := ⟨⟨rfl, fun a ha => ⟨⟨(h.1.2 a ha).1.record, (h.1.2 a ha).1.load⟩, (h.1.2 a ha).2⟩⟩, h.2⟩
  round s u L hrun h hd := by
    have hu : ActsIn u := hd.actsIn (h.actsIn hrun)
    have hboot : (publish s u).boot = u.boot := boot_of_acts (acts_publish s u) (by decide)
    exact (actsIn_of_boot (sounds_publish hu) hboot).motionIn
  reply s payload hrun h :=
    (actsIn_of_boot ((acts_sendTelegram .reply payload s).sounds (h.actsIn hrun)) (sendTelegram_boot _ _ s)).motionIn
  reset s straps storage bank := ⟨⟨rfl, fun a ha => by cases a <;> cases ha⟩, nofun⟩
  waits s hrun h := ⟨⟨rfl, fun a ha => ⟨⟨(h.1.2 a ha).1.record, (h.1.2 a ha).1.load⟩, (h.1.2 a ha).2⟩⟩, nofun⟩
  starts s record passed inputs _ _ := (actsIn_startBlocks record passed inputs s).motionIn
  line s l _ h := ⟨⟨rfl, fun a ha => ⟨⟨(h.1.2 a ha).1.record, (h.1.2 a ha).1.load⟩, (h.1.2 a ha).2⟩⟩, h.2⟩
  clash s hrun h :=
    (actsIn_of_boot ((acts_raiseEvent .clash s).sounds (h.actsIn hrun)) (boot_of_acts (acts_raiseEvent .clash s) (by decide))).motionIn
  tick s h := by
    rcases tick_blocks s with hb | ⟨_, hb⟩
    · exact motionIn_same hb h
    · exact motionIn_ticked hb h

/-- Settles O10: by every operation with its publishing, the start, the resets and the passing of time. -/
theorem actuatorsStaySound : Obligations.ActuatorsStaySound := by
  intro s t hs hstep
  exact (motionIn_iff t).mp (inductive_motionIn.keptByEveryStep s t ((motionIn_iff s).mpr hs) hstep)

end Sys2Proof.Machine

/-! What a command that hands over a fact leaves; the end of the listen interval, and the events of the bank monitor
(R3 to R14, R20, R50, R189). -/

namespace Sys2Proof.Machine

-- As in the tests, so that no command needs threads of its own.
set_option Elab.async false

/-! ## Publishing after moves of the loads -/

theorem clipInt_eq {lo hi : Int} (h : lo ≤ hi) (n : Int) : clipInt lo hi n = max lo (min hi n) := by
  unfold clipInt
  split
  · omega
  · split <;> omega

/-- Without a change of the actuators the end of a command leaves at most a TANKS. -/
theorem publish_still {s t : State} (hp : t.params = s.params) (hm : t.motion = s.motion) :
    ∃ (l : Line) (w : Water), publish s t = (t.setWater w).setLine l ∧ waterFixed w = waterFixed t.water := by
  rw [publish_eq_tanksAfter hp hm]
  exact tanksAfter_eq s t

/-- Moves of the loads after a write of other blocks, published. -/
theorem publish_of_moved {s m t : State} (h : LoadSteps m t) (hp : m.params = s.params) (hm : m.motion = s.motion) :
    OnlyLoadsMoved m (publish s t) ∧ (publish s t).budget = t.budget ∧ (publish s t).event = t.event
    ∧ (publish s t).boot = t.boot := by
  obtain ⟨hbudget, hzones, hwater, hlights⟩ := h.frame.onlyLoadsMoved
  obtain ⟨l, w, he, hfixed⟩ := publish_still (h.frame.params.trans hp) (h.frame.motion.trans hm)
  rw [he]
  exact ⟨⟨hbudget, hzones, hfixed.trans hwater, hlights⟩, rfl, rfl, rfl⟩

theorem publish_bank (before s : State) : (publish before s).bank = s.bank := (acts_publish before s).bank (by decide)

/-! ## LISTEN_INTERVAL_END (R50, R189) -/

theorem loadSteps_openGate (s : State) :
    LoadSteps (s.setBudget { s.budget with gateOpen := true }) (openGate s) := loadSteps_settle _ _ _

/-- Settles O17, by whether the record has passed and the station is configured. -/
theorem listenIntervalEndOpensGate : Obligations.ListenIntervalEndOpensGate := by
  intro s hrun hstage htimer
  have hdue : (s.boot.stage == .listen && decide (Config.listenMs ≤ s.boot.listenTimer)) = true := by
    rw [hstage]
    exact decide_eq_true htimer
  have hboot : (publish s (enterRun s)).boot = { s.boot with stage := .run } := by
    rw [boot_of_acts (acts_publish s _) (by decide), enterRun]
    simp only
    split
    · rw [boot_of_acts (LoadEvent.acts (.gate _)) (by decide)]
      rfl
    · rfl
  refine ⟨publish s (enterRun s), effectWhen_of_due hrun hdue, hboot, fun ⟨hpassed, hstation⟩ => ?_, fun hnot => ?_⟩
  · have henter : enterRun s = openGate (s.setBoot { s.boot with stage := .run }) :=
      if_pos (by rw [hpassed]; exact bne_iff_ne.mpr hstation)
    have hsteps := loadSteps_openGate (s.setBoot { s.boot with stage := .run })
    rw [henter]
    obtain ⟨honly, hbudget, _⟩ := publish_of_moved (s := s) hsteps rfl rfl
    refine ⟨?_, honly⟩
    obtain ⟨_, _, _, _, _, _, _, _, hgate⟩ := hsteps.frame.basis
    rw [hbudget]
    exact hgate
  · have henter : enterRun s = s.setBoot { s.boot with stage := .run } :=
      if_neg (by rcases hnot with h | h <;> simp [h])
    rw [henter]
    exact publish_of_untracked rfl (fun a => by cases a <;> rfl) rfl

/-! ## BANK_SAMPLE (R3, R9 to R14, R20) -/

theorem exec_bankSample {s : State} {p : BankParams} (i : Int) (v : Nat) (hrun : s.running = true)
    (hp : s.params.bank = some p) (hdue : 250 ≤ s.bank.sampleTimer) :
    exec (.bankSample i v) s = .next (publish s (sampleBank p i v s)) := by
  have hhost : exec (.bankSample i v) s
      = onBankHost (decide (Config.sampleMs ≤ s.bank.sampleTimer)) (fun p => sampleBank p i v) s := rfl
  rw [hhost, onBankHost, hp]
  exact effectWhen_of_due hrun (decide_eq_true hdue)

theorem handOwnBank_ownBank (o : BatteryPart) (s : State) : (handOwnBank o s).budget.ownBank = some o := by
  obtain ⟨hown, _⟩ := (loadSteps_reevaluate s.budget (s.setBudget { s.budget with ownBank := some o })).frame.basis
  exact hown

theorem finishSample_ownBank (p : BankParams) (s : State) :
    (finishSample p s).budget.ownBank = some (ownRecord p (evalRest p s.bank)) := handOwnBank_ownBank _ _

/-- The monitor after a sample's charge step (R9, R10). -/
theorem applyCharge_eq {p : BankParams} {b : Bank} {cur : Int} {acc : Nat} (v : Nat)
    (hacc : (acc : Int) = max 0 (min (b.ceff : Int) (b.acc + (if 0 ≤ cur then cur * p.eta else cur * 256)))) :
    applyCharge p cur v b = { b with acc := acc, soc := acc * 1000 / b.ceff, current := cur, voltage := v } := by
  have hstep : stepAcc b.acc b.ceff p.eta cur = acc := by
    unfold stepAcc
    rw [clipInt_eq (Int.natCast_nonneg _)]
    exact (congrArg Int.toNat hacc.symm).trans (Int.toNat_natCast acc)
  unfold applyCharge withSoc
  rw [hstep]
  rfl

theorem evalRest_of_short {p : BankParams} {b : Bank} {quiet : Bool} {rest : Nat}
    (hquiet : quiet = decide (b.current.natAbs ≤ p.restThreshold)) (hrest : rest = (if quiet then b.restTimer + 250 else 0))
    (hshort : ¬ (quiet = true ∧ p.restTime * 1000 ≤ rest)) :
    resyncs p b = false ∧ evalRest p b = { b with quiet := quiet, restTimer := rest } := by
  subst hquiet
  subst hrest
  have hno : ¬ resyncs p b = true := fun h => by
    obtain ⟨hq, htime⟩ := Bool.and_eq_true_iff.mp h
    exact hshort ⟨hq, of_decide_eq_true htime⟩
  exact ⟨Bool.not_eq_true _ ▸ hno, if_neg hno⟩

theorem evalRest_of_reached {p : BankParams} {b : Bank} (hquiet : b.current.natAbs ≤ p.restThreshold)
    (htime : p.restTime * 1000 ≤ b.restTimer + 250) : resyncs p b = true ∧ evalRest p b = resynced p b := by
  have hq : isQuiet p b.current = true := decide_eq_true hquiet
  have hrest : restAfter p b = b.restTimer + 250 := if_pos hq
  have hyes : resyncs p b = true := by
    unfold resyncs
    rw [hq, hrest]
    exact decide_eq_true htime
  exact ⟨hyes, if_pos hyes⟩

theorem socAtRest_eq {p : BankParams} {v ocv : Nat} (h : (ocv : Int) = max 0 (min 1000 (lookup p.ocv v))) :
    socAtRest p v = ocv := by
  unfold socAtRest
  rw [clipInt_eq (by decide)]
  exact (congrArg Int.toNat h.symm).trans (Int.toNat_natCast ocv)

/-- Without a resync a sample is one handover of the own bank record. -/
theorem finishSample_of_short {p : BankParams} {s : State} (h : resyncs p s.bank = false) :
    finishSample p s = handOwnBank (ownRecord p (evalRest p s.bank)) (s.setBank (evalRest p s.bank)) := by
  unfold finishSample
  simp only
  rw [if_neg (by rw [h]; nofun)]

/-- A handover of the own bank moves, beside loads, only what is computed from it. -/
theorem publish_handOwnBank {s m : State} (o : BatteryPart) (hp : m.params = s.params) (hm : m.motion = s.motion)
    (hblocks : m.budget = s.budget ∧ m.zone = s.zone ∧ m.water = s.water ∧ m.light = s.light) :
    OnlyLoadsMoved { s with budget := { s.budget with
      ownBank := (publish s (handOwnBank o m)).budget.ownBank
      governing := (publish s (handOwnBank o m)).budget.governing
      budget := (publish s (handOwnBank o m)).budget.budget
      caps := (publish s (handOwnBank o m)).budget.caps } } (publish s (handOwnBank o m)) := by
  obtain ⟨hbudget, hzone, hwater, hlight⟩ := hblocks
  have hsteps := loadSteps_reevaluate m.budget (m.setBudget { m.budget with ownBank := some o })
  have hhand : handOwnBank o m = reevaluate m.budget (m.setBudget { m.budget with ownBank := some o }) := rfl
  rw [← hhand] at hsteps
  obtain ⟨⟨hfixed, hrated⟩, hzones, hwaters, hlights⟩ :=
    (publish_of_moved (s := s) hsteps (hp : _) (hm : _)).1
  generalize publish s (handOwnBank o m) = t at hfixed hrated hzones hwaters hlights
  refine ⟨⟨?_, fun i => (hrated i).trans ?_⟩, ?_, ?_, ?_⟩
  · simp only [budgetFixed, Prod.mk.injEq] at hfixed ⊢
    obtain ⟨⟨_, hpeers, hsupply, hknown, hsums⟩, _, _, _, hgate⟩ := hfixed
    refine ⟨⟨trivial, hpeers.trans ?_, hsupply.trans ?_, hknown.trans ?_, hsums.trans ?_⟩, trivial, trivial, trivial,
      hgate.trans ?_⟩
    all_goals
      rw [← hbudget]
      rfl
  · rw [← hbudget]
    rfl
  · unfold zonesSame at hzones ⊢
    rw [← hzone]
    exact hzones
  · unfold waterSame at hwaters ⊢
    rw [← hwater]
    exact hwaters
  · unfold lightsSame at hlights ⊢
    rw [← hlight]
    exact hlights

theorem sampleBank_eq (p : BankParams) (i : Int) (v : Nat) (s : State) : sampleBank p i v s
    = finishSample p (s.setBank (applyCharge p (clampCurrent i) (clampVoltage v) { s.bank with sampleTimer := 0 })) := rfl

theorem publish_sampleBank (p : BankParams) (i : Int) (v : Nat) (s : State) :
    (publish s (sampleBank p i v s)).budget = (sampleBank p i v s).budget := by
  have hacts := acts_sampleBank p i v s
  obtain ⟨l, w, he, _⟩ := publish_still hacts.params (hacts.motion (by decide) (by decide))
  rw [he]
  rfl

/-- A resync raises BANK-RESYNC (R14). -/
theorem finishSample_resync {p : BankParams} {s : State} (h : resyncs p s.bank = true) :
    inSet (finishSample p s).event.flags .bankResync = true := by
  unfold finishSample
  simp only
  rw [if_pos h]
  exact (LoadEvent.acts (.ownBank _ _)).flags (by decide) (inSet_raiseEvent _ _)

/-- Settles O19, by whether the sample brings the rest timer to the rest time. -/
theorem bankSampleCountsChargeAndResyncs : Obligations.BankSampleCountsChargeAndResyncs := by
  refine ⟨fun s p i v hrun hp hdue cur acc rest quiet hcur hacc hquiet hrest hshort => ?_,
    fun s p i v hrun hp hdue cur ocv hcur hquiet htime hocv => ?_⟩
  · have hclamp : clampCurrent i = cur := (clipInt_eq (by decide) i).trans hcur.symm
    have hsample := sampleBank_eq p i v s
    rw [hclamp] at hsample
    have hcharge := applyCharge_eq (p := p) (b := { s.bank with sampleTimer := 0 }) (clampVoltage v) hacc
    obtain ⟨hno, hrests⟩ := evalRest_of_short (p := p)
      (b := applyCharge p cur (clampVoltage v) { s.bank with sampleTimer := 0 }) hquiet hrest hshort
    generalize applyCharge p cur (clampVoltage v) { s.bank with sampleTimer := 0 } = b at *
    have hbank := finishSample_bank p (s.setBank b)
    have hown := finishSample_ownBank p (s.setBank b)
    have hleft : evalRest p b = { s.bank with
        acc := acc, soc := acc * 1000 / s.bank.ceff, current := cur, voltage := min v 65535
        quiet := quiet, restTimer := rest, sampleTimer := 0 } := hrests.trans (by rw [hcharge]; rfl)
    rw [State.setBank_bank, hleft] at hbank hown
    have hhand := finishSample_of_short (s := s.setBank b) hno
    refine ⟨_, exec_bankSample i v hrun hp hdue, ?_, ?_, ?_⟩
    · rw [publish_bank, hsample, hbank]
    · rw [publish_sampleBank, hsample, hown]
      rfl
    · rw [hsample, hhand]
      exact publish_handOwnBank _ rfl rfl ⟨rfl, rfl, rfl, rfl⟩
  · have hclamp : clampCurrent i = cur := (clipInt_eq (by decide) i).trans hcur.symm
    have hsample := sampleBank_eq p i v s
    rw [hclamp] at hsample
    obtain ⟨hyes, hrests⟩ := evalRest_of_reached (p := p)
      (b := applyCharge p cur (clampVoltage v) { s.bank with sampleTimer := 0 }) hquiet htime
    have hocv' : socAtRest p (applyCharge p cur (clampVoltage v) { s.bank with sampleTimer := 0 }).voltage = ocv :=
      socAtRest_eq hocv
    have hresynced : resynced p (applyCharge p cur (clampVoltage v) { s.bank with sampleTimer := 0 }) = { s.bank with
        acc := s.bank.ceff * ocv / 1000, soc := s.bank.ceff * ocv / 1000 * 1000 / s.bank.ceff
        current := cur, voltage := min v 65535, quiet := true, restTimer := 0, estimated := false, sampleTimer := 0 } := by
      unfold resynced
      rw [hocv']
      rfl
    rw [hresynced] at hrests
    generalize applyCharge p cur (clampVoltage v) { s.bank with sampleTimer := 0 } = b at *
    have hbank := finishSample_bank p (s.setBank b)
    have hown := finishSample_ownBank p (s.setBank b)
    have hflag := finishSample_resync (s := s.setBank b) hyes
    rw [State.setBank_bank, hrests] at hbank hown
    refine ⟨_, exec_bankSample i v hrun hp hdue, ?_, ?_, ?_⟩
    · rw [publish_bank, hsample, hbank]
    · rw [publish_event, hsample]
      exact hflag
    · rw [publish_sampleBank, publish_bank, hsample, hown, hbank]
      rfl

end Sys2Proof.Machine

/-! The derate evaluation and the two resets (R4 to R7, R17, R18, R186, R191). -/

namespace Sys2Proof.Machine

-- As in the tests, so that no command needs threads of its own.
set_option Elab.async false

/-! ## DERATE_EVALUATION (R4 to R7) -/

theorem exec_derateEvaluation {s : State} {p : BankParams} (reading : Adc) (hrun : s.running = true)
    (hp : s.params.bank = some p) (hdue : 10000 ≤ s.bank.derateTimer) :
    exec (.derateEvaluation reading) s = .next (publish s (evalDerate p reading s)) := by
  have hhost : exec (.derateEvaluation reading) s
      = onBankHost (decide (Config.derateMs ≤ s.bank.derateTimer)) (fun p => evalDerate p reading) s := rfl
  rw [hhost, onBankHost, hp]
  exact effectWhen_of_due hrun (decide_eq_true hdue)

theorem derateAt_eq {p : BankParams} {temp : Int} {d : Nat} (h : (d : Int) = max 1 (min 1024 (lookup p.derate temp))) :
    derateAt p temp = d := by
  unfold derateAt
  rw [clipInt_eq (by decide)]
  exact (congrArg Int.toNat h.symm).trans (Int.toNat_natCast d)

/-- Ceff is Cn times 360,000 times the factor over 1024, 1024 units to the count (R6). -/
theorem effectiveCapacity_eq (cn d : Nat) : effectiveCapacity cn d = cn * 360000 * d := by
  have hscale : cn * 368640000 * d = cn * 360000 * d * 1024 := by ring
  unfold effectiveCapacity
  rw [hscale, Nat.mul_div_cancel _ (by decide)]

/-- Settles O20, by whether the factor is the one in use. -/
theorem derateEvaluationFollowsTemperature : Obligations.DerateEvaluationFollowsTemperature := by
  intro s p reading hrun hp hdue temp d htemp hd
  have hevalTemp : evalTemp s.params.tempTable reading s.bank.temp = temp := htemp.symm
  have hfactor : derateAt p (evalTemp s.params.tempTable reading s.bank.temp) = d := by
    rw [hevalTemp]
    exact derateAt_eq hd
  have hexec := exec_derateEvaluation reading hrun hp hdue
  refine ⟨fun hsame => ?_, fun hne => ?_⟩
  · have heval : evalDerate p reading s = s.setBank { s.bank with temp := temp, derateTimer := 0 } := by
      unfold evalDerate
      simp only
      rw [hevalTemp, ← hevalTemp, hfactor, if_pos hsame]
    rw [hexec, heval]
    exact congrArg Host.Outcome.next (publish_of_untracked rfl (fun a => by cases a <;> rfl) rfl)
  · have hbank := evalDerate_bank p reading s
    rw [hfactor, if_neg hne, hevalTemp] at hbank
    have htaken : takeDerate p d { s.bank with temp := temp, derateTimer := 0 } = { s.bank with
        temp := temp, derateTimer := 0, derate := d, ceff := p.cn * 360000 * d
        acc := min s.bank.acc (p.cn * 360000 * d)
        soc := min s.bank.acc (p.cn * 360000 * d) * 1000 / (p.cn * 360000 * d) } := by
      unfold takeDerate
      simp only
      rw [effectiveCapacity_eq]
      rfl
    rw [htaken] at hbank
    refine ⟨_, hexec, (publish_bank s _).trans hbank, ?_⟩
    have hacts := acts_evalDerate p reading s
    obtain ⟨l, w, he, _⟩ := publish_still hacts.params (hacts.motion (by decide) (by decide))
    have hown : (evalDerate p reading s).budget.ownBank
        = some (ownRecord p (evalDerate p reading s).bank) := by
      have hhand : evalDerate p reading s
          = handOwnBank (ownRecord p (takeDerate p d { s.bank with temp := temp, derateTimer := 0 }))
            (s.setBank (takeDerate p d { s.bank with temp := temp, derateTimer := 0 })) := by
        unfold evalDerate
        simp only
        rw [hfactor, if_neg hne, hevalTemp]
      rw [hhand, handOwnBank_ownBank, handOwnBank_bank]
      rfl
    rw [publish_bank, he]
    exact hown

/-! ## Resets (R17, R18, R184, R191) -/

/-- Either reset is the reset state, but for the storage flag and what is kept of the bank monitor. -/
theorem exec_reset {c : Instr} {straps : Station} {s : State} (hc : c = .powerOnReset straps ∨ c = .resetPinReset straps) :
    ∃ (storage : Bool) (bank : Bank), exec c s = .next (keepModelFields s (State.afterReset straps storage bank))
      ∧ (c = .powerOnReset straps → storage = false ∧ bank.mark = none)
      ∧ (c = .resetPinReset straps → storage = s.boot.storage
        ∧ (s.running = true → bank.acc = s.bank.acc ∧ bank.estimated = s.bank.estimated
          ∧ bank.restTimer = s.bank.restTimer ∧ bank.mark = s.bank.mark)
        ∧ (s.running = false → bank.mark = none)) := by
  rcases hc with rfl | rfl
  · exact ⟨false, Bank.reset, rfl, fun _ => ⟨rfl, rfl⟩, nofun⟩
  · refine ⟨s.boot.storage, retainBank s.running s.bank, rfl, nofun, fun _ => ⟨rfl, fun hrun => ?_, fun hrun => ?_⟩⟩
    · rw [hrun]
      exact ⟨rfl, rfl, rfl, rfl⟩
    · rw [hrun]
      rfl

/-- Settles O11: the reset state's fields, one by one. -/
theorem eitherResetLeavesListedValues : Obligations.EitherResetLeavesListedValues := by
  intro c straps s hc
  obtain ⟨storage, bank, hexec, hpower, hpin⟩ := exec_reset (s := s) hc
  have hloads : ∀ i : Fin 17, Budget.reset.loads[i].state = .off ∧ Budget.reset.loads[i].claim = 0
      ∧ Budget.reset.loads[i].hold = none := by decide
  have hzones : ∀ n : Fin 4, ZoneCtl.reset.zones[n].setpoint = 200 ∧ ZoneCtl.reset.zones[n].temp = none
      ∧ ZoneCtl.reset.zones[n].faulted = false ∧ ZoneCtl.reset.zones[n].integral = 0
      ∧ ZoneCtl.reset.zones[n].duty = 0 ∧ ZoneCtl.reset.zones[n].load = .off
      ∧ ZoneCtl.reset.zones[n].output = false := by decide
  have hchannels : ∀ n : Fin 8, LightCtl.reset.channels[n].latch = false ∧ LightCtl.reset.channels[n].scene = false
      ∧ LightCtl.reset.channels[n].load = .off ∧ LightCtl.reset.channels[n].target = 0
      ∧ LightCtl.reset.channels[n].current = 0 ∧ LightCtl.reset.channels[n].duty = 0
      ∧ LightCtl.reset.channels[n].output = false := by decide
  have hacts (a : Actuator) : act Motion.reset a = ActRec.reset := by cases a <;> rfl
  have hstill (a : Actuator) : (act Motion.reset a).motor = .off ∧ (act Motion.reset a).latched = none
      ∧ (act Motion.reset a).travelTimer = none ∧ (act Motion.reset a).stallTimer = none
      ∧ (act Motion.reset a).overTimer = none ∧ (act Motion.reset a).pauseTimer = none
      ∧ (act Motion.reset a).hold = false ∧ (act Motion.reset a).releaseMark = false
      ∧ (act Motion.reset a).cause = none := by
    rw [hacts]
    exact ⟨rfl, rfl, rfl, rfl, rfl, rfl, rfl, rfl, rfl⟩
  have htanks : ∀ x ∈ [Water.reset.fresh, Water.reset.grey, Water.reset.black],
      x.raw = none ∧ x.filtered = none ∧ x.state = .normal := by decide
  refine ⟨_, hexec, rfl, rfl, rfl, hpower, hpin, rfl, rfl, rfl, rfl, rfl, rfl, rfl, rfl, rfl, rfl, rfl, rfl, rfl, rfl, rfl,
    rfl, rfl, rfl, rfl, rfl, hloads, ?_, ?_, hzones, rfl, htanks, rfl, rfl, rfl, rfl, rfl, rfl, rfl, rfl, rfl, rfl, rfl,
    rfl, rfl, rfl, rfl, rfl, hstill, rfl, rfl, rfl, rfl, rfl, rfl, hchannels, rfl, rfl, rfl, rfl, rfl, rfl, nofun, rfl, rfl,
    rfl, rfl, rfl, rfl, rfl, rfl, rfl⟩
  · exact (by decide : Budget.reset.loads[15].cls = .c0)
  · exact (by decide : Budget.reset.loads[16].cls = .c0)

end Sys2Proof.Machine

/-! What arrivals and removals leave of the peer table and of the facts its consumers hold (R25 to R37). -/

namespace Sys2Proof.Machine

-- As in the tests, so that no command needs threads of its own.
set_option Elab.async false

/-! ## The peer table under a chain of acts -/

theorem Acts.peers {L : List Effect} {s t : State} (h : Acts L s t) (hL : ∀ e ∈ L, Block.peers ∉ e.touched := by decide) :
    t.peers = s.peers := h.blockSame (b := .peers) hL

theorem publish_peers (before s : State) : (publish before s).peers = s.peers := (acts_publish before s).peers

theorem handMoving_peers (moving : Bool) (s : State) : (handMoving moving s).peers = s.peers := rfl

/-- The condition facts last handed on, once they have been handed on (R37). -/
def lastsSet (s : State) : Peers :=
  { s.peers with
    lastVehicle := vehicleState s.peers.entries, lastStepOut := peerStepOut s.peers.entries
    lastGreyFull := peerGreyFull s.peers.entries }

theorem handVehicleFact_peers (s : State) :
    (handVehicleFact s).peers = { s.peers with lastVehicle := vehicleState s.peers.entries } := by
  have hhand (v : VehicleState) : (handVehicle v (s.setPeers { s.peers with lastVehicle := v })).peers
      = { s.peers with lastVehicle := v } := (acts_handVehicle_after v _).peers
  unfold handVehicleFact
  simp only
  generalize vehicleState s.peers.entries = v
  split
  · next heq => rw [heq]
  · split
    · exact hhand v
    · exact (handMoving_peers _ _).trans (hhand v)

theorem handStepFact_peers (s : State) :
    (handStepFact s).peers = { s.peers with lastStepOut := peerStepOut s.peers.entries } := by
  unfold handStepFact
  simp only
  generalize peerStepOut s.peers.entries = f
  split
  · next heq => rw [heq]
  · unfold handPeerStepOut
    generalize hm : (s.setPeers { s.peers with lastStepOut := f }).setLight
      { (s.setPeers { s.peers with lastStepOut := f }).light with peerStepOut := f } = m
    rw [(acts_evalChannels m).peers, ← hm]
    rfl

theorem handGreyFact_peers (s : State) :
    (handGreyFact s).peers = { s.peers with lastGreyFull := peerGreyFull s.peers.entries } := by
  unfold handGreyFact
  simp only
  generalize peerGreyFull s.peers.entries = f
  split
  · next heq => rw [heq]
  · unfold handGreyFull
    generalize hm : (s.setPeers { s.peers with lastGreyFull := f }).setWater
      { (s.setPeers { s.peers with lastGreyFull := f }).water with peerGreyFull := f } = m
    rw [(acts_evalPump m).peers, ← hm]
    rfl

theorem handConditions_peers (s : State) : (handConditions s).peers = lastsSet s := by
  unfold handConditions
  rw [handGreyFact_peers, handStepFact_peers, handVehicleFact_peers]
  rfl

theorem handQuantityFacts_peers (s : State) : (handQuantityFacts s).peers = s.peers :=
  (LoadEvent.acts (.quantities _ _ _ _ s)).peers

theorem handOn_peers (s : State) : (handConditions (handQuantityFacts s)).peers = lastsSet s := by
  rw [handConditions_peers, lastsSet, handQuantityFacts_peers]
  rfl

/-- The budget unit holds the quantity facts of the entries once they have been handed on (R37). -/
theorem handOn_quantities (s : State) :
    quantityFacts (handConditions (handQuantityFacts s)).budget = quantitiesOf s.peers.entries :=
  ((acts_handConditions _).quantityFacts (by decide)).trans (handQuantities_facts _ _ _ _ s)

/-! ## Removals (R29) -/

/-- The table after a removal (R29), before the facts are handed on. -/
theorem dropped_peers_eq (e : PeerEntry) (s : State) : (dropped e s).peers = { s.peers with
    entries := dropPeer e.station s.peers.entries
    peersLost := if losesPeer e then countUp s.peers.peersLost else s.peers.peersLost } := by
  unfold dropped
  split
  · next h =>
    have hraise : (raiseEvent .peerLost (s.setPeers { s.peers with entries := dropPeer e.station s.peers.entries })).peers
        = { s.peers with entries := dropPeer e.station s.peers.entries } := (acts_raiseEvent .peerLost _).peers
    unfold countLost
    rw [State.setPeers_peers, hraise]
  · rfl

theorem removePeer_peers (e : PeerEntry) (s : State) : (removePeer e s).peers = lastsSet (dropped e s) := by
  rw [removePeer_eq, handOn_peers]

theorem removePeer_entries (e : PeerEntry) (s : State) :
    (removePeer e s).peers.entries = dropPeer e.station s.peers.entries := by
  rw [removePeer_peers, lastsSet, dropped_peers_eq]

theorem removePeer_peersLost (e : PeerEntry) (s : State) : (removePeer e s).peers.peersLost
    = if losesPeer e then countUp s.peers.peersLost else s.peers.peersLost := by
  rw [removePeer_peers, lastsSet, dropped_peers_eq]

theorem removePeer_flag {e : PeerEntry} (h : losesPeer e = true) (s : State) :
    inSet (removePeer e s).event.flags .peerLost = true := by
  have hdropped : inSet (dropped e s).event.flags .peerLost = true := by
    unfold dropped
    rw [if_pos h]
    exact inSet_raiseEvent _ _
  have hquantities : Acts [.quantities] (dropped e s) (handQuantityFacts (dropped e s)) :=
    LoadEvent.acts (.quantities _ _ _ _ _)
  rw [removePeer_eq]
  exact (acts_handConditions _).flags (by decide) (hquantities.flags (by decide) hdropped)

theorem losesPeer_iff (e : PeerEntry) :
    losesPeer e = true ↔ e.claim.isSome ∨ e.battery.isSome ∨ e.supply.isSome ∨ e.vehicle.isSome := by
  simp [losesPeer, or_assoc]

theorem losesPeer_of_none {e : PeerEntry} (h : e.claim = none ∧ e.battery = none ∧ e.supply = none ∧ e.vehicle = none) :
    losesPeer e = false := by
  obtain ⟨h1, h2, h3, h4⟩ := h
  simp [losesPeer, h1, h2, h3, h4]

/-! ## The facts as the statements write them -/

theorem supplySum_eq (l : List PeerEntry) : supplySum l = (l.map fun x => match x.supply with
    | none => 0
    | some p => (if p.shore then p.allowance else 0) + p.generation).sum := by
  unfold supplySum
  congr 1
  refine List.map_congr_left fun x _ => ?_
  cases x.supply <;> rfl

theorem perClass_claimSums (l : List PeerEntry) (c : LoadClass) : perClass (claimSums l) c
    = (l.map fun x => match x.claim with
      | none => 0
      | some p => perClass p c).sum := by
  have hclass : perClass (claimSums l) c = claimSum l c := by cases c <;> rfl
  rw [hclass]
  unfold claimSum
  congr 1
  refine List.map_congr_left fun x _ => ?_
  cases x.claim <;> rfl

/-- Settles O21, by what a removal leaves of the table and hands on. -/
theorem silentPeersAgeAndLeave : Obligations.SilentPeersAgeAndLeave := by
  refine ⟨fun s n hrun => ?_, fun s e hrun hfind hsilence => ?_⟩
  · have hentries : s.peers.entries.map (onPeer n staleIfSilent) = s.peers.entries.map fun e =>
        if e.station = n ∧ 3000 ≤ e.silence then { e with stale := true } else e := by
      refine List.map_congr_left fun e _ => ?_
      unfold onPeer staleIfSilent
      by_cases hn : e.station = n
      · by_cases hs : 3000 ≤ e.silence
        · rw [if_pos hn, if_pos (show Config.staleMs ≤ e.silence from hs), if_pos ⟨hn, hs⟩]
        · rw [if_pos hn, if_neg (show ¬ Config.staleMs ≤ e.silence from hs), if_neg fun h => hs h.2]
      · rw [if_neg hn, if_neg fun h => hn h.1]
    have hexec : exec (.peerStale n) s = .next (publish s (goStale n s)) := effectWhen_of_due hrun rfl
    rw [hexec, goStale_eq, hentries]
    exact congrArg Host.Outcome.next (publish_of_untracked rfl (fun a => by cases a <;> rfl) rfl)
  · have hexpire : expirePeer e.station s = removePeer e s := by
      unfold expirePeer
      rw [hfind]
      exact if_pos hsilence
    have hexec : exec (.peerRemoval e.station) s = .next (publish s (removePeer e s)) := by
      rw [← hexpire]
      exact effectWhen_of_due hrun rfl
    have hpeers := removePeer_peers e s
    have hentries := removePeer_entries e s
    have hlost := removePeer_peersLost e s
    have hquantities : quantityFacts (publish s (removePeer e s)).budget = quantitiesOf (removePeer e s).peers.entries := by
      rw [(acts_publish s (removePeer e s)).quantityFacts (by decide), removePeer_eq, handOn_quantities, handOn_peers]
      rfl
    have hdropped : (removePeer e s).peers.entries = (dropped e s).peers.entries := by rw [hpeers]; rfl
    simp only [quantityFacts, quantitiesOf, Prod.mk.injEq] at hquantities
    obtain ⟨hbanks, hsupply, hknown, hsums⟩ := hquantities
    refine ⟨publish s (removePeer e s), hexec, ?_, fun hloses => ⟨?_, ?_⟩, fun hnone => ?_, ?_, ?_, ?_, fun c => ?_, ?_, ?_,
      ?_, fun hview => ?_⟩
    · rw [publish_peers, hentries]
      rfl
    · rw [publish_event]
      exact removePeer_flag ((losesPeer_iff e).mpr hloses) s
    · rw [publish_peers, hlost, if_pos ((losesPeer_iff e).mpr hloses)]
      exact countUp_eq_min _
    · rw [publish_peers, hlost, if_neg (by rw [losesPeer_of_none hnone]; nofun)]
    · rw [hbanks, publish_peers]
      rfl
    · rw [hsupply, publish_peers]
      exact supplySum_eq _
    · rw [hknown, publish_peers]
      rfl
    · rw [hsums, publish_peers]
      exact perClass_claimSums _ c
    · rw [publish_peers, hdropped, hpeers]
      rfl
    · rw [publish_peers, hdropped, hpeers]
      rfl
    · rw [publish_peers, hdropped, hpeers]
      rfl
    · obtain ⟨hsound, _⟩ := (viewOk_iff s).mp hview
      obtain ⟨hafter, _⟩ := removePeer_entries_view hsound.copies e
      have hcopies := hafter.copies
      have hlasts := hafter.lasts
      rw [← (acts_publish s (removePeer e s)).viewCopies (by decide)] at hcopies
      simp only [conditionsOf, Prod.mk.injEq] at hlasts
      simp only [viewCopies, Prod.mk.injEq] at hcopies
      obtain ⟨hvehicle, hstep, hgrey⟩ := hlasts
      obtain ⟨hcvehicle, hcmoving, hcstep, hcgrey⟩ := hcopies
      rw [publish_peers]
      exact ⟨hcvehicle.trans hvehicle, hcmoving.trans (by rw [hvehicle]), hcstep.trans hstep, hcgrey.trans hgrey⟩

end Sys2Proof.Machine

/-! A valid frame at the peer table: its origin's entry, the room for a new one, and the handing on (R25 to R31, R169,
R170). -/

namespace Sys2Proof.Machine

-- As in the tests, so that no command needs threads of its own.
set_option Elab.async false

/-! ## Finding entries -/

theorem findPeer_cons (n : Station) (e : PeerEntry) (l : List PeerEntry) :
    findPeer n (e :: l) = if e.station = n then some e else findPeer n l := by
  unfold findPeer
  rw [List.find?_cons]
  by_cases h : e.station = n
  · rw [if_pos h, beq_iff_eq.mpr h]
  · rw [if_neg h, beq_false_of_ne h]

theorem findPeer_map_ne {n m : Station} {f : PeerEntry → PeerEntry} (hf : ∀ e, (f e).station = e.station) (hne : m ≠ n)
    (l : List PeerEntry) : findPeer m (mapPeer n f l) = findPeer m l := by
  induction l with
  | nil => rfl
  | cons e l ih =>
    have hstation : (if e.station = n then f e else e).station = e.station := by
      split
      · exact hf e
      · rfl
    have hcons : mapPeer n f (e :: l) = (if e.station = n then f e else e) :: mapPeer n f l := rfl
    rw [hcons, findPeer_cons, findPeer_cons, hstation, ih]
    by_cases hm : e.station = m
    · rw [if_pos hm, if_pos hm, if_neg fun hn => hne (hm.symm.trans hn)]
    · rw [if_neg hm, if_neg hm]

theorem findPeer_map_self {n : Station} {f : PeerEntry → PeerEntry} (hf : ∀ e, (f e).station = e.station)
    (l : List PeerEntry) : findPeer n (mapPeer n f l) = (findPeer n l).map f := by
  induction l with
  | nil => rfl
  | cons e l ih =>
    have hcons : mapPeer n f (e :: l) = (if e.station = n then f e else e) :: mapPeer n f l := rfl
    rw [hcons, findPeer_cons, findPeer_cons, ih]
    by_cases hn : e.station = n
    · rw [if_pos hn, if_pos ((hf e).trans hn), if_pos hn]
      rfl
    · rw [if_neg hn, if_neg hn, if_neg hn]

theorem findPeer_append (n : Station) (l m : List PeerEntry) : findPeer n (l ++ m) = (findPeer n l).or (findPeer n m) :=
  List.find?_append

theorem findPeer_insert_ne {n m : Station} (hne : m ≠ n) (l : List PeerEntry) :
    findPeer m (insertPeer (newPeer n) l) = findPeer m l := by
  obtain ⟨front, back, hl, hinsert⟩ := insertPeer_split (newPeer n) l
  have hnew : (newPeer n).station = n := rfl
  rw [hinsert, hl, findPeer_append, findPeer_append, findPeer_cons, hnew, if_neg fun h => hne h.symm]

theorem findPeer_insert_self {n : Station} {l : List PeerEntry} (h : findPeer n l = none) :
    findPeer n (insertPeer (newPeer n) l) = some (newPeer n) := by
  obtain ⟨front, back, hl, hinsert⟩ := insertPeer_split (newPeer n) l
  have hnew : (newPeer n).station = n := rfl
  rw [hl, findPeer_append, Option.or_eq_none_iff] at h
  rw [hinsert, findPeer_append, findPeer_cons, hnew, if_pos rfl, h.1, Option.none_or]

theorem findPeer_drop_ne {n m : Station} (hne : m ≠ n) (l : List PeerEntry) :
    findPeer m (dropPeer n l) = findPeer m l := by
  induction l with
  | nil => rfl
  | cons e l ih =>
    unfold dropPeer at ih ⊢
    rw [List.filter_cons]
    by_cases hn : e.station = n
    · rw [if_neg (by simp [hn]), ih, findPeer_cons, if_neg fun hm => hne (hm.symm.trans hn)]
    · rw [if_pos (by simp [hn]), findPeer_cons, findPeer_cons, ih]

theorem findPeer_drop_self (n : Station) (l : List PeerEntry) : findPeer n (dropPeer n l) = none :=
  findPeer_eq_none.mpr fun _ he => by simpa using (List.mem_filter.mp he).2

/-! ## The entry of an origin (R25, R26) -/

/-- The entries once the origin's own is there (R25). -/
def withOrigin (n : Station) (l : List PeerEntry) : List PeerEntry :=
  if (findPeer n l).isSome then l else insertPeer (newPeer n) l

theorem findPeer_withOrigin_self (n : Station) (l : List PeerEntry) :
    findPeer n (withOrigin n l) = some ((findPeer n l).getD (newPeer n)) := by
  unfold withOrigin
  cases h : findPeer n l with
  | some e => exact h
  | none => exact findPeer_insert_self h

theorem findPeer_withOrigin_ne {n m : Station} (hne : m ≠ n) (l : List PeerEntry) :
    findPeer m (withOrigin n l) = findPeer m l := by
  unfold withOrigin
  split
  · rfl
  · exact findPeer_insert_ne hne l

/-- With room for it an origin's entry is made, and nothing else changes (R25). -/
theorem withPeer_of_room {n : Station} {s : State}
    (h : s.peers.entries.length < 14 ∨ (findPeer n s.peers.entries).isSome = true) :
    withPeer n s = s.setPeers { s.peers with entries := withOrigin n s.peers.entries } := by
  unfold withOrigin
  cases hfind : findPeer n s.peers.entries with
  | some e => exact withPeer_of_known hfind
  | none =>
    have hroom : s.peers.entries.length < 14 := h.resolve_right (by rw [hfind]; nofun)
    have hmake : makeRoom s = s := if_pos hroom
    rw [withPeer_of_new hfind, hmake, if_pos hroom]
    rfl

/-- The table once an origin's entry has heard its telegram (R26). -/
def heard (n : Station) (k : Option Kind) (b : List Byte) (s : State) : State :=
  s.setPeers { s.peers with entries := mapPeer n (hearPeer k b) s.peers.entries }

theorem peerArrival_of_entry {n : Station} {k : Option Kind} {b : List Byte} {s : State} {e : PeerEntry}
    (h : findPeer n (withPeer n s).peers.entries = some e) :
    peerArrival n k b s = handAfterArrival k (heard n k b (withPeer n s)) := by
  unfold peerArrival
  simp only
  rw [h]
  rfl

theorem peerArrival_of_noEntry {n : Station} {k : Option Kind} {b : List Byte} {s : State}
    (h : findPeer n (withPeer n s).peers.entries = none) : peerArrival n k b s = withPeer n s := by
  unfold peerArrival
  simp only
  rw [h]

theorem handAfterArrival_entries (k : Option Kind) (s : State) :
    (handAfterArrival k s).peers.entries = s.peers.entries ∧ (handAfterArrival k s).peers.peersLost = s.peers.peersLost := by
  unfold handAfterArrival
  split
  · rw [handConditions_peers]
    split
    · rw [lastsSet, handQuantityFacts_peers]
      exact ⟨rfl, rfl⟩
    · exact ⟨rfl, rfl⟩
  · exact ⟨rfl, rfl⟩

theorem findPeer_heard_self {n : Station} {k : Option Kind} {b : List Byte} {s : State} {e : PeerEntry}
    (h : findPeer n s.peers.entries = some e) : findPeer n (heard n k b s).peers.entries = some (hearPeer k b e) := by
  unfold heard
  rw [State.setPeers_peers, findPeer_map_self (hearPeer_station k b), h]
  rfl

theorem findPeer_heard_ne {n m : Station} (hne : m ≠ n) (k : Option Kind) (b : List Byte) (s : State) :
    findPeer m (heard n k b s).peers.entries = findPeer m s.peers.entries :=
  findPeer_map_ne (hearPeer_station k b) hne _

/-! ## A receiver that ignores the line -/

/-- The line is BUSY and its receiver takes no frame. -/
def Deaf (l : Line) : Prop := l.idle = false ∧ l.receiver ≠ .receiving

theorem deaf_beginFrame {l : Line} (h : Deaf l) : Deaf (beginFrame l) := by
  unfold beginFrame
  rw [if_neg (by rw [h.1]; nofun)]
  exact h

theorem deaf_takeTelegram {l : Line} (h : Deaf l) (t : Telegram) : Deaf (takeTelegram l t) := by
  obtain ⟨q, n, hq⟩ := enqueue_rest { l with nextAge := l.nextAge + 1 } { telegram := t, age := l.nextAge, attempts := 0 }
  unfold takeTelegram
  rw [hq]
  exact h

theorem Handed.deaf {own : Station} {l m : Line} (h : Handed own l m) (hl : Deaf l) : Deaf m := by
  induction h with
  | refl => exact hl
  | send _ _ _ _ ih => exact deaf_beginFrame (deaf_takeTelegram ih _)

theorem LineHanded.deaf {s t : State} (h : LineHanded s t) (hs : Deaf s.line) : Deaf t.line := h.1.deaf hs

theorem Acts.deaf {L : List Effect} {s t : State} (h : Acts L s t) (hs : Deaf s.line) : Deaf t.line := by
  induction h with
  | refl => exact hs
  | event _ _ k ih => exact k.lineHanded.deaf ih
  | send k p _ _ ih => exact (lineHanded_sendTelegram k p _).deaf ih
  | raise _ _ ih => exact (loadSteps_raiseEvent _ _).lineHanded.deaf ih
  | write _ _ k ih => rw [k.line]; exact ih
  | clear page _ _ ih =>
    unfold clearPage
    split
    · exact ih
    · split <;> exact ih

/-! ## The entry as the statement writes it -/

theorem motionPart_eq (b : List Byte) : motionPart b = decide (2 ≤ (byteAt b 4).toNat) := by
  have hall : ∀ x : Byte, (x != 0#8 && x != 1#8) = decide (2 ≤ x.toNat) := by decide
  exact hall _

theorem tanksPart_eq (b : List Byte) : tanksPart b = decide ((byteAt b 3).toNat = 5) := by
  have hall : ∀ x : Byte, (x == 5#8) = decide (x.toNat = 5) := by decide
  exact hall _

/-- What an entry holds once it has heard a telegram (R26, R27). -/
theorem hearPeer_eq (k : Option Kind) (payload : List Byte) (before : PeerEntry) : hearPeer k payload before =
    { station := before.station, stale := false, silence := 0
      claim := if k = some .claim then some ⟨natAt16 payload 0, natAt16 payload 2, natAt16 payload 4, natAt16 payload 6⟩
        else before.claim
      battery := if k = some .battery then some { letter := if (byteAt payload 0).getLsbD 0 then .b else .a
                                                  soc := min (natAt16 payload 1) 1000, limit := natAt16 payload 9 }
        else before.battery
      supply := if k = some .supply then some { shore := (byteAt payload 0).getLsbD 0, allowance := natAt16 payload 1
                                                generation := natAt16 payload 3 }
        else before.supply
      vehicle := if k = some .vehicle then some { ignition := (byteAt payload 0).getLsbD 0
                                                  moving := (byteAt payload 0).getLsbD 1 }
        else before.vehicle
      motion := if k = some .motion then some (decide (2 ≤ (byteAt payload 4).toNat)) else before.motion
      tanks := if k = some .tanks then some (decide ((byteAt payload 3).toNat = 5)) else before.tanks } := by
  rw [← motionPart_eq, ← tanksPart_eq]
  cases k with
  | none => rfl
  | some k => cases k <;> rfl

theorem station_getD_findPeer (n : Station) (l : List PeerEntry) : ((findPeer n l).getD (newPeer n)).station = n := by
  cases h : findPeer n l with
  | none => rfl
  | some e => exact (mem_of_findPeer h).2

/-! ## A valid frame -/

theorem exec_frameReceived_valid {s : State} {h : Word} {payload : List Byte} (hrun : s.running = true)
    (hreceiver : s.line.receiver = .receiving) (hsender : s.line.sender = .idle) (hform : badForm h payload = false)
    (h0 : headerOrigin h ≠ 0#4) (hown : headerOrigin h ≠ s.boot.station) :
    exec (.frameReceived h payload (checkByte h payload)) s = .next (handTelegram h payload (frameEnded s)) := by
  have hvalid : checkFrame s.boot.station h payload (checkByte h payload) = .valid := by
    unfold checkFrame
    rw [if_neg (not_not_intro rfl), if_neg (by rw [hform]; nofun), if_neg h0, if_neg hown]
  rw [exec_frameReceived_of_receiving hrun hreceiver hsender]
  unfold receiveFrame
  simp only
  rw [hvalid]
  rfl

/-- What a valid frame leaves once its origin has been heard: the peer table, but for the counts of a DIAG-QUERY. -/
theorem handTelegram_entries (h : Word) (payload : List Byte) (s : State) : (handTelegram h payload s).peers.entries
    = (peerArrival (headerOrigin h) (kindOfCode (headerKind h)) payload s).peers.entries := by
  have hpublish := publish_peers s (peerArrival (headerOrigin h) (kindOfCode (headerKind h)) payload s)
  unfold handTelegram
  simp only
  generalize publish s (peerArrival (headerOrigin h) (kindOfCode (headerKind h)) payload s) = t at hpublish
  rw [← hpublish]
  split
  · exact congrArg Prod.fst ((acts_dispatchRequest _ _ t).peersCore (by decide))
  · rw [publish_peers, (acts_recallScene _ t).peers]
  · rw [publish_peers, (acts_takeStow _ t).peers]
  · rfl

theorem deaf_handTelegram {h : Word} {payload : List Byte} {s : State} (hs : Deaf s.line) :
    Deaf (handTelegram h payload s).line := (acts_handTelegram h payload s).deaf hs

/-- A frame that fills no part is heard, and nothing is handed on. -/
theorem publish_peerArrival_of_no_part {n : Station} {k : Option Kind} {b : List Byte} {s : State}
    (hroom : s.peers.entries.length < 14 ∨ (findPeer n s.peers.entries).isSome = true) (hk : fillsPart k = false) :
    publish s (peerArrival n k b s) = s.setPeers { s.peers with
      entries := mapPeer n (hearPeer k b) (withOrigin n s.peers.entries) } := by
  have hwith := withPeer_of_room hroom
  have hentry : findPeer n (withPeer n s).peers.entries = some ((findPeer n s.peers.entries).getD (newPeer n)) := by
    rw [hwith]
    exact findPeer_withOrigin_self n _
  have harrive : peerArrival n k b s = s.setPeers { s.peers with
      entries := mapPeer n (hearPeer k b) (withOrigin n s.peers.entries) } := by
    rw [peerArrival_of_entry hentry, hwith]
    exact if_neg (by rw [hk]; nofun)
  rw [harrive]
  exact publish_of_untracked rfl (fun a => by cases a <;> rfl) rfl

end Sys2Proof.Machine

/-! A full peer table (R31), and the statement about valid frames. -/

namespace Sys2Proof.Machine

-- As in the tests, so that no command needs threads of its own.
set_option Elab.async false

/-! ## The longest silent STALE entry (R31) -/

/-- One entry compared with the longest silent so far. -/
def longerSilent (best : Option PeerEntry) (e : PeerEntry) : Option PeerEntry :=
  match best with
  | none => some e
  | some b => if b.silence < e.silence then some e else some b

theorem longestStale_eq (l : List PeerEntry) : longestStale l = (l.filter PeerEntry.stale).foldl longerSilent none := rfl

theorem foldl_longerSilent_below {m : Nat} : ∀ (l : List PeerEntry) (best : Option PeerEntry),
    (∀ x ∈ l, x.silence < m) → (∀ b ∈ best, b.silence < m) → ∀ b ∈ l.foldl longerSilent best, b.silence < m
  | [], _, _, hbest => hbest
  | e :: l, best, hl, hbest => by
    refine foldl_longerSilent_below l _ (fun x hx => hl x (List.mem_cons_of_mem e hx)) fun b hb => ?_
    have he := hl e List.mem_cons_self
    cases best with
    | none => cases hb; exact he
    | some c =>
      unfold longerSilent at hb
      simp only at hb
      split at hb
      · cases hb; exact he
      · exact hbest b hb

theorem foldl_longerSilent_above {e : PeerEntry} : ∀ l : List PeerEntry, (∀ x ∈ l, x.silence ≤ e.silence) →
    l.foldl longerSilent (some e) = some e
  | [], _ => rfl
  | x :: l, hl => by
    have hx : longerSilent (some e) x = some e := if_neg (Nat.not_lt.mpr (hl x List.mem_cons_self))
    rw [List.foldl_cons, hx]
    exact foldl_longerSilent_above l fun y hy => hl y (List.mem_cons_of_mem x hy)

theorem longerSilent_of_below {best : Option PeerEntry} {e : PeerEntry} (h : ∀ b ∈ best, b.silence < e.silence) :
    longerSilent best e = some e := by
  cases best with
  | none => rfl
  | some b => exact if_pos (h b rfl)

theorem longestStale_of_isLongestStale {l : List PeerEntry} {e : PeerEntry}
    (hsorted : l.Pairwise (fun a b => a.station.toNat < b.station.toNat)) (h : IsLongestStale l e) :
    longestStale l = some e := by
  obtain ⟨hmem, hstale, hlongest⟩ := h
  have hin : e ∈ l.filter PeerEntry.stale := List.mem_filter.mpr ⟨hmem, hstale⟩
  have hall : ∀ x ∈ l.filter PeerEntry.stale, x.silence ≤ e.silence
      ∧ (x.silence = e.silence → e.station.toNat ≤ x.station.toNat) := fun x hx =>
    hlongest x (List.mem_of_mem_filter hx) (List.mem_filter.mp hx).2
  have hsorted' := hsorted.filter PeerEntry.stale
  rw [longestStale_eq]
  obtain ⟨front, back, hl⟩ := List.append_of_mem hin
  rw [hl] at hall hsorted' ⊢
  have hfront : ∀ x ∈ front, x.silence < e.silence := by
    intro x hx
    obtain ⟨hle, hstation⟩ := hall x (List.mem_append_left _ hx)
    have hbelow : x.station.toNat < e.station.toNat :=
      (List.pairwise_append.mp hsorted').2.2 x hx e List.mem_cons_self
    exact Nat.lt_of_le_of_ne hle fun heq => absurd (hstation heq) (Nat.not_le.mpr hbelow)
  have hback : ∀ x ∈ back, x.silence ≤ e.silence := fun x hx =>
    (hall x (List.mem_append_right _ (List.mem_cons_of_mem e hx))).1
  rw [List.foldl_append, List.foldl_cons,
    longerSilent_of_below (foldl_longerSilent_below front none hfront nofun)]
  exact foldl_longerSilent_above back hback

theorem longestStale_of_fresh {l : List PeerEntry} (h : ∀ e ∈ l, e.stale = false) : longestStale l = none := by
  have hnil : l.filter PeerEntry.stale = [] := List.filter_eq_nil_iff.mpr fun e he => by rw [h e he]; nofun
  rw [longestStale_eq, hnil]
  rfl

theorem length_dropPeer {l : List PeerEntry} {e : PeerEntry} (he : e ∈ l) : (dropPeer e.station l).length < l.length := by
  refine Nat.lt_of_le_of_ne (List.length_filter_le _ l) fun heq => ?_
  have hall := List.length_filter_eq_length_iff.mp heq e he
  simp at hall

/-! ## A displacement (R31) -/

theorem makeRoom_of_full {s : State} {e : PeerEntry} (hfull : ¬ s.peers.entries.length < 14)
    (h : longestStale s.peers.entries = some e) : makeRoom s = removePeer e s := by
  unfold makeRoom
  rw [if_neg hfull, h]

theorem makeRoom_of_fresh {s : State} (h : longestStale s.peers.entries = none) : makeRoom s = s := by
  unfold makeRoom
  split
  · rfl
  · rw [h]

/-- On an unconfigured station what follows the hearing of a frame leaves the peer table. -/
theorem handTelegram_peers {h : Word} {payload : List Byte} {s : State} (hstation : s.boot.station = 0#4) :
    (handTelegram h payload s).peers = (peerArrival (headerOrigin h) (kindOfCode (headerKind h)) payload s).peers := by
  have hpublish := publish_peers s (peerArrival (headerOrigin h) (kindOfCode (headerKind h)) payload s)
  have hst : (publish s (peerArrival (headerOrigin h) (kindOfCode (headerKind h)) payload s)).boot.station = 0#4 := by
    rw [(acts_publish _ _).station, (acts_peerArrival _ _ _ s).station, hstation]
  unfold handTelegram
  simp only
  generalize publish s (peerArrival (headerOrigin h) (kindOfCode (headerKind h)) payload s) = t at hpublish hst
  rw [← hpublish]
  split
  · have hignored : dispatchRequest (headerOrigin h) payload t = t := by
      unfold dispatchRequest
      refine if_neg fun hadd => ?_
      exact station_ne_zero_of_takesRequests (Bool.and_eq_true_iff.mp hadd).1 hst
    rw [hignored]
  · rw [publish_peers, (acts_recallScene _ t).peers]
  · rw [publish_peers, (acts_takeStow _ t).peers]
  · rfl

theorem handTelegram_flags {h : Word} {payload : List Byte} {s : State} {e : Event}
    (hstation : s.boot.station = 0#4)
    (he : inSet (peerArrival (headerOrigin h) (kindOfCode (headerKind h)) payload s).event.flags e = true) :
    inSet (handTelegram h payload s).event.flags e = true := by
  have hpublish := publish_event s (peerArrival (headerOrigin h) (kindOfCode (headerKind h)) payload s)
  have hst : (publish s (peerArrival (headerOrigin h) (kindOfCode (headerKind h)) payload s)).boot.station = 0#4 := by
    rw [(acts_publish _ _).station, (acts_peerArrival _ _ _ s).station, hstation]
  unfold handTelegram
  simp only
  generalize publish s (peerArrival (headerOrigin h) (kindOfCode (headerKind h)) payload s) = t at hpublish hst
  rw [← hpublish] at he
  split
  · have hignored : dispatchRequest (headerOrigin h) payload t = t := by
      unfold dispatchRequest
      refine if_neg fun hadd => ?_
      exact station_ne_zero_of_takesRequests (Bool.and_eq_true_iff.mp hadd).1 hst
    rw [hignored]
    exact he
  · rw [publish_event]
    exact (acts_recallScene _ t).flags (by decide) he
  · rw [publish_event]
    exact (acts_takeStow _ t).flags (by decide) he
  · exact he

theorem acts_heard (n : Station) (k : Option Kind) (b : List Byte) (r : State) (x : Peers) :
    Acts [.writes .peers] r (heard n k b (r.setPeers x)) :=
  (written_setPeers r x).acts.trans (written_setPeers (r.setPeers x) _).acts

/-- What a displacement leaves, the origin's entry made and heard (R31). -/
theorem peerArrival_displaces {n : Station} {k : Option Kind} {b : List Byte} {s : State} {e : PeerEntry}
    (hfull : s.peers.entries.length = 14) (hnew : findPeer n s.peers.entries = none) (he : e ∈ s.peers.entries)
    (hlongest : longestStale s.peers.entries = some e) :
    (peerArrival n k b s).peers.entries
        = mapPeer n (hearPeer k b) (withOrigin n (dropPeer e.station s.peers.entries))
    ∧ (peerArrival n k b s).peers.peersLost = (removePeer e s).peers.peersLost
    ∧ Acts peerEffects (removePeer e s) (peerArrival n k b s) := by
  have hentries := removePeer_entries e s
  have hlength := length_dropPeer he
  have hmake := makeRoom_of_full (s := s) (by rw [hfull]; decide) hlongest
  have hgone : findPeer n (dropPeer e.station s.peers.entries) = none :=
    findPeer_eq_none.mpr fun x hx => findPeer_eq_none.mp hnew x (List.mem_of_mem_filter hx)
  generalize removePeer e s = r at hentries hmake ⊢
  obtain ⟨x, hwith, hx, hlost⟩ : ∃ x, withPeer n s = r.setPeers x
      ∧ x.entries = withOrigin n (dropPeer e.station s.peers.entries) ∧ x.peersLost = r.peers.peersLost := by
    refine ⟨{ r.peers with entries := withOrigin n (dropPeer e.station s.peers.entries) }, ?_, rfl, rfl⟩
    rw [withPeer_of_new hnew, hmake, if_pos (by rw [hentries]; omega), hentries]
    unfold withOrigin
    rw [hgone]
    rfl
  have hfound : findPeer n x.entries = some (newPeer n) := by
    rw [hx]
    refine (findPeer_withOrigin_self n _).trans ?_
    rw [hgone]
    rfl
  have hentry : findPeer n (withPeer n s).peers.entries = some (newPeer n) := by
    rw [hwith]
    exact hfound
  rw [peerArrival_of_entry hentry, hwith, ← hx, ← hlost]
  obtain ⟨hkept, hcount⟩ := handAfterArrival_entries k (heard n k b (r.setPeers x))
  exact ⟨hkept, hcount, ((acts_heard n k b r x).mono (by decide)).trans ((acts_handAfterArrival k _).mono (by decide))⟩

theorem exec_requestOther (origin : Station) (payload : List Byte) (s : State) :
    exec (.requestOther origin payload) s = .next (dispatchRequest origin payload s) := rfl

theorem exec_scene (number : Byte) {s : State} (hrun : s.running = true) :
    exec (.scene number) s = .next (publish s (recallScene number s)) := effectWhen_of_due hrun rfl

theorem exec_stow (override : Bool) {s : State} (hrun : s.running = true) :
    exec (.stow override) s = .next (publish s (takeStow override s)) := effectWhen_of_due hrun rfl

/-- After the hearing of a frame that fills no part, a REQUEST, SCENE or STOW does what its own command does. -/
theorem handTelegram_hands {h : Word} {payload : List Byte} {k : Kind} {c : Instr} {s t : State} (hrun : t.running = true)
    (hk : kindOfCode (headerKind h) = some k)
    (hc : (k, c) ∈ [(Kind.request, Instr.requestOther (headerOrigin h) payload),
      (.scene, .scene (byteAt payload 0)), (.stow, .stow ((byteAt payload 0).getLsbD 0))])
    (ht : fillsPart (some k) = false → publish s (peerArrival (headerOrigin h) (some k) payload s) = t) :
    Host.Outcome.next (handTelegram h payload s) = exec c t := by
  simp only [List.mem_cons, List.not_mem_nil, or_false, Prod.mk.injEq] at hc
  unfold handTelegram
  simp only
  rw [hk]
  rcases hc with ⟨rfl, rfl⟩ | ⟨rfl, rfl⟩ | ⟨rfl, rfl⟩
  · rw [ht rfl, exec_requestOther]
  · rw [ht rfl, exec_scene _ hrun]
  · rw [ht rfl, exec_stow _ hrun]

/-- Settles O22, by the room the table has. -/
theorem validFrameIsHeardByThePeerTable : Obligations.ValidFrameIsHeardByThePeerTable := by
  refine ⟨fun s h payload hrun hidle hreceiver hsender hform h0 hown hroom before hbefore => ?_,
    fun s h payload k hrun hreceiver hsender hform h0 hown hroom hk => ?_,
    fun s h payload hrun hreceiver hsender hform h0 hstation hok hfull hnew => ?_⟩
  · have hwith := withPeer_of_room (n := headerOrigin h) (s := frameEnded s) hroom
    have hentry : findPeer (headerOrigin h) (withPeer (headerOrigin h) (frameEnded s)).peers.entries = some before := by
      rw [hwith, hbefore]
      exact findPeer_withOrigin_self _ _
    have hentries := handTelegram_entries h payload (frameEnded s)
    rw [peerArrival_of_entry hentry, (handAfterArrival_entries _ _).1] at hentries
    refine ⟨_, exec_frameReceived_valid hrun hreceiver hsender hform h0 hown,
      (deaf_handTelegram (s := frameEnded s) ⟨hidle, nofun⟩).2, fun n hn => ?_, ?_⟩
    · rw [hentries, findPeer_heard_ne hn, hwith]
      exact findPeer_withOrigin_ne hn _
    · have hstation : before.station = headerOrigin h := by
        rw [hbefore]
        exact station_getD_findPeer _ _
      rw [hentries, findPeer_heard_self hentry, hearPeer_eq, hstation]
  · refine ⟨mapPeer (headerOrigin h) (hearPeer (some k) payload) (withOrigin (headerOrigin h) s.peers.entries),
      fun n hn => ?_, ?_, fun c hc => ?_⟩
    · rw [findPeer_map_ne (hearPeer_station _ _) hn]
      exact findPeer_withOrigin_ne hn _
    · rw [findPeer_map_self (hearPeer_station _ _), findPeer_withOrigin_self]
      rfl
    · rw [exec_frameReceived_valid hrun hreceiver hsender hform h0 hown]
      exact handTelegram_hands (s := frameEnded s) hrun hk hc fun hfills =>
        publish_peerArrival_of_no_part (n := headerOrigin h) (k := some k) (b := payload) (s := frameEnded s) hroom hfills
  · have hown : headerOrigin h ≠ s.boot.station := by
      rw [hstation]
      exact h0
    have hpeers := handTelegram_peers (h := h) (payload := payload) (s := frameEnded s) hstation
    refine ⟨_, exec_frameReceived_valid hrun hreceiver hsender hform h0 hown, fun hfresh => ?_, fun e he => ?_⟩
    · have hmake : makeRoom (frameEnded s) = frameEnded s := makeRoom_of_fresh (longestStale_of_fresh hfresh)
      have hwith : withPeer (headerOrigin h) (frameEnded s) = frameEnded s := by
        have hnot : ¬ (frameEnded s).peers.entries.length < 14 := by
          have hlength : (frameEnded s).peers.entries.length = 14 := hfull
          rw [hlength]
          decide
        rw [withPeer_of_new (s := frameEnded s) hnew, hmake, if_neg hnot]
      rw [hpeers, peerArrival_of_noEntry (by rw [hwith]; exact hnew), hwith]
      rfl
    · obtain ⟨_, hsorted, _⟩ := hok
      have hlongest := longestStale_of_isLongestStale hsorted he
      obtain ⟨hentries, hcount, hacts⟩ := peerArrival_displaces (n := headerOrigin h)
        (k := kindOfCode (headerKind h)) (b := payload) (s := frameEnded s) hfull hnew he.1 hlongest
      have hne : e.station ≠ headerOrigin h := findPeer_eq_none.mp hnew e he.1
      have hlost := removePeer_peersLost e (frameEnded s)
      have hfound : findPeer (headerOrigin h) (withOrigin (headerOrigin h) (dropPeer e.station s.peers.entries))
          = some ((findPeer (headerOrigin h) (dropPeer e.station s.peers.entries)).getD (newPeer (headerOrigin h))) :=
        findPeer_withOrigin_self _ _
      refine ⟨?_, ⟨hearPeer (kindOfCode (headerKind h)) payload
        ((findPeer (headerOrigin h) (dropPeer e.station s.peers.entries)).getD (newPeer (headerOrigin h))), ?_, ?_, ?_⟩,
        fun n hn hn' => ?_, fun hloses => ⟨?_, ?_⟩, fun hnone => ?_⟩
      · rw [hpeers, hentries, findPeer_map_ne (hearPeer_station _ _) hne]
        exact (findPeer_withOrigin_ne hne _).trans (findPeer_drop_self _ _)
      · rw [hpeers, hentries, findPeer_map_self (hearPeer_station _ _)]
        exact congrArg (Option.map _) hfound
      · rw [hearPeer_eq]
      · rw [hearPeer_eq]
      · rw [hpeers, hentries, findPeer_map_ne (hearPeer_station _ _) hn']
        exact (findPeer_withOrigin_ne hn' _).trans (findPeer_drop_ne hn _)
      · exact handTelegram_flags (s := frameEnded s) hstation
          (hacts.flags (by decide) (removePeer_flag ((losesPeer_iff e).mpr hloses) _))
      · rw [hpeers, hcount, hlost, if_pos ((losesPeer_iff e).mpr hloses)]
        exact countUp_eq_min _
      · rw [hpeers, hcount, hlost, if_neg (by rw [losesPeer_of_none hnone]; nofun)]
        rfl

end Sys2Proof.Machine

/-! What a round over the light channels writes, fades and outputs, scenes and LIGHT-SET (R147 to R155). -/

namespace Sys2Proof.Machine

-- As in the tests, so that no command needs threads of its own.
set_option Elab.async false

/-! ## A round over the channels -/

/-- The channels of a list written, each by its own record. -/
def channelsWritten (g : Fin 8 → Channel → Channel) (l : List (Fin 8)) (s : State) : State :=
  s.setLight { s.light with
    channels := Vector.ofFn fun n => if n ∈ l then g n s.light.channels[n] else s.light.channels[n] }

theorem channelsWritten_cons {g : Fin 8 → Channel → Channel} {n : Fin 8} {l : List (Fin 8)} (h : n ∉ l) (s : State) :
    channelsWritten g l (putChannel n (g n s.light.channels[n]) s) = channelsWritten g (n :: l) s := by
  unfold channelsWritten
  refine congrArg (fun v => s.setLight { s.light with channels := v }) (Vector.ext fun m hm => ?_)
  rw [Vector.getElem_ofFn, Vector.getElem_ofFn]
  have hput := putChannel_channel n ⟨m, hm⟩ (g n s.light.channels[n]) s
  by_cases hmn : (⟨m, hm⟩ : Fin 8) = n
  · rw [if_neg (by rw [hmn]; exact h), if_pos (by rw [hmn]; exact List.mem_cons_self), hput, if_pos hmn.symm, hmn]
  · rw [hput, if_neg (Ne.symm hmn)]
    simp only [List.mem_cons, hmn, false_or]

/-- A step that writes one channel by the parameters and the PWM counter, done over a list of channels. -/
theorem foldl_channelsWritten {f : State → Fin 8 → State} {g : Fin 8 → Channel → Channel} {p : Params} {w : BitVec 8}
    (hf : ∀ (x : State) (n : Fin 8), x.params = p → x.light.pwm = w → f x n = putChannel n (g n x.light.channels[n]) x)
    {l : List (Fin 8)} (hl : l.Nodup) {s : State} (hp : s.params = p) (hw : s.light.pwm = w) :
    l.foldl f s = channelsWritten g l s := by
  induction l generalizing s with
  | nil =>
    refine congrArg (fun v => s.setLight { s.light with channels := v }) (Vector.ext fun m hm => ?_)
    rw [Vector.getElem_ofFn, if_neg nofun]
    rfl
  | cons n l ih =>
    obtain ⟨hn, hl⟩ := List.nodup_cons.mp hl
    rw [List.foldl_cons, hf s n hp hw]
    exact (ih hl (s := putChannel n (g n s.light.channels[n]) s) hp hw).trans (channelsWritten_cons hn s)

/-- The same over every channel. -/
theorem foldl_allChannels {f : State → Fin 8 → State} {g : Fin 8 → Channel → Channel} {p : Params} {w : BitVec 8}
    (hf : ∀ (x : State) (n : Fin 8), x.params = p → x.light.pwm = w → f x n = putChannel n (g n x.light.channels[n]) x)
    {s : State} (hp : s.params = p) (hw : s.light.pwm = w) :
    (List.finRange 8).foldl f s
      = s.setLight { s.light with channels := Vector.ofFn fun n => g n s.light.channels[n] } := by
  rw [foldl_channelsWritten hf (List.nodup_finRange 8) hp hw]
  unfold channelsWritten
  refine congrArg (fun v => s.setLight { s.light with channels := Vector.ofFn v }) (funext fun n => ?_)
  rw [if_pos (List.mem_finRange n)]

theorem putChannel_self (n : Fin 8) (s : State) : putChannel n s.light.channels[n] s = s := by
  unfold putChannel
  rw [show s.light.channels.set n s.light.channels[n] = s.light.channels from Vector.set_getElem_self ..]
  rfl

/-! ## Fades and outputs (R150 to R153) -/

theorem gammaDuty_eq (level : Nat) : gammaDuty level = (level ^ 2 + 255) / 256 := by
  unfold gammaDuty
  rw [Nat.shiftRight_eq_div_pow, pow_two]

theorem dutyOutput_eq (duty : Nat) (counter : BitVec 8) :
    dutyOutput duty counter = decide (duty = 255 ∨ counter.toNat < duty) := by
  unfold dutyOutput
  split <;> simp_all

/-- A channel whose level goes to another one, with the duty of the new level. -/
theorem faded_eq (c : Channel) (level : Nat) : (if level = c.current then c else withLevel c level)
    = { c with current := level, duty := if level = c.current then c.duty else (level ^ 2 + 255) / 256 } := by
  split
  · next h => rw [h]
  · unfold withLevel
    rw [gammaDuty_eq]

/-- A channel under a fade tick, by where its level stands to its target (R150, R152). -/
theorem fadeChannel_eq (p : ChannelParams) (c : Channel) : fadeChannel p c =
    if c.current < c.target then { c with
      current := min (c.current + p.fadeStep) c.target
      duty := if min (c.current + p.fadeStep) c.target = c.current then c.duty
        else (min (c.current + p.fadeStep) c.target ^ 2 + 255) / 256 }
    else if c.target < c.current then { c with
      current := max (c.current - p.fadeStep) c.target
      duty := if max (c.current - p.fadeStep) c.target = c.current then c.duty
        else (max (c.current - p.fadeStep) c.target ^ 2 + 255) / 256 }
    else c := by
  refine (faded_eq c _).trans ?_
  unfold fadeLevel
  split
  · rfl
  · split
    · rfl
    · rw [if_pos rfl]

/-- A channel of the part under a fade tick. -/
def channelFaded (p : Params) (n : Fin 8) (c : Channel) : Channel :=
  if p.channels[n].hosted then fadeChannel p.channels[n] c else c

/-- A channel of the part compared with the PWM counter. -/
def channelDriven (p : Params) (w : BitVec 8) (n : Fin 8) (c : Channel) : Channel :=
  { c with output := p.channels[n].hosted && dutyOutput c.duty w }

theorem fadeAll_eq (s : State) : fadeAll s = s.setLight { s.light with
    fadeTimer := 0, channels := Vector.ofFn fun n => channelFaded s.params n s.light.channels[n] } := by
  refine foldl_allChannels (p := s.params) (w := s.light.pwm) (fun x n hp _ => ?_) rfl rfl
  unfold fadeOne channelFaded
  simp only
  rw [hp]
  split
  · rfl
  · exact (putChannel_self n x).symm

theorem advancePwm_eq (s : State) : advancePwm s = s.setLight { s.light with
    pwm := s.light.pwm + 1#8
    channels := Vector.ofFn fun n => channelDriven s.params (s.light.pwm + 1#8) n s.light.channels[n] } := by
  refine foldl_allChannels (p := s.params) (w := s.light.pwm + 1#8) (fun x n hp hw => ?_) rfl rfl
  unfold driveChannel channelDriven
  simp only
  rw [hp, hw]

/-- Settles O51, from the record that a round over the channels leaves each of them. -/
theorem fadeAndPwmDriveTheChannels : Obligations.FadeAndPwmDriveTheChannels := by
  refine ⟨fun s hrun hdue => ?_, fun s hrun => ?_⟩
  · have hexec : exec .fadeTick s = .next (publish s (fadeAll s)) :=
      effectWhen_of_due hrun (decide_eq_true hdue)
    rw [hexec, (acts_fadeAll s).publish_eq, fadeAll_eq]
    refine congrArg (fun v => Host.Outcome.next (s.setLight { s.light with fadeTimer := 0, channels := Vector.ofFn v }))
      (funext fun n => ?_)
    unfold channelFaded
    rw [fadeChannel_eq]
    cases s.params.channels[n].hosted with
    | false => simp only [Bool.false_eq_true, false_and, if_false]
    | true => simp only [true_and, if_true]
  · have hexec : exec .pwmCounterAdvance s = .next (publish s (advancePwm s)) := effectWhen_of_due hrun rfl
    rw [hexec, (acts_advancePwm s).publish_eq, advancePwm_eq]
    refine congrArg (fun v => Host.Outcome.next (s.setLight { s.light with
      pwm := s.light.pwm + 1#8, channels := Vector.ofFn v })) (funext fun n => ?_)
    unfold channelDriven
    rw [dutyOutput_eq, Bool.decide_and, Bool.decide_eq_true]

end Sys2Proof.Machine

/-! What a chain of acts leaves of the zones, the water controller and the budget unit, in the words of the
statements; the evaluation of every channel; and SCENE (R147). -/

namespace Sys2Proof.Machine

-- As in the tests, so that no command needs threads of its own.
set_option Elab.async false

/-! ## What a chain of acts leaves -/

/-- What no event of the budget unit, telegram, flag, or write of other blocks changes, a chain of acts keeps. -/
theorem Acts.keeps {β : Type} (view : State → β) {L : List Effect} {s t : State} (h : Acts L s t)
    (hclear : .clearsCounters ∉ L)
    (hevent : ∀ (e : Effect) (x y : State), e ∈ L → LoadEvent e x y → view y = view x)
    (hsend : ∀ (k : Kind) (p : List Byte) (x : State), view (sendTelegram k p x) = view x)
    (hraise : ∀ (e : Event) (x : State), view (raiseEvent e x) = view x)
    (hwrite : ∀ (bs : List Block) (x y : State), (∀ b ∈ bs, .writes b ∈ L) → Written bs x y → view y = view x) :
    view t = view s := by
  induction h with
  | refl => rfl
  | event he _ k ih => exact (hevent _ _ _ he k).trans ih
  | send k p _ _ ih => exact (hsend k p _).trans ih
  | raise _ _ ih => exact (hraise _ _).trans ih
  | write he _ k ih => exact (hwrite _ _ _ he k).trans ih
  | clear page hmem _ _ => exact absurd hmem hclear

theorem LoadEvent.waterCore {e : Effect} {s t : State} (h : LoadEvent e s t) :
    Machine.waterCore t.water = Machine.waterCore s.water := by
  obtain ⟨m, ⟨b, rfl, _⟩, hsteps⟩ := h.rebased_steps
  exact hsteps.frame.water

/-- The water controller, but for what its loads decide, changes by its own writes only. -/
theorem Acts.waterCore {L : List Effect} {s t : State} (h : Acts L s t) (hL : .writes .water ∉ L)
    (hclear : .clearsCounters ∉ L := by decide) : Machine.waterCore t.water = Machine.waterCore s.water :=
  h.keeps (fun x => Machine.waterCore x.water) hclear (fun _ _ _ _ k => k.waterCore)
    (fun k p x => congrArg Machine.waterCore (sendTelegram_water k p x))
    (fun e x => (loadSteps_raiseEvent e x).frame.water)
    (fun _ _ _ hbs k => congrArg Machine.waterCore (k.frame .water fun hmem => hL (hbs _ hmem)))

theorem Acts.waterSame {L : List Effect} {s t : State} (h : Acts L s t) (hL : .writes .water ∉ L)
    (hclear : .clearsCounters ∉ L := by decide) : Machine.waterSame s t :=
  waterFixed_of_waterCore (h.waterCore hL hclear)

/-- The zones, but for what their loads decide. -/
def zoneView (s : State) : (Fin 4 → ZoneMode × Int × Option ZoneMode × Option Int × Bool × Int × Nat) × Nat × Nat × BitVec 8 :=
  (fun n => zoneFixed s.zone.zones[n], s.zone.periodTimer, s.zone.windowTimer, s.zone.window)

theorem zonesSame_iff (s t : State) : zonesSame s t ↔ zoneView t = zoneView s := by
  simp only [zonesSame, zoneView, Prod.mk.injEq, funext_iff]

theorem LoadEvent.zones {e : Effect} {s t : State} (h : LoadEvent e s t) : zonesSame s t := by
  obtain ⟨m, ⟨b, rfl, _⟩, hsteps⟩ := h.rebased_steps
  exact ⟨hsteps.frame.zones, hsteps.frame.zoneTimer⟩

/-- The zones, but for what their loads decide, change by their own writes only. -/
theorem Acts.zonesSame {L : List Effect} {s t : State} (h : Acts L s t) (hL : .writes .zone ∉ L)
    (hclear : .clearsCounters ∉ L := by decide) : Machine.zonesSame s t := by
  refine (zonesSame_iff s t).mpr (h.keeps zoneView hclear (fun _ x y _ k => (zonesSame_iff x y).mp k.zones) (fun k p x => ?_)
    (fun e x => (zonesSame_iff _ _).mp ?_) fun _ x y hbs k => ?_)
  · unfold zoneView
    rw [sendTelegram_zone]
  · have hframe := (loadSteps_raiseEvent e x).frame
    exact ⟨hframe.zones, hframe.zoneTimer⟩
  · have hzone : y.zone = x.zone := k.frame .zone fun hmem => hL (hbs _ hmem)
    unfold zoneView
    rw [hzone]

/-- An act may replace the budget unit's inputs or open its gate. -/
def rebases : Effect → Bool
  | .ownBank | .quantities | .opensGate => true
  | _ => false

theorem LoadEvent.budgetSame {e : Effect} {s t : State} (h : LoadEvent e s t) (he : rebases e = false) :
    Machine.budgetSame s t := by
  cases h with
  | ask i _ _ => exact (loadSteps_ask i s).frame.budgetSame
  | release i => exact (loadSteps_release i s).frame.budgetSame
  | askRetraction a => exact (loadSteps_askRetraction _ s).frame.budgetSame
  | askExtension a => exact (loadSteps_askExtension _ s).frame.budgetSame
  | ownBank | quantities | gate => cases he
  | dwell => exact (loadSteps_dwellExpires s).frame.budgetSame
  | hold i _ _ => exact (loadSteps_holdExpires i s).frame.budgetSame
  | claim => exact (loadSteps_queueClaim s).frame.budgetSame

/-- The budget unit, but for its load states, lists, totals and timers, changes by its handovers and its gate
only. -/
theorem Acts.budgetSame {L : List Effect} {s t : State} (h : Acts L s t)
    (hL : ∀ e ∈ L, rebases e = false := by decide) (hclear : .clearsCounters ∉ L := by decide) : Machine.budgetSame s t := by
  refine ⟨h.keeps (fun x => budgetFixed x.budget) hclear (fun e x y he k => (k.budgetSame (hL e he)).1)
    (fun k p x => congrArg budgetFixed (sendTelegram_budget k p x)) (fun e x => congrArg budgetFixed (raiseEvent_budget e x))
    (fun _ x y _ k => congrArg budgetFixed k.budget), fun i => ?_⟩
  refine h.keeps (fun x => x.budget.loads[i].rated) hclear (fun e x y he k => (k.budgetSame (hL e he)).2 i)
    (fun k p x => ?_) (fun e x => ?_) fun _ x y _ k => ?_
  · rw [sendTelegram_budget]
  · rw [raiseEvent_budget]
  · rw [k.budget]

/-! ## Every channel evaluated (R145) -/

/-- The on condition, and with it the evaluated channel, does not read what the loads decide. -/
theorem channelCore_channelEvaluated {s t : State} {n : Fin 8} (hp : t.params = s.params)
    (hc : channelCore t.light.channels[n] = channelCore s.light.channels[n]) (hown : t.light.ownStepOut = s.light.ownStepOut)
    (hpeer : t.light.peerStepOut = s.light.peerStepOut) (hforced : t.light.forcedOff = s.light.forcedOff) :
    channelCore (channelEvaluated t n) = channelCore (channelEvaluated s n) := by
  simp only [channelCore, Prod.mk.injEq] at hc
  obtain ⟨hlevel, hlatch, hscene, _, houtput⟩ := hc
  unfold channelEvaluated channelCore onCondition stepOutC
  simp only
  rw [hlevel, hlatch, hscene, houtput, hp, hown, hpeer, hforced]

/-- A channel of the part evaluated, if it is hosted. -/
def channelAfterEval (s : State) (n : Fin 8) : Channel :=
  if s.params.channels[n].hosted then channelEvaluated s n else s.light.channels[n]

theorem foldl_evalChannel_core {l : List (Fin 8)} (hl : l.Nodup) (n : Fin 8) (s : State) :
    channelCore (l.foldl evalChannel s).light.channels[n]
      = channelCore (if n ∈ l then channelAfterEval s n else s.light.channels[n]) := by
  induction l generalizing s with
  | nil => rw [if_neg nofun]; rfl
  | cons m l ih =>
    obtain ⟨hm, hl⟩ := List.nodup_cons.mp hl
    obtain ⟨hothers, hown, hpeer, hforced, hself⟩ := evalChannel_light (s := s) m
    have hparams := (acts_evalChannel_asks s m).params
    refine (ih hl (evalChannel s m)).trans ?_
    have hsame : s.params.channels[m].hosted = false → evalChannel s m = s := evalChannel_of_notHosted
    generalize evalChannel s m = t at hothers hown hpeer hforced hself hparams hsame
    by_cases hnm : n = m
    · subst hnm
      rw [if_neg hm, if_pos List.mem_cons_self]
      unfold channelAfterEval
      split
      · next hhosted => exact hself hhosted
      · next hhosted => rw [hsame (Bool.eq_false_iff.mpr hhosted)]
    · have hn := hothers n hnm
      simp only [List.mem_cons, hnm, false_or]
      split
      · unfold channelAfterEval
        rw [hparams]
        split
        · exact channelCore_channelEvaluated hparams hn hown hpeer hforced
        · exact hn
      · exact hn

theorem evalChannels_core (s : State) (n : Fin 8) :
    channelCore (evalChannels s).light.channels[n] = channelCore (channelAfterEval s n) := by
  have hn : n ∈ List.finRange 8 := List.mem_finRange n
  have hnodup : (List.finRange 8).Nodup := List.nodup_finRange 8
  unfold evalChannels
  generalize List.finRange 8 = l at hn hnodup ⊢
  exact (foldl_evalChannel_core hnodup n s).trans (congrArg channelCore (if_pos hn))

/-- What the evaluation of every channel leaves, published: each channel's own fields, its load, and the rest. -/
theorem publish_evalChannels {s r : State} (hp : r.params = s.params) (hm : r.motion = s.motion) (hmirror : Mirrored r)
    (hzones : zonesSame s r) (hwater : waterSame s r) (hbudget : budgetSame s r) :
    (∀ n : Fin 8, channelFixed (publish s (evalChannels r)).light.channels[n] = channelFixed (channelAfterEval r n))
    ∧ (∀ n : Fin 8, s.params.channels[n].hosted = true → ((publish s (evalChannels r)).budget.loads[n.val].state = .off
        ↔ (publish s (evalChannels r)).light.channels[n].on = false))
    ∧ zonesSame s (publish s (evalChannels r)) ∧ waterSame s (publish s (evalChannels r))
    ∧ budgetSame s (publish s (evalChannels r)) := by
  have hacts := acts_evalChannels r
  have hcore := evalChannels_core r
  have hoff : ∀ n : Fin 8, s.params.channels[n].hosted = true → LampOk (evalChannels r) n := fun n hn =>
    lampOk_foldl_evalChannel hmirror (by rw [hp]; exact hn) (.inl (List.mem_finRange n))
  have hz := hacts.zonesSame (by decide)
  have hw := hacts.waterSame (by decide)
  have hb := hacts.budgetSame
  have hparams := hacts.params.trans hp
  have hmotion := (hacts.motion (by decide) (by decide)).trans hm
  generalize evalChannels r = t at hcore hoff hz hw hb hparams hmotion ⊢
  obtain ⟨l, w, he, hfixed⟩ := publish_still hparams hmotion
  rw [he]
  refine ⟨hcore, fun n hn => (hoff n hn).2, ?_, hfixed.trans (hw.trans hwater), ?_⟩
  · exact (zonesSame_iff s t).mpr (((zonesSame_iff r t).mp hz).trans ((zonesSame_iff s r).mp hzones))
  · exact ⟨hb.1.trans hbudget.1, fun i => (hb.2 i).trans (hbudget.2 i)⟩

theorem mirrored_of_mirrorOk {s : State} (h : MirrorOk s) : Mirrored s := ⟨h.1, h.2.1, h.2.2.1, h.2.2.2.1⟩

theorem truthIndex_eq (own peer scene latch : Bool) : truthIndex (own || peer) scene latch
    = (if own = true ∨ peer = true then 4 else 0) + (if scene then 2 else 0) + (if latch then 1 else 0) := by
  cases own <;> cases peer <;> cases scene <;> cases latch <;> rfl

/-- The on condition of a channel while nothing forces it off (R145). -/
theorem onCondition_of_free (p : ChannelParams) {l : LightCtl} (h : l.forcedOff = false) (c : Channel) :
    onCondition p l c = p.truth.getLsbD ((if l.ownStepOut = true ∨ l.peerStepOut = true then 4 else 0)
      + (if c.scene then 2 else 0) + (if c.latch then 1 else 0)) := by
  unfold onCondition stepOutC
  rw [h, truthIndex_eq, Bool.not_false, Bool.true_and]

/-! ## SCENE (R147) -/

/-- A channel of the part under a recall. -/
def channelRecalled (p : Params) (k n : Fin 8) (c : Channel) : Channel :=
  if p.channels[n].hosted then recallChannel p.channels[n] p.scenes[k] n c else c

/-- The channels with their scene bits and set levels, before any is evaluated. -/
def recalled (k : Fin 8) (s : State) : State := s.setLight { s.light with
  channels := Vector.ofFn fun n => channelRecalled s.params k n s.light.channels[n] }

theorem recalled_channel (k n : Fin 8) (s : State) :
    (recalled k s).light.channels[n] = channelRecalled s.params k n s.light.channels[n] := Vector.getElem_ofFn n.isLt

theorem foldl_recallOne (k : Fin 8) (s : State) :
    (List.finRange 8).foldl (recallOne s.params.scenes[k]) s = recalled k s := by
  refine foldl_allChannels (p := s.params) (w := s.light.pwm) (fun x n hp _ => ?_) rfl rfl
  unfold recallOne channelRecalled
  simp only
  rw [hp]
  split
  · rfl
  · exact (putChannel_self n x).symm

theorem recallScene_eq {number : Byte} {k : Fin 8} {s : State} (hk : number.toNat = k.val) (hforced : s.light.forcedOff = false) :
    recallScene number s = evalChannels (recalled k s) := by
  have hlt : number.toNat < 8 := hk ▸ k.isLt
  have hscene : s.params.scenes[number.toNat] = s.params.scenes[k] := by
    simp only [hk]
    rfl
  unfold recallScene
  rw [dif_pos hlt, if_neg (by rw [hforced]; nofun), hscene, foldl_recallOne]

theorem recallScene_of_ignored {number : Byte} {s : State} (h : 8 ≤ number.toNat ∨ s.light.forcedOff = true) :
    recallScene number s = s := by
  unfold recallScene
  split
  · next hlt => exact if_pos (h.resolve_left (Nat.not_le.mpr hlt))
  · rfl

/-- Settles O49, by the channels recalled and then all evaluated. -/
theorem sceneRecallsBitsAndLevels : Obligations.SceneRecallsBitsAndLevels := by
  intro s number hrun
  refine ⟨fun hignored => ?_, fun k hk hforced _ hmirror => ?_⟩
  · rw [exec_scene number hrun, recallScene_of_ignored hignored, publish_self]
  · have hacts : Acts [.writes .light] s (recalled k s) := by
      rw [← foldl_recallOne]
      exact .foldl _ (acts_recallOne _) _ _
    obtain ⟨hcore, hoff, hzones, hwater, hbudget⟩ := publish_evalChannels (s := s) (r := recalled k s) rfl rfl
      (hacts.mirrored (mirrored_of_mirrorOk hmirror)) (hacts.zonesSame (by decide)) (hacts.waterSame (by decide)) hacts.budgetSame
    rw [exec_scene number hrun, recallScene_eq hk hforced]
    refine ⟨_, rfl, fun n hn => ?_, hzones, hwater, hbudget, fun n member hn hmember => ?_⟩
    · refine (hcore n).trans ?_
      unfold channelAfterEval
      rw [if_neg (by exact hn), recalled_channel, channelRecalled, if_neg hn]
    · have hfields := hcore n
      have hfree : (recalled k s).light.forcedOff = false := hforced
      unfold channelAfterEval channelEvaluated at hfields
      rw [if_pos (by exact hn), onCondition_of_free _ hfree, recalled_channel, channelRecalled, if_pos hn] at hfields
      simp only [channelFixed, Prod.mk.injEq] at hfields
      obtain ⟨hlevel, hlatch, hscene, hon, _⟩ := hfields
      subst hmember
      refine ⟨hscene, hlatch, hlevel.trans ?_, hon, hoff n hn⟩
      simp only [recallChannel, retarget, Bool.and_eq_true, bne_iff_ne]

end Sys2Proof.Machine

/-! LIGHT-SET (R154, R155), and the target of a channel under moves of its load (R148). -/

namespace Sys2Proof.Machine

-- As in the tests, so that no command needs threads of its own.
set_option Elab.async false

/-! ## The target of one channel (R148) -/

/-- A channel's target follows its load and its set level. -/
def Aimed (n : Fin 8) (s : State) : Prop := s.light.channels[n].target
  = targetLevel s.params.channels[n] s.light.channels[n].load s.light.channels[n].setLevel

theorem aimed_of_eq {n : Fin 8} {s t : State} (h : Aimed n s) (hl : t.light = s.light) (hp : t.params = s.params) : Aimed n t := by
  unfold Aimed
  rw [hl, hp]
  exact h

theorem channelHanded_aimed (p : ChannelParams) (ld : LoadState) (c : Channel) : (channelHanded p ld c).target
    = targetLevel p (channelHanded p ld c).load (channelHanded p ld c).setLevel := by
  unfold channelHanded
  simp only
  split <;> rfl

theorem aimed_handLoad {n : Fin 8} (i : Fin 17) (ld : LoadState) {s : State} (h : Aimed n s) : Aimed n (handLoad i ld s) := by
  unfold Aimed
  rw [handLoad_channel, (LoadFrame.handLoad i ld s).params]
  split
  · exact channelHanded_aimed _ _ _
  · exact h

theorem LoadSteps.aimed {n : Fin 8} {s t : State} (h : LoadSteps s t) (hs : Aimed n s) : Aimed n t := by
  induction h with
  | refl => exact hs
  | send t k p _ ih => exact aimed_of_eq ih (sendTelegram_light _ _ _) (LoadFrame.sendTelegram k p t).params
  | flag t w _ ih => exact aimed_of_eq ih rfl rfl
  | load t i r _ _ _ ih =>
    exact aimed_handLoad _ _ (aimed_of_eq ih (State.setBudget_light _ _) (State.setBudget_params _ _))
  | cls t i c _ ih => exact aimed_of_eq ih rfl rfl
  | book t b _ _ _ _ ih => exact aimed_of_eq ih rfl rfl

/-! ## LIGHT-SET decided (R154) -/

theorem decideLightSet_of_large {channel code : Byte} (h : 8 ≤ channel.toNat ∨ 2 ≤ code.toNat) (level : Byte) (s : State) :
    decideLightSet channel code level s = (s, .bare .badRequest) := by
  unfold decideLightSet
  split
  · next hlt => rw [flagOfByte_of_large (h.resolve_left (Nat.not_le.mpr hlt))]
  · rfl

theorem flagOfByte_eq {x : Byte} (h : x.toNat < 2) : flagOfByte x = some (x == 1#8) := by
  rcases flagOfByte_of_small h with rfl | rfl <;> rfl

/-- The channel with its latch and level taken, and evaluated (R155). -/
def lightSetOn (n : Fin 8) (on : Bool) (level : Byte) (s : State) : State :=
  evalChannel (putChannel n (lightTaken s.params.channels[n] on level s.light.channels[n]) s) n

/-- The on condition of a channel of the part with this latch, while nothing forces it off (R145). -/
def onWith (n : Fin 8) (on : Bool) (s : State) : Bool :=
  s.params.channels[n].truth.getLsbD ((if s.light.ownStepOut = true ∨ s.light.peerStepOut = true then 4 else 0)
    + (if s.light.channels[n].scene then 2 else 0) + (if on then 1 else 0))

/-- A channel as a LIGHT-SET leaves it, before its load moves (R155). -/
def lightSetChannel (n : Fin 8) (on : Bool) (level : Byte) (s : State) : Channel :=
  { lightTaken s.params.channels[n] on level s.light.channels[n] with on := onWith n on s }

theorem putChannel_putChannel (n : Fin 8) (c d : Channel) (s : State) : putChannel n c (putChannel n d s) = putChannel n c s := by
  unfold putChannel
  simp only [State.setLight_light, State.setLight_setLight]
  rw [show (s.light.channels.set n d).set n c = s.light.channels.set n c from Vector.set_set ..]

/-- The evaluation of a channel just written, for a written channel of the same inputs. -/
theorem channelEvaluated_lightTaken {n : Fin 8} {s : State} (hforced : s.light.forcedOff = false) (on : Bool) (level : Byte) :
    channelEvaluated (putChannel n (lightTaken s.params.channels[n] on level s.light.channels[n]) s) n
      = lightSetChannel n on level s := by
  unfold channelEvaluated lightSetChannel
  rw [putChannel_channel_self, onCondition_of_free _ (by exact hforced)]
  rfl

/-- But for moves of loads a LIGHT-SET writes its channel. -/
theorem loadSteps_lightSetOn {n : Fin 8} {s : State} (hhosted : s.params.channels[n].hosted = true)
    (hforced : s.light.forcedOff = false) (on : Bool) (level : Byte) :
    LoadSteps (putChannel n (lightSetChannel n on level s) s) (lightSetOn n on level s) := by
  have h := loadSteps_evalChannel (n := n)
    (s := putChannel n (lightTaken s.params.channels[n] on level s.light.channels[n]) s) hhosted
  rw [channelEvaluated_lightTaken hforced, putChannel_putChannel] at h
  exact h

theorem lightSetOn_off_iff {n : Fin 8} {s : State} (hhosted : s.params.channels[n].hosted = true)
    (hforced : s.light.forcedOff = false) (hmirror : Mirrored s) (on : Bool) (level : Byte) :
    (lightSetOn n on level s).budget.loads[lightLoad n].state = .off ↔ onWith n on s = false := by
  have h := evalChannel_off_iff (n := n)
    (s := putChannel n (lightTaken s.params.channels[n] on level s.light.channels[n]) s) hhosted (by
      rw [putChannel_channel_self]
      exact hmirror.1 n)
  rw [channelEvaluated_lightTaken hforced] at h
  exact h

theorem aimed_lightSetOn {n : Fin 8} {s : State} (hhosted : s.params.channels[n].hosted = true)
    (hforced : s.light.forcedOff = false) (on : Bool) (level : Byte) : Aimed n (lightSetOn n on level s) := by
  refine (loadSteps_lightSetOn hhosted hforced on level).aimed ?_
  unfold Aimed
  rw [putChannel_channel_self]
  rfl

theorem mirrored_lightSetOn {n : Fin 8} {s : State} (hhosted : s.params.channels[n].hosted = true)
    (hforced : s.light.forcedOff = false) (hmirror : Mirrored s) (on : Bool) (level : Byte) :
    Mirrored (lightSetOn n on level s) := by
  refine (loadSteps_lightSetOn hhosted hforced on level).mirrored (Written.mirrored (written_putChannel n _ s rfl ?_) hmirror)
  exact fun ⟨_, hduty, hceiling⟩ => channelFits_retarget hduty hceiling

/-- The answer to a LIGHT-SET from the channel it left (R154, R155). -/
def lightAnswer (c : Channel) : Answer := { outcome := lightOutcome c.load, data := lightData c }

/-- LIGHT-SET of a channel of the table with a bit for its latch. -/
theorem decideLightSet_of_channel {channel code : Byte} {n : Fin 8} (hn : channel.toNat = n.val) (hcode : code.toNat < 2)
    (level : Byte) (s : State) : decideLightSet channel code level s =
      if !s.params.channels[n].hosted then (s, .bare .notHosted)
      else if s.light.forcedOff then (s, .bare .storage)
      else (lightSetOn n (code == 1#8) level s, lightAnswer (lightSetOn n (code == 1#8) level s).light.channels[n]) := by
  have hlt : channel.toNat < 8 := hn ▸ n.isLt
  obtain rfl : n = ⟨channel.toNat, hlt⟩ := Fin.ext hn.symm
  unfold decideLightSet
  rw [dif_pos hlt, flagOfByte_eq hcode]
  rfl

/-- What a LIGHT-SET answers by the load state, with the target that goes with it (R148, R154). -/
theorem lightAnswer_mem (p : ChannelParams) (ld : LoadState) (new : Nat) :
    (ld, loadCode ld, targetLevel p ld new, lightOutcome ld) ∈
      [(LoadState.off, 0#8, 0, ReplyOutcome.done), (.waiting, 1#8, 0, .pending), (.admitted, 2#8, new, .done),
       (.reduced .level, 3#8, min new p.ceiling, .done), (.reduced .budget, 4#8, min new p.ceiling, .done),
       (.shed .level, 5#8, 0, .pending), (.shed .budget, 6#8, 0, .pending)] := by
  rcases ld with _ | _ | _ | (_ | _) | (_ | _) <;>
    simp [loadCode, targetLevel, lightOutcome]

/-- Settles O50, in the order of the rule. -/
theorem lightSetAnswersWithTheChannel : Obligations.LightSetAnswersWithTheChannel := by
  intro s rq channel code level htakes
  have hexec : ∀ c, exec (.lightSet rq c code level) s = .next (takeRequest rq (decideLightSet c code level) s) := fun _ => rfl
  refine ⟨fun hbad => ?_, fun n hn hcode => ⟨fun hnone => ?_, fun hhosted hforced => ?_,
    fun hhosted hforced _ hmirror on new hnew hon => ?_⟩⟩
  · rw [hexec, takeRequest_refused htakes (decideLightSet_of_large hbad level s)]
  · have hdec : decideLightSet channel code level s = (s, .bare .notHosted) := by
      rw [decideLightSet_of_channel hn hcode, if_pos (by rw [hnone]; rfl)]
    rw [hexec, takeRequest_refused htakes hdec]
  · have hdec : decideLightSet channel code level s = (s, .bare .storage) := by
      rw [decideLightSet_of_channel hn hcode, if_neg (by rw [hhosted]; nofun), if_pos hforced]
    rw [hexec, takeRequest_refused htakes hdec]
  · have hcodeNat : (if (code == 1#8) = true then 1 else 0) = code.toNat := by
      rcases flagOfByte_of_small hcode with rfl | rfl <;> rfl
    have honWith : onWith n (code == 1#8) s = on := by rw [hon, onWith, hcodeNat]
    have hdec : decideLightSet channel code level s = (lightSetOn n (code == 1#8) level s,
        lightAnswer (lightSetOn n (code == 1#8) level s).light.channels[n]) := by
      rw [decideLightSet_of_channel hn hcode, if_neg (by rw [hhosted]; nofun), if_neg (by rw [hforced]; nofun)]
    have hacts := acts_decideLightSet channel code level s
    rw [hdec] at hacts
    have hmirrored := mirrored_of_mirrorOk hmirror
    have hframe := (loadSteps_lightSetOn hhosted hforced (code == 1#8) level).frame
    have hoff := lightSetOn_off_iff hhosted hforced hmirrored (code == 1#8) level
    have haimed := aimed_lightSetOn hhosted hforced (code == 1#8) level
    have hload := (mirrored_lightSetOn hhosted hforced hmirrored (code == 1#8) level).1 n
    obtain ⟨l, hl⟩ := takeRequest_published (rq := rq) htakes hdec
    have hreplied := takeRequest_replied (rq := rq) htakes hdec hacts (by decide)
    generalize lightSetOn n (code == 1#8) level s = t at hdec hacts hframe hoff haimed hload hl hreplied
    obtain ⟨l', w, he, hfixed⟩ := publish_still (s := s) hframe.params hframe.motion
    rw [hl, he] at hreplied
    have hchannel := hframe.channelFixed_written
    have hlevel : t.light.channels[n].setLevel = new := by
      simp only [channelFixed, Prod.mk.injEq] at hchannel
      exact hchannel.1.trans hnew.symm
    have hparams : t.params = s.params := hframe.params
    rw [hexec, hl, he]
    refine ⟨_, rfl, hchannel.trans ?_, ?_, hframe.otherChannelsSame, ⟨hframe.zones, hframe.zoneTimer⟩,
      hfixed.trans (waterFixed_of_waterCore hframe.water), hframe.budgetSame, loadCode t.light.channels[n].load,
      t.light.channels[n].target, lightOutcome t.light.channels[n].load, ?_, rfl, ?_⟩
    · rw [lightSetChannel, honWith, hnew]
      rfl
    · rw [← honWith]
      exact hoff
    · have hmem := lightAnswer_mem s.params.channels[n] t.light.channels[n].load new
      unfold Aimed at haimed
      rw [haimed, hparams, hlevel]
      have hstate : ((t.setWater w).setLine l').budget.loads[n.val].state = t.light.channels[n].load := hload.symm
      exact hstate ▸ hmem
    · rw [← hlevel]
      exact hreplied

end Sys2Proof.Machine

/-! The zones under an evaluation (R71 to R75): what the evaluation of one zone leaves of its own record and of the
others. -/

namespace Sys2Proof.Machine

-- As in the tests, so that no command needs threads of its own.
set_option Elab.async false

/-! ## A record that others' asks leave -/

/-- A record's state stands, or a pass has admitted it out of the retry list (R56). -/
def Advanced (i : Fin 17) (s t : State) : Prop :=
  t.budget.loads[i].state = s.budget.loads[i].state
  ∨ waitsInList s.budget.loads[i].state = true ∧ t.budget.loads[i].state = .admitted

theorem advanced_of_loads {i : Fin 17} {s t : State} (h : t.budget.loads = s.budget.loads) : Advanced i s t :=
  .inl (by rw [h])

theorem Advanced.trans {i : Fin 17} {s t u : State} (h : Advanced i s t) (k : Advanced i t u) : Advanced i s u := by
  rcases h with h | ⟨hw, h⟩
  · unfold Advanced at k ⊢
    rw [← h]
    exact k
  · rcases k with k | ⟨kw, _⟩
    · exact .inr ⟨hw, k.trans h⟩
    · rw [h] at kw
      cases kw

theorem Advanced.off_iff {i : Fin 17} {s t : State} (h : Advanced i s t) :
    t.budget.loads[i].state = .off ↔ s.budget.loads[i].state = .off := by
  rcases h with h | ⟨hw, h⟩
  · rw [h]
  · refine iff_of_false (by rw [h]; nofun) fun hoff => ?_
    rw [hoff] at hw
    cases hw

theorem advanced_settle (before : PerClass Nat) (pass : Bool) (s : State) (i : Fin 17) :
    Advanced i s (settle before pass s) := by
  rcases settle_record before pass s i with h | ⟨_, hw, hl, _⟩
  · exact .inl (by rw [h.1])
  · exact .inr ⟨hw, by rw [hl]; rfl⟩

theorem advanced_place {i j : Fin 17} (h : j ≠ i) {s t : State} {r : LoadRecord} {R A : List (Fin 17)}
    (ht : t.budget = place s.budget j r R A) : Advanced i s t := .inl (by rw [ht, place_loads_ne _ h])

theorem advanced_wait {i j : Fin 17} (h : j ≠ i) (s : State) : Advanced i s (wait j s) := by
  have hset : Advanced i s (setWaiting j s) := advanced_place h (setWaiting_budget j s)
  exact hset.trans (advanced_of_loads (joinRetry_loads j _))

theorem advanced_ask {i j : Fin 17} (h : j ≠ i) (s : State) : Advanced i s (ask j s) := by
  unfold ask
  simp only
  split
  · exact .inl rfl
  · split
    · exact (advanced_place h (admitLoad_budget j s)).trans (advanced_settle _ _ _ i)
    · split
      · split
        · exact (advanced_place h (reduceLevel_budget j s)).trans (advanced_settle _ _ _ i)
        · exact (advanced_place h (shedLoad_budget j .level s)).trans (advanced_settle _ _ _ i)
      · exact (advanced_wait h s).trans (advanced_settle _ _ _ i)

theorem advanced_release {i j : Fin 17} (h : j ≠ i) (s : State) : Advanced i s (release j s) := by
  unfold release
  split
  · exact .inl rfl
  · exact (advanced_place h (turnOff_budget j s)).trans (advanced_settle _ _ _ i)

/-! ## A zone written, and its heater -/

theorem putZone_zone (n m : Fin 4) (z : Zone) (s : State) :
    (putZone n z s).zone.zones[m] = if n = m then driveHeater s.zone.window z else s.zone.zones[m] :=
  vector_get_set _ n m _

theorem putZone_zone_self (n : Fin 4) (z : Zone) (s : State) :
    (putZone n z s).zone.zones[n] = driveHeater s.zone.window z := by
  rw [putZone_zone, if_pos rfl]

theorem zoneLoad_injective {n m : Fin 4} (h : zoneLoad n = zoneLoad m) : n = m :=
  Fin.ext (by simpa [zoneLoad] using h)

theorem loadSteps_demandHeat (n : Fin 4) (s : State) : LoadSteps s (demandHeat n s) := by
  unfold demandHeat
  simp only
  split
  · exact loadSteps_ask _ _
  · split
    · exact loadSteps_release _ _
    · exact .refl

theorem advanced_demandHeat {n m : Fin 4} (h : m ≠ n) (s : State) : Advanced (zoneLoad n) s (demandHeat m s) := by
  have hne : zoneLoad m ≠ zoneLoad n := fun h' => h (zoneLoad_injective h')
  unfold demandHeat
  simp only
  split
  · exact advanced_ask hne s
  · split
    · exact advanced_release hne s
    · exact .inl rfl

/-- A heater's load is OFF exactly at duty 0 (R75). -/
theorem demandHeat_off_iff {n : Fin 4} {s : State} (h : s.zone.zones[n].load = s.budget.loads[zoneLoad n].state) :
    (demandHeat n s).budget.loads[zoneLoad n].state = .off ↔ s.zone.zones[n].duty = 0 := by
  unfold demandHeat
  simp only
  rw [h]
  split
  · next hask => exact iff_of_false (ask_state_ne_off _ _) hask.1
  · next hask =>
    split
    · next hrelease => exact iff_of_true (release_state _ _) hrelease.1
    · next hrelease =>
      refine ⟨fun hoff => ?_, fun hduty => ?_⟩
      · by_contra hduty
        exact hask ⟨hduty, hoff⟩
      · by_contra hoff
        exact hrelease ⟨hduty, hoff⟩

/-! ## One zone, and the others -/

/-- A zone's own fields stand, and others' asks have at most admitted its load. -/
structure ZoneKept (n : Fin 4) (s t : State) : Prop where
  fixed : zoneFixed t.zone.zones[n] = zoneFixed s.zone.zones[n]
  load : Advanced (zoneLoad n) s t

theorem ZoneKept.refl (n : Fin 4) (s : State) : ZoneKept n s s := ⟨rfl, .inl rfl⟩

theorem ZoneKept.trans {n : Fin 4} {s t u : State} (h : ZoneKept n s t) (k : ZoneKept n t u) : ZoneKept n s u :=
  ⟨k.fixed.trans h.fixed, h.load.trans k.load⟩

theorem zoneKept_putZone {n m : Fin 4} (h : m ≠ n) (z : Zone) (s : State) : ZoneKept n s (putZone m z s) :=
  ⟨by rw [putZone_zone, if_neg h], .inl rfl⟩

theorem zoneKept_demandHeat {n m : Fin 4} (h : m ≠ n) (s : State) : ZoneKept n s (demandHeat m s) :=
  ⟨(loadSteps_demandHeat m s).frame.zones n, advanced_demandHeat h s⟩

theorem raiseEvent_zone (e : Event) (s : State) : (raiseEvent e s).zone = s.zone :=
  raiseEvent_blockSame e s (b := .zone) (by decide)

theorem zoneKept_raiseEvent (n : Fin 4) (e : Event) (s : State) : ZoneKept n s (raiseEvent e s) :=
  ⟨by rw [raiseEvent_zone], advanced_of_loads (by rw [raiseEvent_budget])⟩

theorem zoneKept_foldl {n : Fin 4} {f : State → Fin 4 → State} (hf : ∀ (s : State) (m : Fin 4), m ≠ n → ZoneKept n s (f s m))
    {l : List (Fin 4)} (hl : n ∉ l) (s : State) : ZoneKept n s (l.foldl f s) := by
  induction l generalizing s with
  | nil => exact .refl n s
  | cons m l ih =>
    obtain ⟨hne, hl⟩ := not_or.mp (mt List.mem_cons.mpr hl)
    exact (hf s m (Ne.symm hne)).trans (ih hl _)

/-- A round over the zones, seen from one of them: before it, its own turn, and after it. -/
theorem foldl_zones {L : List Effect} {f : State → Fin 4 → State} {n : Fin 4} (hacts : ∀ s m, Acts L s (f s m))
    (hf : ∀ (s : State) (m : Fin 4), m ≠ n → ZoneKept n s (f s m)) (s : State) :
    ∃ x : State, Acts L s x ∧ ZoneKept n s x ∧ Acts L (f x n) ((List.finRange 4).foldl f s)
      ∧ ZoneKept n (f x n) ((List.finRange 4).foldl f s) := by
  obtain ⟨before, after, hl⟩ := List.append_of_mem (List.mem_finRange n)
  have hnodup := List.nodup_finRange 4
  rw [hl] at hnodup ⊢
  obtain ⟨_, hafter, hdisjoint⟩ := List.nodup_append.mp hnodup
  have hbefore : n ∉ before := fun hmem => hdisjoint n hmem n List.mem_cons_self rfl
  rw [List.foldl_append, List.foldl_cons]
  exact ⟨before.foldl f s, .foldl f hacts _ _, zoneKept_foldl hf hbefore s, .foldl f hacts _ _,
    zoneKept_foldl hf (List.nodup_cons.mp hafter).1 _⟩

/-! ## A zone evaluated (R71 to R75) -/

/-- A zone by its reading, before its load moves (R72, R74). -/
def zoneEvaluated (p : Params) (n : Fin 4) (reading : Adc) (z : Zone) : Zone :=
  match convertTemp p.tempTable reading with
  | none => { z with duty := 0, faulted := true }
  | some t => controlZone p.zones[n] t { z with temp := some t, faulted := false }

theorem zoneEvaluated_load (p : Params) (n : Fin 4) (reading : Adc) (z : Zone) : (zoneEvaluated p n reading z).load = z.load := by
  unfold zoneEvaluated
  split
  · rfl
  · exact controlZone_load _ _ _

/-- The evaluation of a hosted zone writes its record, moves loads, and may raise ZONE-SENSOR-FAULT. -/
theorem evalZone_eq {s : State} {n : Fin 4} (h : s.params.zones[n].hosted = true) (readings : Vector Adc 4) :
    ∃ m : State, m = demandHeat n (putZone n (zoneEvaluated s.params n readings[n] s.zone.zones[n]) s)
      ∧ (evalZone readings s n = m ∨ evalZone readings s n = raiseEvent .zoneSensorFault m) := by
  refine ⟨_, rfl, ?_⟩
  unfold evalZone zoneEvaluated
  rw [if_pos h]
  cases convertTemp s.params.tempTable readings[n] with
  | none =>
    unfold faultZone
    simp only
    split
    · exact .inl rfl
    · exact .inr rfl
  | some t => exact .inl rfl

theorem evalZone_of_notHosted {s : State} {n : Fin 4} (h : s.params.zones[n].hosted = false) (readings : Vector Adc 4) :
    evalZone readings s n = s := if_neg (by rw [h]; nofun)

theorem zoneKept_evalZone (readings : Vector Adc 4) {n m : Fin 4} (s : State) (hne : m ≠ n) :
    ZoneKept n s (evalZone readings s m) := by
  cases h : s.params.zones[m].hosted with
  | false => rw [evalZone_of_notHosted h]; exact .refl n s
  | true =>
    obtain ⟨t, ht, he⟩ := evalZone_eq h readings
    have hkept : ZoneKept n s t := ht ▸ (zoneKept_putZone hne _ s).trans (zoneKept_demandHeat hne _)
    rcases he with he | he <;> rw [he]
    · exact hkept
    · exact hkept.trans (zoneKept_raiseEvent n _ t)

/-- A hosted zone after its own evaluation: its record, and its load OFF exactly at duty 0. -/
theorem evalZone_self {s : State} {n : Fin 4} (h : s.params.zones[n].hosted = true) (readings : Vector Adc 4)
    (hload : s.zone.zones[n].load = s.budget.loads[zoneLoad n].state) :
    zoneFixed (evalZone readings s n).zone.zones[n] = zoneFixed (zoneEvaluated s.params n readings[n] s.zone.zones[n])
    ∧ ((evalZone readings s n).budget.loads[zoneLoad n].state = .off
        ↔ (zoneEvaluated s.params n readings[n] s.zone.zones[n]).duty = 0) := by
  obtain ⟨t, ht, he⟩ := evalZone_eq h readings
  have hz := zoneEvaluated_load s.params n readings[n] s.zone.zones[n]
  generalize zoneEvaluated s.params n readings[n] s.zone.zones[n] = z at ht hz ⊢
  have hput := putZone_zone_self n z s
  have hfixed : zoneFixed t.zone.zones[n] = zoneFixed z := by
    rw [ht]
    exact ((loadSteps_demandHeat n _).frame.zones n).trans (by rw [hput]; rfl)
  have hoff : t.budget.loads[zoneLoad n].state = .off ↔ z.duty = 0 := by
    rw [ht]
    refine (demandHeat_off_iff ?_).trans (by rw [hput]; rfl)
    rw [hput]
    exact hz.trans hload
  rcases he with he | he <;> rw [he]
  · exact ⟨hfixed, hoff⟩
  · rw [raiseEvent_zone, raiseEvent_budget]
    exact ⟨hfixed, hoff⟩

/-- The first faulted reading of a zone raises ZONE-SENSOR-FAULT (R72). -/
theorem evalZone_flag {s : State} {n : Fin 4} (h : s.params.zones[n].hosted = true) {readings : Vector Adc 4}
    (hreading : convertTemp s.params.tempTable readings[n] = none) (hfirst : s.zone.zones[n].faulted = false) :
    inSet (evalZone readings s n).event.flags .zoneSensorFault = true := by
  unfold evalZone
  rw [if_pos h, hreading]
  unfold faultZone
  simp only
  rw [if_neg (by rw [hfirst]; nofun)]
  exact inSet_raiseEvent _ _

end Sys2Proof.Machine

/-! ZONE_EVALUATION and HEATER_WINDOW_STEP (R71 to R77, R84). -/

namespace Sys2Proof.Machine

-- As in the tests, so that no command needs threads of its own.
set_option Elab.async false

/-! ## The round of an evaluation, seen from one zone -/

/-- The zones as an evaluation leaves them, before the CLIMATE (R71). -/
def zonesEvaluated (readings : Vector Adc 4) (s : State) : State :=
  (List.finRange 4).foldl (evalZone readings) (s.setZone { s.zone with periodTimer := 0 })

theorem evalZones_eq (readings : Vector Adc 4) (s : State) : evalZones readings s = formClimate (zonesEvaluated readings s) := rfl

theorem acts_zonesEvaluated (readings : Vector Adc 4) (s : State) :
    Acts (.raises .zoneSensorFault :: zoneEffects) s (zonesEvaluated readings s) :=
  (written_setZone s { s.zone with periodTimer := 0 }).acts.append (.foldl _ (acts_evalZone readings) _ _)

/-- The zone z is s's own zone as the evaluation finds it: its fields, and its load, which a pass before its turn may
have admitted. -/
def FoundAs (s : State) (n : Fin 4) (z : Zone) : Prop :=
  zoneFixed z = zoneFixed s.zone.zones[n]
  ∧ (z.load = s.zone.zones[n].load ∨ waitsInList s.zone.zones[n].load = true ∧ z.load = .admitted)

/-- What an evaluation leaves of a hosted zone. -/
theorem zonesEvaluated_zone {s : State} {n : Fin 4} (hn : s.params.zones[n].hosted = true) (hm : Mirrored s)
    (readings : Vector Adc 4) : ∃ z : Zone, FoundAs s n z
      ∧ zoneFixed (zonesEvaluated readings s).zone.zones[n] = zoneFixed (zoneEvaluated s.params n readings[n] z)
      ∧ ((zonesEvaluated readings s).budget.loads[zoneLoad n].state = .off
          ↔ (zoneEvaluated s.params n readings[n] z).duty = 0)
      ∧ (convertTemp s.params.tempTable readings[n] = none → s.zone.zones[n].faulted = false →
          inSet (zonesEvaluated readings s).event.flags .zoneSensorFault = true) := by
  have hwrite : Acts (.raises .zoneSensorFault :: zoneEffects) s (s.setZone { s.zone with periodTimer := 0 }) :=
    (written_setZone s { s.zone with periodTimer := 0 }).acts.mono (by decide)
  obtain ⟨x, hx, hbefore, hrest, hafter⟩ := foldl_zones (acts_evalZone readings)
    (fun s m hne => zoneKept_evalZone readings (n := n) s hne) (s.setZone { s.zone with periodTimer := 0 })
  have hsx := hwrite.trans hx
  have hxm := hsx.mirrored hm
  have hload : x.zone.zones[n].load = x.budget.loads[zoneLoad n].state := hxm.2.1 n
  have hhosted : x.params.zones[n].hosted = true := by rw [hsx.params]; exact hn
  obtain ⟨hfixed, hoff⟩ := evalZone_self hhosted readings hload
  have hflag := evalZone_flag (readings := readings) hhosted
  rw [hsx.params] at hfixed hoff hflag
  unfold zonesEvaluated
  generalize (List.finRange 4).foldl (evalZone readings) (s.setZone { s.zone with periodTimer := 0 }) = u at hrest hafter ⊢
  have hbeforeFixed : zoneFixed x.zone.zones[n] = zoneFixed s.zone.zones[n] := hbefore.fixed
  refine ⟨x.zone.zones[n], ⟨hbeforeFixed, ?_⟩, hafter.fixed.trans hfixed, hafter.load.off_iff.trans hoff, fun hnone hfirst => ?_⟩
  · have hsm : s.zone.zones[n].load = s.budget.loads[zoneLoad n].state := hm.2.1 n
    rw [hload, hsm]
    exact hbefore.load
  · refine hrest.flags (by decide) (hflag hnone ?_)
    have hfaulted := hbeforeFixed
    simp only [zoneFixed, Prod.mk.injEq] at hfaulted
    obtain ⟨_, _, _, _, hfaulted, _⟩ := hfaulted
    exact hfaulted.trans hfirst

/-- The timers and the counter of the zones. -/
def zoneTimes (s : State) : Nat × Nat × BitVec 8 := (s.zone.periodTimer, s.zone.windowTimer, s.zone.window)

theorem zoneTimes_evalZone (readings : Vector Adc 4) (s : State) (n : Fin 4) :
    zoneTimes (evalZone readings s n) = zoneTimes s := by
  cases h : s.params.zones[n].hosted with
  | false => rw [evalZone_of_notHosted h]
  | true =>
    obtain ⟨t, ht, he⟩ := evalZone_eq h readings
    have hkept : zoneTimes t = zoneTimes s := by
      rw [ht]
      obtain ⟨hperiod, hwindow, hcounter⟩ := (loadSteps_demandHeat n
        (putZone n (zoneEvaluated s.params n readings[n] s.zone.zones[n]) s)).frame.zoneTimer
      exact Prod.ext hperiod (Prod.ext hwindow hcounter)
    rcases he with he | he <;> rw [he]
    · exact hkept
    · unfold zoneTimes
      rw [raiseEvent_zone]
      exact hkept

theorem zonesEvaluated_times (readings : Vector Adc 4) (s : State) :
    zoneTimes (zonesEvaluated readings s) = (0, s.zone.windowTimer, s.zone.window) :=
  foldl_keeps zoneTimes (evalZone readings) (zoneTimes_evalZone readings) _ _

/-- A zone that is not hosted keeps its fields. -/
theorem zonesEvaluated_of_notHosted {s : State} {n : Fin 4} (hn : s.params.zones[n].hosted = false)
    (readings : Vector Adc 4) : zoneFixed (zonesEvaluated readings s).zone.zones[n] = zoneFixed s.zone.zones[n] := by
  obtain ⟨x, hx, hbefore, hrest, hafter⟩ := foldl_zones (acts_evalZone readings)
    (fun s m hne => zoneKept_evalZone readings (n := n) s hne) (s.setZone { s.zone with periodTimer := 0 })
  have hx' : evalZone readings x n = x := evalZone_of_notHosted (by rw [hx.params]; exact hn) readings
  rw [hx'] at hafter
  exact hafter.fixed.trans hbefore.fixed

/-! ## What a good reading computes (R73, R74) -/

theorem dutyOf_cast (p : ZoneParams) (e i : Int) : (dutyOf p e i : Int) = max 0 (min 255 ((p.kp * e + p.ki * i).tdiv 64)) := by
  unfold dutyOf
  rw [clipInt_eq (by decide), Int.toNat_of_nonneg (Int.le_max_left ..)]

/-- The setpoint that a zone's error is taken from, in every mode but OFF (R73). -/
def setpointOf (mode : ZoneMode) (setpoint : Int) : Int :=
  match mode with
  | .frostGuard => 50
  | .eco => setpoint - 30
  | .off | .comfort => setpoint

theorem zoneEvaluated_of_none {p : Params} {n : Fin 4} {reading : Adc} (h : convertTemp p.tempTable reading = none) (z : Zone) :
    zoneEvaluated p n reading z = { z with duty := 0, faulted := true } := by
  unfold zoneEvaluated
  rw [h]

theorem zoneEvaluated_of_some {p : Params} {n : Fin 4} {reading : Adc} {t : Int} (h : convertTemp p.tempTable reading = some t) (z : Zone) :
    zoneEvaluated p n reading z = controlZone p.zones[n] t { z with temp := some t, faulted := false } := by
  unfold zoneEvaluated
  rw [h]

theorem controlZone_of_off {z : Zone} (h : z.mode = .off) (p : ZoneParams) (t : Int) :
    controlZone p t z = { z with duty := 0 } := by
  unfold controlZone effectiveSetpoint
  rw [h]

theorem controlZone_of_mode {z : Zone} (h : z.mode ≠ .off) (p : ZoneParams) (t : Int) : controlZone p t z =
    { z with
      integral := integralAfter z (clipInt (-200) 200 (setpointOf z.mode z.setpoint - t))
      duty := dutyOf p (clipInt (-200) 200 (setpointOf z.mode z.setpoint - t))
        (integralAfter z (clipInt (-200) 200 (setpointOf z.mode z.setpoint - t))) } := by
  unfold controlZone effectiveSetpoint setpointOf
  cases hmode : z.mode with
  | off => exact absurd hmode h
  | frostGuard | eco | comfort => rfl

theorem zoneEvaluated_kept (p : Params) (n : Fin 4) (reading : Adc) (z : Zone) :
    (zoneEvaluated p n reading z).mode = z.mode ∧ (zoneEvaluated p n reading z).setpoint = z.setpoint
    ∧ (zoneEvaluated p n reading z).saved = z.saved := by
  cases h : convertTemp p.tempTable reading with
  | none => rw [zoneEvaluated_of_none h]; exact ⟨rfl, rfl, rfl⟩
  | some t =>
    rw [zoneEvaluated_of_some h]
    by_cases hmode : z.mode = .off
    · rw [controlZone_of_off (by exact hmode)]; exact ⟨rfl, rfl, rfl⟩
    · rw [controlZone_of_mode (by exact hmode)]; exact ⟨rfl, rfl, rfl⟩

/-- A zone of the load table is never REDUCED (R65). -/
theorem zone_waiting {s : State} (h : BudgetOk s) {n : Fin 4} (hw : waitsInList s.budget.loads[zoneLoad n].state = true) :
    s.budget.loads[zoneLoad n].state = .waiting := by
  obtain ⟨_, ⟨_, _, hreduced⟩, _⟩ := h.1 (zoneLoad n)
  generalize s.budget.loads[zoneLoad n].state = st at hw hreduced
  rcases st with _ | _ | _ | r | r
  case waiting => rfl
  case reduced =>
    have hlight : ∀ n : Fin 4, isLight (zoneLoad n) = false := by decide
    exact absurd ((hlight n).symm.trans (hreduced r rfl)) nofun
  all_goals cases hw

/-- The found zone is ADMITTED if it was, and only if it was or waited. -/
theorem FoundAs.admitted {s : State} {n : Fin 4} {z : Zone} (h : FoundAs s n z) (hbudget : BudgetOk s) (hm : Mirrored s) :
    (s.zone.zones[n].load = .admitted → z.load = .admitted)
    ∧ (z.load = .admitted → s.zone.zones[n].load = .admitted ∨ s.zone.zones[n].load = .waiting) := by
  obtain ⟨_, hload⟩ := h
  have hmirror : s.zone.zones[n].load = s.budget.loads[zoneLoad n].state := hm.2.1 n
  rcases hload with hload | ⟨hw, hload⟩
  · exact ⟨hload.trans, fun hz => .inl (hload.symm.trans hz)⟩
  · rw [hmirror] at hw ⊢
    exact ⟨fun _ => hload, fun _ => .inr (zone_waiting hbudget hw)⟩

/-! ## The CLIMATE telegram (R84) -/

theorem hostsZone_iff (p : Params) : hostsZone p = true ↔ ∃ n : Fin 4, p.zones[n].hosted = true := by
  unfold hostsZone
  rw [List.any_eq_true]
  exact ⟨fun ⟨n, _, hn⟩ => ⟨n, hn⟩, fun ⟨n, hn⟩ => ⟨n, List.mem_finRange n, hn⟩⟩

/-- The word of a zone in a CLIMATE. -/
def climateWord (s : State) (n : Fin 4) : Word :=
  if s.params.zones[n].hosted then
    zoneStateCode (zoneState s.zone.zones[n]) ++ modeCode s.zone.zones[n].mode ++ climateTemp s.zone.zones[n].temp
  else 0#3 ++ (freeField s n.val).extractLsb' 0 13

/-- The byte behind the word of a zone in a CLIMATE. -/
def climateDuty (s : State) (n : Fin 4) : Byte :=
  if s.params.zones[n].hosted then BitVec.ofNat 8 s.zone.zones[n].duty else (freeField s n.val).extractLsb' 16 8

theorem climateZone_eq (s : State) : climateZone s = fun n => wordBytes (climateWord s n) ++ [climateDuty s n] := by
  funext n
  unfold climateZone climateWord climateDuty
  simp only
  split <;> rfl

/-- Four words, each with a byte behind it. -/
theorem flatMap_wordBytes (w : Fin 4 → Word) (b : Fin 4 → Byte) (n : Fin 4) :
    ((List.finRange 4).flatMap fun n => wordBytes (w n) ++ [b n]).length = 12
    ∧ wordAt ((List.finRange 4).flatMap fun n => wordBytes (w n) ++ [b n]) (3 * n.val) = w n
    ∧ byteAt ((List.finRange 4).flatMap fun n => wordBytes (w n) ++ [b n]) (3 * n.val + 2) = b n := by
  refine ⟨rfl, ?_, ?_⟩
  · refine Eq.trans ?_ (wordBytes_join (w n))
    revert n
    refine Fin.forall_fin_succ.mpr ⟨rfl, Fin.forall_fin_succ.mpr ⟨rfl, Fin.forall_fin_succ.mpr ⟨rfl, fun n => ?_⟩⟩⟩
    obtain rfl : n = 0 := Subsingleton.elim _ _
    rfl
  · revert n
    refine Fin.forall_fin_succ.mpr ⟨rfl, Fin.forall_fin_succ.mpr ⟨rfl, Fin.forall_fin_succ.mpr ⟨rfl, fun n => ?_⟩⟩⟩
    obtain rfl : n = 0 := Subsingleton.elim _ _
    rfl

/-- The fields of a word of three, two and eleven bits. -/
theorem fields_of_word (a : BitVec 3) (b : BitVec 2) (c : BitVec 11) :
    (a ++ b ++ c).extractLsb' 13 3 = a ∧ (a ++ b ++ c).extractLsb' 11 2 = b ∧ (a ++ b ++ c).extractLsb' 0 11 = c := by
  refine ⟨?_, ?_, ?_⟩ <;> ext i hi <;> simp <;> grind

theorem state_of_free_word (f : BitVec 13) : (0#3 ++ f).extractLsb' 13 3 = 0#3 := by
  ext i hi
  simp
  grind

/-- A telegram handed between other telegrams is among those handed. -/
theorem handedAmong_of_sent {s u t : State} (k : Kind) (p : List Byte) (hconfigured : s.boot.station ≠ 0#4)
    (hstation : u.boot.station = s.boot.station) (hu : LineHanded s u) (ht : LineHanded (sendTelegram k p u) t) :
    HandedAmong s.boot.station s.line t.line k p := by
  refine ⟨u.line, hu.1, ?_⟩
  have hline : (sendTelegram k p u).line = beginFrame (takeTelegram u.line (telegramOf k s.boot.station p)) := by
    rw [sendTelegram_of_configured (by rw [hstation]; exact hconfigured), hstation]
    rfl
  have hhanded := ht.1
  rw [hline, sendTelegram_boot, hstation] at hhanded
  exact hhanded

/-! ## The statement -/

theorem formClimate_of_none {s : State} (h : s.boot.station = 0#4 ∨ ∀ n : Fin 4, s.params.zones[n].hosted = false) :
    formClimate s = s := by
  refine if_neg fun hc => ?_
  obtain ⟨hhosts, hstation⟩ := Bool.and_eq_true_iff.mp hc
  rcases h with h | h
  · exact bne_iff_ne.mp hstation h
  · obtain ⟨n, hn⟩ := (hostsZone_iff s.params).mp hhosts
    exact absurd (hn.symm.trans (h n)) nofun

theorem zonesEvaluated_of_noneHosted {s : State} (h : ∀ n : Fin 4, s.params.zones[n].hosted = false) (readings : Vector Adc 4) :
    zonesEvaluated readings s = s.setZone { s.zone with periodTimer := 0 } :=
  List.foldl_fixed' (fun n => evalZone_of_notHosted (s := s.setZone { s.zone with periodTimer := 0 }) (h n) readings) _

/-- A station that forms no CLIMATE keeps its line and its free values. -/
theorem publish_evalZones_of_none {s : State} (readings : Vector Adc 4)
    (h : s.boot.station = 0#4 ∨ ∀ n : Fin 4, s.params.zones[n].hosted = false) :
    (publish s (evalZones readings s)).line = s.line ∧ (publish s (evalZones readings s)).freeCount = s.freeCount := by
  have hacts := acts_zonesEvaluated readings s
  have hform : evalZones readings s = zonesEvaluated readings s := by
    rw [evalZones_eq, formClimate_of_none (by rw [hacts.station, hacts.params]; exact h)]
  rw [hform]
  rcases h with h | h
  · generalize zonesEvaluated readings s = u at hacts ⊢
    obtain ⟨l, w, he, _⟩ := publish_still (s := s) hacts.params (hacts.motion (by decide) (by decide))
    have hline := (acts_publish s u).lineHanded (by decide)
    refine ⟨(hline.2 (hacts.station.trans h)).trans ((hacts.lineHanded (by decide)).2 h), ?_⟩
    rw [he]
    exact hacts.blockSame (b := .freeCount) (by decide)
  · rw [zonesEvaluated_of_noneHosted h, (written_setZone s { s.zone with periodTimer := 0 }).acts.publish_eq]
    exact ⟨rfl, rfl⟩

/-- A configured station that hosts a zone hands the line a CLIMATE of what the evaluation left. -/
theorem climate_handed {s : State} (readings : Vector Adc 4) (hstation : s.boot.station ≠ 0#4)
    (hhosts : ∃ n : Fin 4, s.params.zones[n].hosted = true) :
    HandedAmong s.boot.station s.line (publish s (evalZones readings s)).line .climate
      (climatePayload (zonesEvaluated readings s)) := by
  have hacts := acts_zonesEvaluated readings s
  have hform : evalZones readings s
      = drawFree 4 (sendTelegram .climate (climatePayload (zonesEvaluated readings s)) (zonesEvaluated readings s)) := by
    rw [evalZones_eq]
    refine if_pos (Bool.and_eq_true_iff.mpr ⟨?_, bne_iff_ne.mpr ?_⟩)
    · rw [hacts.params]
      exact (hostsZone_iff _).mpr hhosts
    · rw [hacts.station]
      exact hstation
  rw [hform]
  generalize zonesEvaluated readings s = u at hacts ⊢
  have hpublish := (written_drawFree 4 (sendTelegram .climate (climatePayload u) u)).acts.append
    (acts_publish s (drawFree 4 (sendTelegram .climate (climatePayload u) u)))
    (N := .writes .freeCount :: publishEffects)
  exact handedAmong_of_sent .climate _ hstation hacts.station (hacts.lineHanded (by decide)) (hpublish.lineHanded (by decide))

theorem exec_zoneEvaluation {s : State} (readings : Vector Adc 4) (hrun : s.running = true)
    (hdue : 10000 ≤ s.zone.periodTimer) :
    exec (.zoneEvaluation readings) s = .next (publish s (evalZones readings s)) :=
  effectWhen_of_due hrun (decide_eq_true hdue)

/-- An evaluation, published: what it leaves of the zones and the loads is what it leaves before the CLIMATE. -/
theorem publish_evalZones (readings : Vector Adc 4) (s : State) :
    (publish s (evalZones readings s)).zone = (zonesEvaluated readings s).zone
    ∧ (publish s (evalZones readings s)).budget = (zonesEvaluated readings s).budget
    ∧ (publish s (evalZones readings s)).event = (zonesEvaluated readings s).event := by
  have hacts := (acts_zonesEvaluated readings s).append (acts_formClimate _)
    (N := zoneEffects ++ [.raises .zoneSensorFault, .sends, .writes .freeCount])
  rw [evalZones_eq]
  generalize zonesEvaluated readings s = u at hacts ⊢
  obtain ⟨l, w, he, _⟩ := publish_still (s := s) hacts.params (hacts.motion (by decide) (by decide))
  rw [he]
  unfold formClimate
  split
  · rw [sendTelegram_eq]
    exact ⟨rfl, rfl, rfl⟩
  · exact ⟨rfl, rfl, rfl⟩

/-- Settles O29, from the round of the evaluation as each zone sees it. -/
theorem zonesComputeAndDriveTheirDuty : Obligations.ZonesComputeAndDriveTheirDuty := by
  refine ⟨fun s readings hrun hdue hbudget hmirror => ?_, fun s hrun hdue => ?_⟩
  · have hm := mirrored_of_mirrorOk hmirror
    obtain ⟨hzone, hloads, hevent⟩ := publish_evalZones readings s
    have htimes := zonesEvaluated_times readings s
    simp only [zoneTimes, Prod.mk.injEq] at htimes
    obtain ⟨hperiod, _, hwindow⟩ := htimes
    refine ⟨_, exec_zoneEvaluation readings hrun hdue, ?_, ?_, fun n hn => ?_, fun n hn => ?_, ?_, ?_⟩
    · rw [hzone]; exact hperiod
    · rw [hzone]; exact hwindow
    · rw [hzone]; exact zonesEvaluated_of_notHosted hn readings
    · obtain ⟨z, hfound, hfixed, hoff, hflag⟩ := zonesEvaluated_zone hn hm readings
      obtain ⟨hwas, honly⟩ := hfound.admitted hbudget hm
      obtain ⟨hmode, hsetpoint, hsaved⟩ := zoneEvaluated_kept s.params n readings[n] z
      rw [hzone, hloads, hevent]
      generalize (zonesEvaluated readings s).zone.zones[n] = q at hfixed ⊢
      have hz := hfound.1
      simp only [zoneFixed, Prod.mk.injEq] at hfixed hz
      obtain ⟨qmode, qsetpoint, qsaved, qtemp, qfaulted, qintegral, qduty⟩ := hfixed
      obtain ⟨zmode, zsetpoint, zsaved, ztemp, _, zintegral, _⟩ := hz
      refine ⟨qmode.trans (hmode.trans zmode), qsetpoint.trans (hsetpoint.trans zsetpoint), qsaved.trans (hsaved.trans zsaved),
        qduty ▸ hoff.symm, fun hnone => ?_, fun temp hsome => ?_⟩
      · rw [zoneEvaluated_of_none hnone] at qtemp qfaulted qintegral qduty
        exact ⟨qfaulted, qduty, qtemp.trans ztemp, qintegral.trans zintegral, hflag hnone⟩
      · rw [zoneEvaluated_of_some hsome] at qtemp qfaulted qintegral qduty
        by_cases hm' : s.zone.zones[n].mode = .off
        · rw [controlZone_of_off (by exact zmode.trans hm')] at qtemp qfaulted qintegral qduty
          exact ⟨qfaulted, qtemp, fun _ => ⟨qduty, qintegral.trans zintegral⟩, fun hne => absurd hm' hne⟩
        · rw [controlZone_of_mode (by exact fun h => hm' (zmode.symm.trans h))] at qtemp qfaulted qintegral qduty
          refine ⟨qfaulted, qtemp, fun h => absurd h hm', fun _ => ⟨decide (z.load = .admitted), fun h => ?_, fun h => ?_,
            fun e he => ?_⟩⟩
          · exact decide_eq_true (hwas h)
          · exact honly (of_decide_eq_true h)
          · have herror : clipInt (-200) 200 (setpointOf z.mode z.setpoint - temp) = e := by
              rw [he, zmode, zsetpoint, clipInt_eq (by decide)]
              rfl
            simp only [herror] at qintegral qduty
            refine ⟨?_, ?_⟩
            · rw [qintegral, integralAfter, clipInt_eq (by decide), ← zintegral]
              simp only [decide_eq_true_eq]
            · rw [qduty, dutyOf_cast, qintegral]
    · exact publish_evalZones_of_none readings
    · intro hstation hhosts
      refine ⟨_, climate_handed readings hstation hhosts, ?_⟩
      have hp := (acts_zonesEvaluated readings s).params
      rw [hzone]
      generalize zonesEvaluated readings s = u at hp
      rw [climatePayload, climateZone_eq]
      refine ⟨(flatMap_wordBytes (climateWord u) (climateDuty u) 0).1, fun n => ?_⟩
      obtain ⟨_, hword, hduty⟩ := flatMap_wordBytes (climateWord u) (climateDuty u) n
      rw [hword, hduty, climateWord, climateDuty, hp]
      refine ⟨fun hn => ?_, fun hn => ?_⟩
      · rw [if_neg (by rw [hn]; nofun)]
        exact state_of_free_word _
      · rw [if_pos hn, if_pos hn]
        obtain ⟨hstate, hmode, htemp⟩ := fields_of_word (zoneStateCode (zoneState u.zone.zones[n]))
          (modeCode u.zone.zones[n].mode) (climateTemp u.zone.zones[n].temp)
        generalize u.zone.zones[n] = z at hstate hmode htemp ⊢
        refine ⟨hstate.trans ?_, hmode.trans ?_, htemp.trans ?_, rfl⟩
        · unfold zoneState
          split
          · rfl
          · cases z.load <;> rfl
        · cases z.mode <;> rfl
        · cases z.temp <;> rfl
  · have hexec : exec .heaterWindowStep s = .next (publish s (stepWindow s)) :=
      effectWhen_of_due hrun (decide_eq_true hdue)
    rw [hexec, (acts_stepWindow s).publish_eq]
    refine congrArg (fun v => Host.Outcome.next (s.setZone { s.zone with
      window := s.zone.window + 1#8, windowTimer := 0, zones := Vector.ofFn v })) (funext fun n => ?_)
    unfold driveHeater admittedDuty
    rw [dutyOutput_eq]
    by_cases h : s.zone.zones[n].load = .admitted
    · simp only [h, if_true, true_and]
    · simp only [h, if_false, false_and, decide_false, Nat.not_lt_zero, or_false, OfNat.zero_ne_ofNat]

end Sys2Proof.Machine

/-! ZONE-SET (R78 to R81), and a heater's output under moves of its load (R77). -/

namespace Sys2Proof.Machine

-- As in the tests, so that no command needs threads of its own.
set_option Elab.async false

/-! ## The output of one heater (R77) -/

/-- A heater's output follows its admitted duty. -/
def Driven (n : Fin 4) (s : State) : Prop :=
  s.zone.zones[n].output = dutyOutput (admittedDuty s.zone.zones[n]) s.zone.window

theorem driven_of_zone {n : Fin 4} {s t : State} (h : Driven n s) (hz : t.zone = s.zone) : Driven n t := by
  unfold Driven
  rw [hz]
  exact h

theorem driven_putZone (n : Fin 4) (z : Zone) (s : State) : Driven n (putZone n z s) := by
  unfold Driven
  rw [putZone_zone_self]
  rfl

theorem driven_handLoad {n : Fin 4} (i : Fin 17) (ld : LoadState) {s : State} (h : Driven n s) : Driven n (handLoad i ld s) := by
  obtain ⟨_, _, hwindow⟩ := (LoadFrame.handLoad i ld s).zoneTimer
  unfold Driven
  rw [handLoad_zone, hwindow]
  split
  · rfl
  · exact h

theorem LoadSteps.driven {n : Fin 4} {s t : State} (h : LoadSteps s t) (hs : Driven n s) : Driven n t := by
  induction h with
  | refl => exact hs
  | send t k p _ ih => exact driven_of_zone ih (sendTelegram_zone _ _ _)
  | flag t w _ ih => exact driven_of_zone ih rfl
  | load t i r _ _ _ ih => exact driven_handLoad _ _ (driven_of_zone ih (State.setBudget_zone _ _))
  | cls t i c _ ih => exact driven_of_zone ih rfl
  | book t b _ _ _ _ ih => exact driven_of_zone ih rfl

theorem Driven.dark {n : Fin 4} {s : State} (h : Driven n s) (hload : s.zone.zones[n].load ≠ .admitted) :
    s.zone.zones[n].output = false := by
  rw [h, admittedDuty, if_neg hload, dutyOutput_eq]
  exact decide_eq_false (by omega)

/-! ## Mode OFF at once (R79) -/

/-- A zone released by mode OFF: its fields, its load and its output, and the other zones. -/
theorem zoneOff_spec {n : Fin 4} {s : State} (hm : Mirrored s) :
    zoneFixed (zoneOff n s).zone.zones[n] = zoneFixed { s.zone.zones[n] with mode := .off, integral := 0, duty := 0 }
    ∧ (zoneOff n s).budget.loads[zoneLoad n].state = .off ∧ (zoneOff n s).zone.zones[n].output = false
    ∧ ∀ k : Fin 4, k ≠ n → zoneFixed (zoneOff n s).zone.zones[k] = zoneFixed s.zone.zones[k] := by
  have hput := putZone_zone_self n { s.zone.zones[n] with mode := .off, integral := 0, duty := 0 } s
  have hothers : ∀ k : Fin 4, k ≠ n →
      (putZone n { s.zone.zones[n] with mode := .off, integral := 0, duty := 0 } s).zone.zones[k] = s.zone.zones[k] :=
    fun k hk => (putZone_zone n k _ s).trans (if_neg (Ne.symm hk))
  have hmirror : Mirrored (putZone n { s.zone.zones[n] with mode := .off, integral := 0, duty := 0 } s) :=
    (written_putZone n _ s).mirrored hm
  have hdriven := driven_putZone n { s.zone.zones[n] with mode := .off, integral := 0, duty := 0 } s
  unfold zoneOff
  generalize putZone n { s.zone.zones[n] with mode := .off, integral := 0, duty := 0 } s = m at hput hothers hmirror hdriven ⊢
  have hsteps := loadSteps_demandHeat n m
  have hoff : (demandHeat n m).budget.loads[zoneLoad n].state = .off :=
    (demandHeat_off_iff (hmirror.2.1 n)).mpr (by rw [hput]; rfl)
  have hload : (demandHeat n m).zone.zones[n].load = .off := (hsteps.mirrored hmirror).2.1 n |>.trans hoff
  refine ⟨(hsteps.frame.zones n).trans (by rw [hput]; rfl), hoff, (hsteps.driven hdriven).dark (by rw [hload]; nofun),
    fun k hk => (hsteps.frame.zones k).trans (by rw [hothers k hk]; rfl)⟩

/-! ## ZONE-SET decided (R78) -/

theorem modeOfCode_modeCode (m : ZoneMode) : modeOfCode (((modeCode m).setWidth 8 : Byte).extractLsb' 0 2) = m := by
  cases m <;> rfl

theorem decideZoneSet_of_large {zone mode : Byte} (h : 4 ≤ zone.toNat ∨ 4 ≤ mode.toNat) (setpoint : Word) (s : State) :
    decideZoneSet zone mode setpoint s = (s, .bare .badRequest) := by
  unfold decideZoneSet
  split
  · next hlt => exact if_pos (h.resolve_left (Nat.not_le.mpr hlt))
  · rfl

theorem decideZoneSet_of_zone {zone mode : Byte} {n : Fin 4} (hn : zone.toNat = n.val) (hmode : mode.toNat < 4)
    (setpoint : Word) (s : State) : decideZoneSet zone mode setpoint s =
      if !s.params.zones[n].hosted then (s, .bare .notHosted)
      else if s.boot.storage then
        (takeSavedMode n (modeOfCode (mode.extractLsb' 0 2)) (clipSetpoint setpoint.toInt) s, .bare .storage)
      else (takeMode n (modeOfCode (mode.extractLsb' 0 2)) (clipSetpoint setpoint.toInt) s,
        .bare (if clipSetpoint setpoint.toInt = setpoint.toInt then .done else .clamped)) := by
  have hlt : zone.toNat < 4 := hn ▸ n.isLt
  obtain rfl : n = ⟨zone.toNat, hlt⟩ := Fin.ext hn.symm
  unfold decideZoneSet
  rw [dif_pos hlt, if_neg (Nat.not_le.mpr hmode)]

/-- A zone written and nothing else, by a request: what it leaves, and its REPLY. -/
theorem takeRequest_putZone {s : State} {rq : Requester} {n : Fin 4} {z : Zone} {o : ReplyOutcome} {d : State → State × Answer}
    (htakes : takesRequests s = true) (hdec : d s = (putZone n z s, .bare o)) (hload : z.load = s.zone.zones[n].load := by rfl) :
    zoneFixed (takeRequest rq d s).zone.zones[n] = zoneFixed z
    ∧ (∀ k : Fin 4, k ≠ n → zoneFixed (takeRequest rq d s).zone.zones[k] = zoneFixed s.zone.zones[k])
    ∧ (takeRequest rq d s).budget = s.budget ∧ Replied s (takeRequest rq d s) rq o [] := by
  have hacts := (written_putZone n z s hload).acts
  have hreplied := takeRequest_replied (rq := rq) htakes hdec hacts (by decide)
  obtain ⟨l, hl⟩ := takeRequest_published (rq := rq) htakes hdec
  rw [hacts.publish_eq] at hl
  rw [hl] at hreplied ⊢
  refine ⟨?_, fun k hk => ?_, rfl, hreplied⟩
  · exact (congrArg zoneFixed (putZone_zone_self n z s)).trans rfl
  · exact congrArg zoneFixed ((putZone_zone n k z s).trans (if_neg (Ne.symm hk)))

/-- Settles O30, in the order of the rule. -/
theorem zoneSetIsDecidedInOrder : Obligations.ZoneSetIsDecidedInOrder := by
  intro s rq zone mode setpoint htakes
  have hexec : ∀ z m, exec (.zoneSet rq z m setpoint) s = .next (takeRequest rq (decideZoneSet z m setpoint) s) := fun _ _ => rfl
  refine ⟨fun hbad => ?_, fun n hn hmode hnone => ?_, fun n m sp hn hmode hhosted hm hsp _ hmirror => ?_⟩
  · rw [hexec, takeRequest_refused htakes (decideZoneSet_of_large hbad setpoint s)]
  · have hdec : decideZoneSet zone mode setpoint s = (s, .bare .notHosted) := by
      rw [decideZoneSet_of_zone hn hmode, if_pos (by rw [hnone]; rfl)]
    rw [hexec, takeRequest_refused htakes hdec]
  · have hclip : clipSetpoint setpoint.toInt = sp := by
      rw [hsp]
      exact clipInt_eq (by decide) _
    have hall := decideZoneSet_of_zone hn hmode setpoint s
    rw [if_neg (by rw [hhosted]; nofun), hclip, hm, modeOfCode_modeCode, ← hm] at hall
    rw [hexec]
    cases hstorage : s.boot.storage with
    | true =>
      rw [if_pos hstorage] at hall
      obtain ⟨hself, hothers, hbudget, hreplied⟩ := takeRequest_putZone (rq := rq) htakes hall
      exact ⟨_, rfl, hothers, fun _ => ⟨hself, hbudget, hreplied⟩, nofun⟩
    | false =>
      rw [if_neg (by rw [hstorage]; nofun)] at hall
      by_cases hoff : m = .off
      · have htake : takeMode n m sp s = zoneOff n (putZone n { s.zone.zones[n] with mode := m, setpoint := sp } s) := if_pos hoff
        have hm' : Mirrored (putZone n { s.zone.zones[n] with mode := m, setpoint := sp } s) :=
          (written_putZone n _ s).mirrored (mirrored_of_mirrorOk hmirror)
        obtain ⟨hself, hload, hdark, hothers⟩ := zoneOff_spec (n := n) hm'
        have hacts := acts_takeMode n m sp s
        rw [putZone_zone_self] at hself
        rw [htake] at hall hacts
        generalize zoneOff n (putZone n { s.zone.zones[n] with mode := m, setpoint := sp } s) = t
          at hall hacts hself hload hdark hothers
        have hreplied := takeRequest_replied (rq := rq) htakes hall hacts (by decide)
        obtain ⟨l, hl⟩ := takeRequest_published (rq := rq) htakes hall
        obtain ⟨l', w, he, _⟩ := publish_still (s := s) hacts.params (hacts.motion (by decide) (by decide))
        rw [hl, he] at hreplied
        rw [hl, he]
        refine ⟨_, rfl, fun k hk => (hothers k hk).trans ?_, nofun, fun _ => ⟨fun h => absurd hoff h,
          fun _ => ⟨hself.trans rfl, hload, hdark⟩, hreplied⟩⟩
        exact congrArg zoneFixed ((putZone_zone n k _ s).trans (if_neg (Ne.symm hk)))
      · have htake : takeMode n m sp s = putZone n { s.zone.zones[n] with mode := m, setpoint := sp } s := if_neg hoff
        rw [htake] at hall
        obtain ⟨hself, hothers, hbudget, hreplied⟩ := takeRequest_putZone (rq := rq) htakes hall
        exact ⟨_, rfl, hothers, nofun, fun _ => ⟨fun _ => ⟨hself, hbudget⟩, fun h => absurd h hoff, hreplied⟩⟩

end Sys2Proof.Machine

/-! The pump (R94 to R99): an evaluation by demand and blocks, and the three commands that drive it. -/

namespace Sys2Proof.Machine

-- As in the tests, so that no command needs threads of its own.
set_option Elab.async false

/-! ## The end of a command, for the water controller -/

/-- Without a change of the actuators the end of a command writes at most the line and the times of TANKS. -/
theorem publish_times {s t : State} (hp : t.params = s.params) (hm : t.motion = s.motion) :
    ∃ (l : Line) (timer : Nat) (due : Bool),
      publish s t = (t.setWater { t.water with tanksTimer := timer, tanksDue := due }).setLine l := by
  rw [publish_eq_tanksAfter hp hm]
  unfold tanksAfter
  split
  · exact ⟨t.line, t.water.tanksTimer, t.water.tanksDue, rfl⟩
  · split
    · unfold queueTanks
      split
      · exact ⟨_, _, _, sendTelegram_eq _ _ _⟩
      · exact ⟨t.line, t.water.tanksTimer, t.water.tanksDue, rfl⟩
    · exact ⟨t.line, t.water.tanksTimer, true, rfl⟩

/-- The pump and the frost record stand through the end of a command. -/
theorem publish_pump_frost {s t : State} (hp : t.params = s.params) (hm : t.motion = s.motion) :
    (publish s t).water.pump = t.water.pump ∧ (publish s t).water.frost = t.water.frost := by
  obtain ⟨l, timer, due, he⟩ := publish_times hp hm
  rw [he]
  exact ⟨rfl, rfl⟩

/-! ## The run timer (R98) -/

/-- The run timer stands at 0 while the output is off. -/
def Rested (s : State) : Prop := s.water.pump.output = false → s.water.pump.runTimer = 0

theorem rested_of_water {s t : State} (h : Rested s) (hw : t.water = s.water) : Rested t := by
  unfold Rested
  rw [hw]
  exact h

theorem rested_drivePump (blocked : Bool) (p : Pump) :
    (drivePump blocked p).output = false → (drivePump blocked p).runTimer = 0 := by
  intro h
  have hon : (p.load == .admitted && !blocked) = false := h
  unfold drivePump
  simp only
  rw [hon, Bool.and_false]
  rfl

theorem rested_handLoad (i : Fin 17) (ld : LoadState) {s : State} (h : Rested s) : Rested (handLoad i ld s) := by
  unfold Rested
  rw [handLoad_pump]
  split
  · exact rested_drivePump _ _
  · exact h

theorem LoadSteps.rested {s t : State} (h : LoadSteps s t) (hs : Rested s) : Rested t := by
  induction h with
  | refl => exact hs
  | send t k p _ ih => exact rested_of_water ih (sendTelegram_water k p t)
  | flag t w _ ih => exact rested_of_water ih rfl
  | load t i r _ _ _ ih => exact rested_handLoad _ _ (rested_of_water ih (State.setBudget_water _ _))
  | cls t i c _ ih => exact rested_of_water ih rfl
  | book t b _ _ _ _ ih => exact rested_of_water ih rfl

/-! ## The pump evaluated (R95, R96) -/

/-- A hosted pump's load is OFF after an evaluation exactly while a block holds or nothing demands it. -/
theorem evalPump_off_iff {s : State} (hm : Mirrored s) (hp : s.params.water.pump = true) :
    (evalPump s).budget.loads[pumpLoad].state = .off ↔ pumpBlocked s = true ∨ s.water.pump.demand = false := by
  have hload : s.water.pump.load = s.budget.loads[pumpLoad].state := hm.2.2.2
  unfold evalPump
  rw [if_neg (by rw [hp]; nofun)]
  simp only
  rw [hload]
  split
  · next hstop =>
    have hstop' : pumpBlocked s = true ∨ s.water.pump.demand = false := by simpa using hstop
    split
    · next hoff => exact iff_of_true hoff hstop'
    · exact iff_of_true (release_state _ _) hstop'
  · next hgo =>
    have hgo' : ¬ (pumpBlocked s = true ∨ s.water.pump.demand = false) := by simpa using hgo
    split
    · exact iff_of_false (ask_state_ne_off _ _) hgo'
    · next hon => exact iff_of_false hon hgo'

/-- What an evaluation of the hosted pump leaves, published, behind a write of the pump's own fields. -/
structure PumpRun (m t : State) : Prop where
  moved : OnlyLoadsMoved m t
  offIff : t.budget.loads[13].state = .off ↔ pumpBlocked m = true ∨ m.water.pump.demand = false
  output : t.water.pump.output = decide (t.budget.loads[13].state = .admitted)
  rested : Rested m → Rested t
  event : t.event = m.event

theorem PumpRun.stopped {m t : State} (h : PumpRun m t) (hoff : t.budget.loads[13].state = .off) :
    t.water.pump.output = false := by
  rw [h.output, hoff]
  rfl

/-- An evaluation of the hosted pump, published. -/
theorem pumpRun_publish {s m : State} (hp : m.params = s.params) (hmotion : m.motion = s.motion)
    (hpump : s.params.water.pump = true) (hm : Mirrored m) (hr : PumpReady m) : PumpRun m (publish s (evalPump m)) := by
  have hsteps := loadSteps_evalPump m
  have hoff := evalPump_off_iff hm (hp ▸ hpump)
  have hok := pumpOk_evalPump hm hr
  have hevent : (evalPump m).event = m.event := (acts_evalPump m).eventKept (by decide)
  have hmirror : (evalPump m).water.pump.load = (evalPump m).budget.loads[13].state := (hsteps.mirrored hm).2.2.2
  generalize evalPump m = t at hsteps hoff hok hevent hmirror ⊢
  obtain ⟨hmoved, hbudget, he, _⟩ := publish_of_moved (s := s) hsteps hp hmotion
  obtain ⟨hkept, _⟩ := publish_pump_frost (hsteps.frame.params.trans hp) (hsteps.frame.motion.trans hmotion)
  refine ⟨hmoved, ?_, ?_, fun h => ?_, he.trans hevent⟩
  · rw [hbudget]
    exact hoff
  · rw [hkept, hbudget, hok.2, hmirror]
    exact (Bool.beq_eq_decide_eq _ _)
  · unfold Rested
    rw [hkept]
    exact hsteps.rested h

theorem OnlyLoadsMoved.of_blocks {m s t : State} (h : OnlyLoadsMoved m t) (hbudget : m.budget = s.budget)
    (hzone : m.zone = s.zone) (hlight : m.light = s.light) :
    budgetSame s t ∧ zonesSame s t ∧ waterFixed t.water = waterFixed m.water ∧ lightsSame s t := by
  unfold OnlyLoadsMoved budgetSame zonesSame lightsSame at h
  rw [hbudget, hzone, hlight] at h
  exact h

/-! ## The commands -/

theorem pressureEdge_of_change {closing : Bool} {s : State} (hp : s.params.water.pump = true) (h : s.water.pump.demand ≠ closing) :
    pressureEdge closing s = evalPump (putPump { s.water.pump with demand := closing } s) :=
  if_pos (by rw [hp]; exact bne_iff_ne.mpr h)

theorem pressureEdge_of_none {closing : Bool} {s : State} (h : s.params.water.pump = false ∨ s.water.pump.demand = closing) :
    pressureEdge closing s = s := by
  refine if_neg fun hc => ?_
  obtain ⟨hp, hne⟩ := Bool.and_eq_true_iff.mp hc
  exact h.elim (fun h => absurd (hp.symm.trans h) nofun) (bne_iff_ne.mp hne)

theorem exec_pressureSwitchEdge {s : State} (closing : Bool) (hrun : s.running = true) :
    exec (.pressureSwitchEdge closing) s = .next (publish s (pressureEdge closing s)) := effectWhen_of_due hrun rfl

theorem raiseEvent_water (e : Event) (s : State) : (raiseEvent e s).water = s.water :=
  raiseEvent_blockSame e s (b := .water) (by decide)

theorem raiseEvent_light (e : Event) (s : State) : (raiseEvent e s).light = s.light :=
  raiseEvent_blockSame e s (b := .light) (by decide)

/-- The pump with dry-lock set and PUMP-DRY raised, before it is evaluated (R98). -/
def dryLocked (s : State) : State := raiseEvent .pumpDry (putPump { s.water.pump with dryLock := true } s)

theorem dryLocked_blocks (s : State) : (dryLocked s).budget = s.budget ∧ (dryLocked s).zone = s.zone
    ∧ (dryLocked s).light = s.light ∧ (dryLocked s).params = s.params ∧ (dryLocked s).motion = s.motion
    ∧ (dryLocked s).water = { s.water with pump := { s.water.pump with dryLock := true } } := by
  unfold dryLocked
  rw [raiseEvent_budget, raiseEvent_zone, raiseEvent_light, raiseEvent_params, raiseEvent_motion, raiseEvent_water]
  exact ⟨rfl, rfl, rfl, rfl, rfl, rfl⟩

/-- The pump with its flags as a PUMP-SET leaves them, before it is evaluated (R99). -/
def pumpSetTo (enable : Bool) (p : Pump) : Pump :=
  if enable then { p with disabled := false, dryLock := false } else { p with disabled := true }

theorem setPump_eq (enable : Bool) (s : State) : setPump enable s = evalPump (putPump (pumpSetTo enable s.water.pump) s) := rfl

theorem pumpSetTo_kept (enable : Bool) (p : Pump) : (pumpSetTo enable p).demand = p.demand
    ∧ (pumpSetTo enable p).load = p.load ∧ (pumpSetTo enable p).output = p.output := by
  cases enable <;> exact ⟨rfl, rfl, rfl⟩

theorem decidePumpSet_of_flag {value : Byte} (h : value.toNat < 2) (s : State) : decidePumpSet value s =
    if !s.params.water.pump then (s, .bare .notHosted)
    else if s.boot.storage then (s, .bare .storage)
    else (setPump (value == 1#8) s, .bare .done) := by
  unfold decidePumpSet
  rw [flagOfByte_eq h]

/-- An enabled pump is blocked by the tanks, the valve or storage mode only (R95). -/
theorem enabled_not_blocked {s : State} (hfresh : s.water.fresh.state ≠ .empty) (hgrey : anyGreyFull s = false)
    (hvalve : s.water.frost.valveOpen = false) (hstorage : s.boot.storage = false) :
    ¬ pumpBlocked (putPump (pumpSetTo true s.water.pump) s) = true := by
  have hgrey' : (s.water.grey.state == .full || s.water.peerGreyFull) = false := hgrey
  simp [pumpBlocked, otherPumpBlock, anyGreyFull, putPump, pumpSetTo, hfresh, hvalve, hstorage, hgrey']

theorem disabled_blocked (s : State) : pumpBlocked (putPump (pumpSetTo false s.water.pump) s) = true := by
  unfold pumpBlocked
  rw [(otherPumpBlock_iff _).mpr (.inl rfl), Bool.or_true]

/-- Settles O33: each command writes the pump's own fields and evaluates it. -/
theorem pumpFollowsDemandBlocksAndDryLock : Obligations.PumpFollowsDemandBlocksAndDryLock := by
  refine ⟨fun s closing hrun => ⟨fun hnone => ?_, fun hpump hchange _ hmirror hok => ?_⟩,
    fun s hrun hpump hout hdue _ hmirror hok => ?_,
    fun s rq value htakes => ⟨fun hbad => ?_, fun hvalue hnone => ?_, fun hvalue hpump hstorage => ?_,
      fun hvalue hpump hstorage _ hmirror hok => ?_⟩⟩
  · rw [exec_pressureSwitchEdge closing hrun, pressureEdge_of_none hnone, publish_self]
  · have hm : Mirrored (putPump { s.water.pump with demand := closing } s) :=
      (written_putPump _ s).mirrored (mirrored_of_mirrorOk hmirror)
    have hrun' := pumpRun_publish (s := s) (m := putPump { s.water.pump with demand := closing } s) rfl rfl hpump hm hok.ready
    rw [exec_pressureSwitchEdge closing hrun, pressureEdge_of_change hpump hchange]
    generalize publish s (evalPump (putPump { s.water.pump with demand := closing } s)) = t at hrun' ⊢
    obtain ⟨hbudget, hzones, hwater, hlights⟩ := hrun'.moved
    refine ⟨t, rfl, hwater, hzones, hlights, hbudget, hrun'.output, fun h => ?_, fun hclosing hclear hoff => ?_⟩
    · exact hrun'.offIff.mpr (h.elim .inr .inl)
    · rcases hrun'.offIff.mp hoff with h | h
      · exact absurd (hclear.symm.trans h) nofun
      · exact absurd (hclosing.symm.trans h) nofun
  · obtain ⟨hb, hz, hl, hp, hmo, hw⟩ := dryLocked_blocks s
    have hacts : Acts [.writes .water, .raises .pumpDry] s (dryLocked s) :=
      (written_putPump { s.water.pump with dryLock := true } s).acts.append (acts_raiseEvent _ _)
    have hready : PumpReady (dryLocked s) := by
      unfold PumpReady
      rw [hp, hw]
      exact hok.ready
    have hblocked : pumpBlocked (dryLocked s) = true := by
      unfold pumpBlocked
      rw [hw]
      rfl
    have hflag : inSet (dryLocked s).event.flags .pumpDry = true := inSet_raiseEvent _ _
    have hrested : Rested (dryLocked s) := by
      unfold Rested
      rw [hw]
      exact fun h => absurd (hout.symm.trans h) nofun
    have hrun' := pumpRun_publish (s := s) hp hmo hpump (hacts.mirrored (mirrored_of_mirrorOk hmirror)) hready
    have hexec : exec .pumpRunTimerExpiry s = .next (publish s (evalPump (dryLocked s))) :=
      effectWhen_of_due hrun (Bool.and_eq_true_iff.mpr ⟨hout, decide_eq_true hdue⟩)
    rw [hexec]
    generalize dryLocked s = m at hb hz hl hp hmo hw hblocked hflag hrested hrun' ⊢
    generalize publish s (evalPump m) = t at hrun' ⊢
    obtain ⟨hbudget, hzones, hwater, hlights⟩ := hrun'.moved.of_blocks hb hz hl
    have hoff := hrun'.offIff.mpr (.inl hblocked)
    refine ⟨t, rfl, hwater.trans (congrArg waterFixed hw), by rw [hrun'.event]; exact hflag, hoff, hrun'.stopped hoff,
      hrun'.rested hrested (hrun'.stopped hoff), hzones, hlights, hbudget⟩
  · have hdec : decidePumpSet value s = (s, .bare .badRequest) := by
      unfold decidePumpSet
      rw [flagOfByte_of_large hbad]
    exact congrArg Host.Outcome.next (takeRequest_refused htakes hdec)
  · have hdec : decidePumpSet value s = (s, .bare .notHosted) := by
      rw [decidePumpSet_of_flag hvalue, if_pos (by rw [hnone]; rfl)]
    exact congrArg Host.Outcome.next (takeRequest_refused htakes hdec)
  · have hdec : decidePumpSet value s = (s, .bare .storage) := by
      rw [decidePumpSet_of_flag hvalue, if_neg (by rw [hpump]; nofun), if_pos hstorage]
    exact congrArg Host.Outcome.next (takeRequest_refused htakes hdec)
  · obtain ⟨hdemand, hload, houtput⟩ := pumpSetTo_kept (value == 1#8) s.water.pump
    have hdec : decidePumpSet value s = (evalPump (putPump (pumpSetTo (value == 1#8) s.water.pump) s), .bare .done) := by
      rw [decidePumpSet_of_flag hvalue, if_neg (by rw [hpump]; nofun), if_neg (by rw [hstorage]; nofun), setPump_eq]
    have hacts := acts_decidePumpSet value s
    rw [hdec] at hacts
    have hm : Mirrored (putPump (pumpSetTo (value == 1#8) s.water.pump) s) :=
      (written_putPump _ s hload).mirrored (mirrored_of_mirrorOk hmirror)
    have hready := pumpReady_congr (t := putPump (pumpSetTo (value == 1#8) s.water.pump) s) hok.ready rfl hload houtput
    have hrun' := pumpRun_publish (s := s) (m := putPump (pumpSetTo (value == 1#8) s.water.pump) s) rfl rfl hpump hm hready
    have hreplied := takeRequest_replied (rq := rq) htakes hdec hacts (by decide)
    obtain ⟨l, hl⟩ := takeRequest_published (rq := rq) htakes hdec
    have hexec : exec (.pumpSet rq value) s = .next (takeRequest rq (decidePumpSet value) s) := rfl
    rw [hexec]
    rw [hl] at hreplied ⊢
    generalize publish s (evalPump (putPump (pumpSetTo (value == 1#8) s.water.pump) s)) = t at hrun' hreplied ⊢
    obtain ⟨hbudget, hzones, hwater, hlights⟩ := hrun'.moved
    have hpumps : waterFixed t.water = waterFixed { s.water with pump := pumpSetTo (value == 1#8) s.water.pump } := hwater
    simp only [waterFixed, Prod.mk.injEq] at hpumps
    obtain ⟨_, ⟨tdemand, tdisabled, tdry⟩, _⟩ := hpumps
    refine ⟨_, rfl, hreplied, tdemand.trans hdemand, fun hv => ?_, fun hv => ?_, hzones, hlights, hbudget⟩
    · subst hv
      refine ⟨tdisabled, tdry, fun hd hfresh hgrey hvalve hoff => ?_⟩
      rcases hrun'.offIff.mp hoff with h | h
      · exact enabled_not_blocked hfresh hgrey hvalve hstorage h
      · exact absurd (hd.symm.trans h) nofun
    · subst hv
      have hoff := hrun'.offIff.mpr (.inl (disabled_blocked s))
      exact ⟨tdisabled, tdry, hoff, hrun'.stopped hoff⟩

end Sys2Proof.Machine

/-! The dump valve (R102 to R106), and the frost dwell under moves of the heater's load (R103). -/

namespace Sys2Proof.Machine

-- As in the tests, so that no command needs threads of its own.
set_option Elab.async false

/-! ## The end of a command, by blocks -/

/-- Without a change of the actuators the end of a command leaves every block but the line and the times of TANKS. -/
structure Ended (t u : State) : Prop where
  zone : u.zone = t.zone
  light : u.light = t.light
  budget : u.budget = t.budget
  event : u.event = t.event
  boot : u.boot = t.boot
  params : u.params = t.params
  pump : u.water.pump = t.water.pump
  frost : u.water.frost = t.water.frost
  water : waterFixed u.water = waterFixed t.water

theorem ended_publish {s t : State} (hp : t.params = s.params) (hm : t.motion = s.motion) : Ended t (publish s t) := by
  obtain ⟨l, timer, due, he⟩ := publish_times hp hm
  rw [he]
  exact ⟨rfl, rfl, rfl, rfl, rfl, rfl, rfl, rfl, rfl⟩

theorem Acts.ended {L : List Effect} {s t : State} (h : Acts L s t) (hL : .writes .motion ∉ L := by decide)
    (hc : .clearsCounters ∉ L := by decide) : Ended t (publish s t) := ended_publish h.params (h.motion hL hc)

theorem Ended.setLine {t u : State} (h : Ended t u) (l : Line) : Ended t (u.setLine l) :=
  ⟨h.zone, h.light, h.budget, h.event, h.boot, h.params, h.pump, h.frost, h.water⟩

/-- What a command on the water controller leaves of the other blocks, at its end. -/
theorem Ended.others {L : List Effect} {s t u : State} (h : Ended t u) (hacts : Acts L s t)
    (hzone : .writes .zone ∉ L := by decide) (hlight : ∀ e ∈ L, writesLight e = false := by decide)
    (hbudget : ∀ e ∈ L, rebases e = false := by decide) (hclear : .clearsCounters ∉ L := by decide) :
    zonesSame s u ∧ lightsSame s u ∧ budgetSame s u := by
  have hz := hacts.zonesSame hzone hclear
  have hl := hacts.lightsKept hlight
  have hb := hacts.budgetSame hbudget hclear
  unfold zonesSame lightsSame budgetSame
  rw [h.zone, h.light, h.budget]
  exact ⟨hz, hl, hb⟩

/-! ## The frost dwell (R103) -/

/-- The dwell runs only while its conditions hold. -/
def DwellFits (s : State) : Prop := s.water.frost.dwell.isSome = true → frostAtRisk s.water.frost = true

theorem frostAtRisk_evalDwell (f : Frost) : frostAtRisk (evalDwell f) = frostAtRisk f := rfl

theorem evalDwell_isSome (f : Frost) : (evalDwell f).dwell.isSome = true ↔ frostAtRisk f = true := by
  unfold evalDwell
  simp only
  split
  · next h => exact iff_of_true rfl h
  · next h => exact iff_of_false nofun h

theorem dwellFits_of_water {s t : State} (h : DwellFits s) (hw : t.water = s.water) : DwellFits t := by
  unfold DwellFits
  rw [hw]
  exact h

theorem dwellFits_handLoad (i : Fin 17) (ld : LoadState) {s : State} (h : DwellFits s) : DwellFits (handLoad i ld s) := by
  unfold DwellFits
  rw [handLoad_frost]
  split
  · exact (evalDwell_isSome _).mp
  · exact h

theorem LoadSteps.dwellFits {s t : State} (h : LoadSteps s t) (hs : DwellFits s) : DwellFits t := by
  induction h with
  | refl => exact hs
  | send t k p _ ih => exact dwellFits_of_water ih (sendTelegram_water k p t)
  | flag t w _ ih => exact dwellFits_of_water ih rfl
  | load t i r _ _ _ ih => exact dwellFits_handLoad _ _ (dwellFits_of_water ih (State.setBudget_water _ _))
  | cls t i c _ ih => exact dwellFits_of_water ih rfl
  | book t b _ _ _ _ ih => exact dwellFits_of_water ih rfl

theorem DwellFits.idle {s : State} (h : DwellFits s) (hrisk : frostAtRisk s.water.frost = false) : s.water.frost.dwell = none := by
  cases hd : s.water.frost.dwell with
  | none => rfl
  | some d => exact absurd ((h (by rw [hd]; rfl)).symm.trans hrisk) nofun

theorem frostAtRisk_of_open {f : Frost} (h : f.valveOpen = true) : frostAtRisk f = false := by
  unfold frostAtRisk
  rw [h]
  rfl

theorem frostAtRisk_of_warm {f : Frost} {x : Int} (h : f.temp = some x) (hx : 10 < x) : frostAtRisk f = false := by
  have hcold : frostCold f = false := by
    unfold frostCold
    rw [h]
    simp only
    rw [decide_eq_false (Int.not_le.mpr hx), Bool.and_false]
  unfold frostAtRisk
  rw [hcold, Bool.and_false]
  rfl

/-! ## The valve opens (R104) -/

/-- The valve open, its load ADMITTED and FROST-DUMP raised and counted, before the pump is evaluated. -/
def valveOpened (s : State) : State :=
  let s2 := raiseEvent .frostDump ((ask valveLoad s).setWater { (ask valveLoad s).water with
    frost := { (ask valveLoad s).water.frost with valveOpen := true, dwell := none } })
  s2.setWater { s2.water with frostDumps := countUp s2.water.frostDumps }

theorem openValve_eq (s : State) : openValve s = evalPump (valveOpened s) := rfl

theorem valveOpened_blocks (s : State) : (valveOpened s).budget = (ask valveLoad s).budget
    ∧ (valveOpened s).params = (ask valveLoad s).params
    ∧ (valveOpened s).water.pump = (ask valveLoad s).water.pump
    ∧ (valveOpened s).water.frost = { (ask valveLoad s).water.frost with valveOpen := true, dwell := none }
    ∧ waterFixed (valveOpened s).water = waterFixed { s.water with
        frost := { s.water.frost with valveOpen := true }, frostDumps := min 65535 (s.water.frostDumps + 1) }
    ∧ inSet (valveOpened s).event.flags .frostDump = true := by
  have hcore := (loadSteps_ask valveLoad s).frame.water
  unfold valveOpened
  generalize ask valveLoad s = a at hcore ⊢
  simp only [State.setWater_budget, State.setWater_params, State.setWater_water, State.setWater_event, raiseEvent_budget,
    raiseEvent_params, raiseEvent_water]
  refine ⟨trivial, trivial, trivial, trivial, ?_, inSet_raiseEvent _ _⟩
  simp only [waterCore, waterFixed, Prod.mk.injEq] at hcore ⊢
  obtain ⟨htanks, hpump, ⟨htemp, hfaulted, hdemand, _⟩, _, _, hdumps⟩ := hcore
  exact ⟨htanks, hpump, ⟨htemp, hfaulted, hdemand, trivial⟩, by rw [hdumps, countUp_eq_min]⟩

theorem acts_valveOpened (s : State) : Acts [.asks 14, .writes .water, .raises .frostDump] s (valveOpened s) := by
  have hask : Acts [.asks 14] s (ask valveLoad s) := LoadEvent.acts (.ask 14 s (by decide))
  have hopen : Acts [.asks 14, .writes .water] s ((ask valveLoad s).setWater { (ask valveLoad s).water with
      frost := { (ask valveLoad s).water.frost with valveOpen := true, dwell := none } }) :=
    hask.append (written_setWater _ _).acts
  exact (hopen.append (acts_raiseEvent .frostDump _) (N := [.asks 14, .writes .water, .raises .frostDump])).append
    (written_setWater _ _).acts

/-- The valve's load, at its rated current. -/
theorem valveOpened_load {s : State} (hb : BudgetOk s) : (valveOpened s).budget.loads[valveLoad].state = .admitted
    ∧ (valveOpened s).budget.loads[valveLoad].claim = s.budget.loads[valveLoad].rated := by
  have hok := (LoadEvent.acts (.ask valveLoad s (by decide))).budgetOk hb
  have hadmitted := valveLoad_admitted hb
  have hrated := (loadSteps_ask valveLoad s).frame.rated valveLoad
  rw [(valveOpened_blocks s).1]
  generalize ask valveLoad s = a at hok hadmitted hrated ⊢
  obtain ⟨⟨_, hclaim, _⟩, _⟩ := hok.1 valveLoad
  refine ⟨hadmitted, hclaim.trans ?_⟩
  rw [hadmitted]
  exact hrated

theorem valveLoad_evalPump {s : State} (hb : BudgetOk s) :
    (evalPump s).budget.loads[valveLoad] = s.budget.loads[valveLoad] :=
  ((acts_evalPump s).loadKept (i := valveLoad) (by decide)).1 (firm_of_unsheddable hb rfl)

/-! ## The valve closes (R106) -/

/-- The valve closed and its load released, before the pump is evaluated. -/
def valveClosed (s : State) : State :=
  checkDwell (release valveLoad (s.setWater { s.water with frost := { s.water.frost with valveOpen := false } }))

theorem closeValve_eq (s : State) : closeValve s = evalPump (valveClosed s) := rfl

theorem acts_valveClosed (s : State) : Acts [.writes .water, .asks 14] s (valveClosed s) := by
  have hrelease (t : State) : Acts [.asks 14] t (release valveLoad t) := LoadEvent.acts (.release 14 t)
  exact ((written_setWater s _).acts.append (hrelease _) : Acts [.writes .water, .asks 14] s _).append (acts_checkDwell _)

theorem valveClosed_blocks (s : State) : (valveClosed s).budget.loads[valveLoad].state = .off
    ∧ waterFixed (valveClosed s).water = waterFixed { s.water with frost := { s.water.frost with valveOpen := false } }
    ∧ (valveClosed s).water.pump.load = (release valveLoad (s.setWater { s.water with
        frost := { s.water.frost with valveOpen := false } })).water.pump.load
    ∧ DwellFits (valveClosed s) := by
  have hoff := release_state valveLoad (s.setWater { s.water with frost := { s.water.frost with valveOpen := false } })
  have hcore := (loadSteps_release valveLoad (s.setWater { s.water with
    frost := { s.water.frost with valveOpen := false } })).frame.water
  unfold valveClosed
  generalize release valveLoad (s.setWater { s.water with frost := { s.water.frost with valveOpen := false } }) = a at hoff hcore ⊢
  refine ⟨hoff, ?_, rfl, (evalDwell_isSome _).mp⟩
  exact waterFixed_of_waterCore (hcore : waterCore a.water = _)

theorem decideValveClose_eq (s : State) : decideValveClose s =
    if !s.params.water.frost then (s, .bare .notHosted)
    else if !s.water.frost.valveOpen then (s, .bare .done)
    else if frostWarm s.water.frost then (closeValve s, .bare .done)
    else (s, .bare .interlock) := rfl

theorem frostWarm_iff (f : Frost) : frostWarm f = true ↔ ∃ x : Int, f.temp = some x ∧ f.faulted = false ∧ 50 < x := by
  unfold frostWarm
  split
  · next x hx => simp [hx]
  · next hx => simp [hx]

/-- Settles O34, through the states that the opening and the closing leave before the pump is evaluated. -/
theorem dumpValveOpensOnFrostAndClosesWarm : Obligations.DumpValveOpensOnFrostAndClosesWarm := by
  refine ⟨fun s d hrun hdwell hd hbudget hmirror hok => ?_, fun s rq htakes => ⟨fun hnone => ?_, fun hhosted hclosed => ?_,
    fun hhosted hopen hcold => ?_, fun x hhosted hopen hgood htemp hx hbudget hmirror hok => ?_⟩⟩
  · have hm := mirrored_of_mirrorOk hmirror
    have hdue : reached Config.frostDwellMs s.water.frost.dwell = true := by
      rw [hdwell]
      exact decide_eq_true hd
    have hexec : exec .frostDwellExpiry s = .next (publish s (openValve s)) := effectWhen_of_due hrun hdue
    obtain ⟨hb, hp, hpump, hfrost, hwater, hflag⟩ := valveOpened_blocks s
    have hload := valveOpened_load hbudget
    have hacts := acts_openValve s
    have hend := hacts.ended
    have hwhole := acts_valveOpened s
    have hin := waterIn_openValve (s := s) ⟨hbudget, hm, hmirror.2.2.2.2, hok⟩
    have hbudgetOk := hwhole.budgetOk hbudget
    rw [hexec]
    rw [openValve_eq] at hacts hend hin ⊢
    generalize valveOpened s = m at hb hp hpump hfrost hwater hflag hload hacts hend hwhole hbudgetOk hin ⊢
    have hsteps := loadSteps_evalPump m
    have hvalve := valveLoad_evalPump hbudgetOk
    have hevent : (evalPump m).event = m.event := (acts_evalPump m).eventKept (by decide)
    have hfits : DwellFits m := fun h => by rw [hfrost] at h; cases h
    have hfits' := hsteps.dwellFits hfits
    have hfixed : waterFixed (evalPump m).water = _ := (waterFixed_of_waterCore hsteps.frame.water).trans hwater
    generalize evalPump m = u at hacts hend hin hvalve hevent hfits' hfixed ⊢
    have hopened : u.water.frost.valveOpen = true := by
      simp only [waterFixed, Prod.mk.injEq] at hfixed
      obtain ⟨_, _, ⟨_, _, _, h⟩, _⟩ := hfixed
      exact h
    have hpumpOff : u.water.pump.load = .off := by
      refine hin.pump.1 (.inl ?_)
      unfold pumpBlocked
      rw [(otherPumpBlock_iff u).mpr (.inr (.inr (.inr (.inr (.inl hopened))))), Bool.or_true]
    obtain ⟨hzones, hlights, hbudgets⟩ := hend.others hacts
    refine ⟨_, rfl, ?_, ?_, hend.water.trans hfixed, ?_, ?_, ?_, ?_, hzones, hlights, hbudgets⟩
    · rw [hend.budget]
      exact (congrArg LoadRecord.state hvalve).trans hload.1
    · rw [hend.budget]
      exact (congrArg LoadRecord.claim hvalve).trans hload.2
    · rw [hend.frost]
      exact hfits'.idle (frostAtRisk_of_open hopened)
    · rw [hend.event, hevent]
      exact hflag
    · rw [hend.budget]
      exact hin.mirrored.2.2.2.symm.trans hpumpOff
    · rw [hend.pump, hin.pump.2, hpumpOff]
      rfl
  · exact congrArg Host.Outcome.next (takeRequest_refused (d := decideValveClose) htakes
      ((decideValveClose_eq s).trans (if_pos (by rw [hnone]; rfl))))
  · exact congrArg Host.Outcome.next (takeRequest_refused (d := decideValveClose) htakes
      (((decideValveClose_eq s).trans (if_neg (by rw [hhosted]; nofun))).trans (if_pos (by rw [hclosed]; rfl))))
  · have hnot : ¬ frostWarm s.water.frost = true := fun h => by
      obtain ⟨x, hx, hgood, hwarm⟩ := (frostWarm_iff _).mp h
      rcases hcold with h | h | ⟨y, hy, hle⟩
      · exact absurd (hgood.symm.trans h) nofun
      · exact absurd (hx.symm.trans h) nofun
      · rw [hx] at hy
        cases hy
        omega
    exact congrArg Host.Outcome.next (takeRequest_refused (d := decideValveClose) htakes
      ((((decideValveClose_eq s).trans (if_neg (by rw [hhosted]; nofun))).trans (if_neg (by rw [hopen]; nofun))).trans
        (if_neg hnot)))
  · have hm := mirrored_of_mirrorOk hmirror
    have hwarm : frostWarm s.water.frost = true := (frostWarm_iff _).mpr ⟨x, htemp, hgood, hx⟩
    have hdec : decideValveClose s = (evalPump (valveClosed s), .bare .done) := by
      rw [decideValveClose_eq, if_neg (by rw [hhosted]; nofun), if_neg (by rw [hopen]; nofun), if_pos hwarm, closeValve_eq]
    have hacts := acts_decideValveClose s
    rw [hdec] at hacts
    have hreplied := takeRequest_replied (rq := rq) htakes hdec hacts (by decide)
    obtain ⟨l, hl⟩ := takeRequest_published (rq := rq) htakes hdec
    obtain ⟨hoff, hwater, _, hfits⟩ := valveClosed_blocks s
    have hwhole := acts_valveClosed s
    have hend := hacts.ended.setLine l
    have hexec : exec (.valveClose rq) s = .next (takeRequest rq decideValveClose s) := rfl
    rw [hexec]
    rw [hl] at hreplied ⊢
    generalize valveClosed s = m at hdec hacts hreplied hoff hwater hfits hwhole hend ⊢
    have hsteps := loadSteps_evalPump m
    have hbudgetOk := hwhole.budgetOk hbudget
    have hvalve := valveLoad_evalPump hbudgetOk
    have hpump := evalPump_off_iff (hwhole.mirrored hm)
    have hfits' := hsteps.dwellFits hfits
    have hblocked := hsteps.pumpBlocked_eq
    have hfixed : waterFixed (evalPump m).water = _ := (waterFixed_of_waterCore hsteps.frame.water).trans hwater
    obtain ⟨⟨_, hclaim, _⟩, _⟩ := hbudgetOk.1 valveLoad
    obtain ⟨hzones, hlights, hbudgets⟩ := hend.others hacts
    rw [hwhole.params] at hpump
    generalize evalPump m = u at hdec hacts hreplied hend hvalve hpump hfits' hblocked hfixed hzones hlights hbudgets ⊢
    generalize (publish s u).setLine l = t at hreplied hend hzones hlights hbudgets ⊢
    have htempAfter : u.water.frost.temp = some x := by
      simp only [waterFixed, Prod.mk.injEq] at hfixed
      obtain ⟨_, _, ⟨h, _⟩, _⟩ := hfixed
      exact h.trans htemp
    refine ⟨t, rfl, hreplied, hend.water.trans hfixed, ?_, ?_, ?_, fun hhosts hdemand hdry hother => ?_, hzones, hlights, hbudgets⟩
    · rw [hend.frost]
      exact hfits'.idle (frostAtRisk_of_warm htempAfter (by omega))
    · rw [hend.budget]
      exact (congrArg LoadRecord.state hvalve).trans hoff
    · rw [hend.budget]
      refine (congrArg LoadRecord.claim hvalve).trans (hclaim.trans ?_)
      rw [hoff]
      rfl
    · have hmwater := hwater
      simp only [waterFixed, Prod.mk.injEq] at hmwater
      obtain ⟨_, ⟨mdemand, _, mdry⟩, _⟩ := hmwater
      have hclear : pumpBlocked m = false := by
        have hblockedAfter : pumpBlocked t = pumpBlocked u := pumpBlocked_congr hend.water (congrArg Boot.storage hend.boot)
        have htdry : t.water.pump.dryLock = false := by
          have h := hend.water.trans hfixed
          simp only [waterFixed, Prod.mk.injEq] at h
          obtain ⟨_, ⟨_, _, h⟩, _⟩ := h
          exact h.trans hdry
        rw [← hblocked, ← hblockedAfter, pumpBlocked, htdry, hother]
        rfl
      rw [hend.budget]
      refine fun h => ((hpump hhosts).mp h).elim (fun h => ?_) fun h => ?_
      · exact absurd (hclear.symm.trans h) nofun
      · exact absurd (hdemand.symm.trans (mdemand.symm.trans h)) nofun

end Sys2Proof.Machine

/-! TANK_PERIOD (R89 to R93, R95, R100, R101, R103): the tanks read, and the frost record with its heater. -/

namespace Sys2Proof.Machine

-- As in the tests, so that no command needs threads of its own.
set_option Elab.async false

/-! ## The tanks (R89 to R93) -/

/-- A tank's record after a period: read if it is hosted. -/
def tankAfter (derive : Nat → TankState → TankState) (p : TankParams) (moving : Bool) (reading : Adc) (t : Tank) : Tank :=
  if p.hosted then readTank derive p.table moving reading t else t

theorem raiseIf_water (c : Prop) [Decidable c] (e : Event) (s : State) : (if c then raiseEvent e s else s).water = s.water := by
  split
  · exact raiseEvent_water e s
  · rfl

theorem readFresh_water (reading : Adc) (s : State) : (readFresh reading s).water
    = { s.water with fresh := tankAfter deriveFresh s.params.water.fresh s.water.moving reading s.water.fresh } := by
  unfold readFresh tankAfter
  simp only
  split
  · exact raiseIf_water _ _ _
  · rfl

theorem readGrey_water (reading : Adc) (s : State) : (readGrey reading s).water
    = { s.water with grey := tankAfter deriveWaste s.params.water.grey s.water.moving reading s.water.grey } := by
  unfold readGrey tankAfter
  simp only
  split
  · exact raiseIf_water _ _ _
  · rfl

theorem readBlack_water (reading : Adc) (s : State) : (readBlack reading s).water
    = { s.water with black := tankAfter deriveWaste s.params.water.black s.water.moving reading s.water.black } := by
  unfold readBlack tankAfter
  simp only
  split
  · exact raiseIf_water _ _ _
  · rfl

/-- The water controller after the readings of a period. -/
theorem tanksRead_eq (fresh grey black : Adc) (s : State) : (tanksRead fresh grey black s).water = { s.water with
    periodTimer := 0
    fresh := tankAfter deriveFresh s.params.water.fresh s.water.moving fresh s.water.fresh
    grey := tankAfter deriveWaste s.params.water.grey s.water.moving grey s.water.grey
    black := tankAfter deriveWaste s.params.water.black s.water.moving black s.water.black } := by
  have hfresh := readFresh_water fresh (s.setWater { s.water with periodTimer := 0 })
  have hp := (acts_readFresh fresh (s.setWater { s.water with periodTimer := 0 })).params
  unfold tanksRead
  generalize readFresh fresh (s.setWater { s.water with periodTimer := 0 }) = a at hfresh hp ⊢
  have hgrey := readGrey_water grey a
  have hp' := (acts_readGrey grey a).params
  generalize readGrey grey a = b at hgrey hp' ⊢
  rw [readBlack_water, hgrey, hp', hfresh, hp]
  rfl

theorem readFresh_flag {reading : Adc} {s : State} (hhosted : s.params.water.fresh.hosted = true)
    (h : enters s.water.fresh (readTank deriveFresh s.params.water.fresh.table s.water.moving reading s.water.fresh) .empty = true) :
    inSet (readFresh reading s).event.flags .tankEmpty = true := by
  unfold readFresh
  simp only
  rw [if_pos hhosted, if_pos h]
  exact inSet_raiseEvent _ _

theorem readGrey_flag {reading : Adc} {s : State} (hhosted : s.params.water.grey.hosted = true)
    (h : enters s.water.grey (readTank deriveWaste s.params.water.grey.table s.water.moving reading s.water.grey) .full = true) :
    inSet (readGrey reading s).event.flags .tankFull = true := by
  unfold readGrey
  simp only
  rw [if_pos hhosted, if_pos h]
  exact inSet_raiseEvent _ _

theorem readBlack_flag {reading : Adc} {s : State} (hhosted : s.params.water.black.hosted = true)
    (h : enters s.water.black (readTank deriveWaste s.params.water.black.table s.water.moving reading s.water.black) .full = true) :
    inSet (readBlack reading s).event.flags .tankFull = true := by
  unfold readBlack
  simp only
  rw [if_pos hhosted, if_pos h]
  exact inSet_raiseEvent _ _

/-- The alarm of a hosted tank that enters it, raised by the readings of a period (R92). -/
theorem tanksRead_flags (fresh grey black : Adc) (s : State) :
    (s.params.water.fresh.hosted = true →
      enters s.water.fresh (readTank deriveFresh s.params.water.fresh.table s.water.moving fresh s.water.fresh) .empty = true →
      inSet (tanksRead fresh grey black s).event.flags .tankEmpty = true)
    ∧ (s.params.water.grey.hosted = true →
      enters s.water.grey (readTank deriveWaste s.params.water.grey.table s.water.moving grey s.water.grey) .full = true →
      inSet (tanksRead fresh grey black s).event.flags .tankFull = true)
    ∧ (s.params.water.black.hosted = true →
      enters s.water.black (readTank deriveWaste s.params.water.black.table s.water.moving black s.water.black) .full = true →
      inSet (tanksRead fresh grey black s).event.flags .tankFull = true) := by
  have hfresh := readFresh_water fresh (s.setWater { s.water with periodTimer := 0 })
  have hp := (acts_readFresh fresh (s.setWater { s.water with periodTimer := 0 })).params
  have hflag := readFresh_flag (reading := fresh) (s := s.setWater { s.water with periodTimer := 0 })
  unfold tanksRead
  generalize readFresh fresh (s.setWater { s.water with periodTimer := 0 }) = a at hfresh hp hflag ⊢
  have hgrey := readGrey_water grey a
  have hp' := (acts_readGrey grey a).params
  have hacts := acts_readGrey grey a
  have hflag' := readGrey_flag (reading := grey) (s := a)
  rw [hfresh, hp] at hflag'
  generalize readGrey grey a = b at hgrey hp' hacts hflag' ⊢
  have hacts' := acts_readBlack black b
  have hflag'' := readBlack_flag (reading := black) (s := b)
  rw [hgrey, hp', hfresh, hp] at hflag''
  exact ⟨fun h he => hacts'.flags (by decide) (hacts.flags (by decide) (hflag h he)),
    fun h he => hacts'.flags (by decide) (hflag' h he), hflag''⟩

/-- What a period leaves of one tank, with its alarm (R89 to R93). -/
theorem tankAfter_spec {derive : Nat → TankState → TankState} {p : TankParams} {moving : Bool} {reading : Adc} {old : Tank}
    {alarm : TankState} {P : Prop} (hflag : p.hosted = true → enters old (readTank derive p.table moving reading old) alarm = true → P) :
    (p.hosted = false → tankAfter derive p moving reading old = old)
    ∧ (p.hosted = true → rawLevel p.table reading = none → tankAfter derive p moving reading old = { old with state := .fault })
    ∧ (p.hosted = true → ∀ raw : Nat, rawLevel p.table reading = some raw →
      (tankAfter derive p moving reading old).raw = some raw
      ∧ (tankAfter derive p moving reading old).filtered = some (filterAfter moving raw old.filtered)
      ∧ (tankAfter derive p moving reading old).state = (if moving then (if old.state = .fault then .normal else old.state)
          else derive (filterAfter moving raw old.filtered) (if old.state = .fault then .normal else old.state))
      ∧ ((tankAfter derive p moving reading old).state = alarm → old.state ≠ alarm → P)) := by
  refine ⟨fun h => if_neg (by rw [h]; nofun), fun h hnone => ?_, fun h raw hraw => ?_⟩
  · unfold tankAfter readTank
    rw [if_pos h, hnone]
  · have hentered : (tankAfter derive p moving reading old).state = alarm → old.state ≠ alarm → P := by
      unfold tankAfter
      rw [if_pos h]
      exact fun hst hne => hflag h (Bool.and_eq_true_iff.mpr ⟨beq_iff_eq.mpr hst, bne_iff_ne.mpr hne⟩)
    have hread : tankAfter derive p moving reading old =
        { raw := some raw
          filtered := some (filterAfter moving raw old.filtered)
          state := if moving then stateBefore old else derive (filterAfter moving raw old.filtered) (stateBefore old) } := by
      unfold tankAfter readTank
      rw [if_pos h, hraw]
    rw [hread] at hentered ⊢
    exact ⟨rfl, rfl, rfl, hentered⟩

/-! ## The frost record (R100, R101, R103) -/

theorem loadSteps_demandHeater (s : State) : LoadSteps s (demandHeater s) := by
  unfold demandHeater
  simp only
  split
  · exact loadSteps_ask _ _
  · split
    · exact loadSteps_release _ _
    · exact .refl

theorem demandHeater_off_iff {s : State} (h : s.water.frost.load = s.budget.loads[heaterLoad].state) :
    (demandHeater s).budget.loads[heaterLoad].state = .off ↔ s.water.frost.demand = false := by
  unfold demandHeater
  simp only
  rw [h]
  split
  · next hask => exact iff_of_false (ask_state_ne_off _ _) (by rw [hask.1]; nofun)
  · next hask =>
    split
    · next hrelease => exact iff_of_true (release_state _ _) (Bool.eq_false_iff.mpr hrelease.1)
    · next hrelease =>
      refine ⟨fun hoff => Bool.eq_false_iff.mpr fun hd => hask ⟨hd, hoff⟩, fun hd => ?_⟩
      by_contra hoff
      exact hrelease ⟨by rw [hd]; nofun, hoff⟩

/-- The frost record after a temperature reading of a hosted frost function. -/
theorem readFrost_frost {s : State} (h : s.params.water.frost = true) (reading : Adc) :
    ∃ f : Frost, (readFrost reading s).water.frost = evalDwell f
      ∧ f.temp = (convertTemp s.params.tempTable reading).or s.water.frost.temp
      ∧ f.faulted = (convertTemp s.params.tempTable reading).isNone
      ∧ f.demand = demandAfter (convertTemp s.params.tempTable reading) s.water.frost.demand
      ∧ f.valveOpen = s.water.frost.valveOpen := by
  have hcore := (loadSteps_demandHeater (s.setWater { s.water with
    frost := frostRead (convertTemp s.params.tempTable reading) s.water.frost })).frame.water
  unfold readFrost
  rw [if_pos h]
  generalize demandHeater (s.setWater { s.water with
    frost := frostRead (convertTemp s.params.tempTable reading) s.water.frost }) = a at hcore ⊢
  simp only [waterCore, Prod.mk.injEq] at hcore
  obtain ⟨_, _, ⟨htemp, hfaulted, hdemand, hvalve⟩, _⟩ := hcore
  exact ⟨a.water.frost, rfl, htemp, hfaulted, hdemand, hvalve⟩

/-- A temperature reading leaves the tanks, the pump's own fields and the valve (R100). -/
theorem readFrost_others (reading : Adc) (s : State) :
    (readFrost reading s).water.fresh = s.water.fresh ∧ (readFrost reading s).water.grey = s.water.grey
    ∧ (readFrost reading s).water.black = s.water.black ∧ (readFrost reading s).water.periodTimer = s.water.periodTimer
    ∧ pumpBlocked (readFrost reading s) = pumpBlocked s := by
  unfold readFrost
  split
  · have hframe := (loadSteps_demandHeater (s.setWater { s.water with
      frost := frostRead (convertTemp s.params.tempTable reading) s.water.frost })).frame
    have hcore := hframe.water
    have hboot := hframe.boot
    generalize demandHeater (s.setWater { s.water with
      frost := frostRead (convertTemp s.params.tempTable reading) s.water.frost }) = a at hcore hboot ⊢
    simp only [waterCore, Prod.mk.injEq] at hcore
    obtain ⟨⟨hfresh, hgrey, hblack, hperiod, _, hpeer⟩, ⟨_, hdisabled, hdry⟩, ⟨_, _, _, hvalve⟩, _⟩ := hcore
    refine ⟨hfresh, hgrey, hblack, hperiod, ?_⟩
    have hvalve' : (checkDwell a).water.frost.valveOpen = s.water.frost.valveOpen := hvalve
    have hwater : (checkDwell a).water.fresh = s.water.fresh ∧ (checkDwell a).water.grey = s.water.grey
        ∧ (checkDwell a).water.peerGreyFull = s.water.peerGreyFull ∧ (checkDwell a).water.pump.disabled = s.water.pump.disabled
        ∧ (checkDwell a).water.pump.dryLock = s.water.pump.dryLock ∧ (checkDwell a).boot = s.boot :=
      ⟨hfresh, hgrey, hpeer, hdisabled, hdry, hboot⟩
    obtain ⟨h1, h2, h3, h4, h5, h6⟩ := hwater
    unfold pumpBlocked otherPumpBlock anyGreyFull
    rw [h1, h2, h3, h4, h5, h6, hvalve']
  · exact ⟨rfl, rfl, rfl, rfl, rfl⟩

theorem readFrost_of_none {s : State} (h : s.params.water.frost = false) (reading : Adc) : readFrost reading s = s :=
  if_neg (by rw [h]; nofun)

/-- The heater's load after a temperature reading: OFF exactly without demand (R101). -/
theorem readFrost_off_iff {s : State} (h : s.params.water.frost = true) (hm : Mirrored s) (reading : Adc) :
    (readFrost reading s).budget.loads[heaterLoad].state = .off ↔ (readFrost reading s).water.frost.demand = false := by
  have hoff := demandHeater_off_iff (s := s.setWater { s.water with
    frost := frostRead (convertTemp s.params.tempTable reading) s.water.frost }) hm.2.2.1
  have hcore := (loadSteps_demandHeater (s.setWater { s.water with
    frost := frostRead (convertTemp s.params.tempTable reading) s.water.frost })).frame.water
  unfold readFrost
  rw [if_pos h]
  generalize demandHeater (s.setWater { s.water with
    frost := frostRead (convertTemp s.params.tempTable reading) s.water.frost }) = a at hoff hcore ⊢
  simp only [waterCore, Prod.mk.injEq] at hcore
  obtain ⟨_, _, ⟨_, _, hdemand, _⟩, _⟩ := hcore
  refine Iff.trans hoff ?_
  rw [← hdemand]
  rfl

/-- The conditions of the dwell after a good reading (R103). -/
theorem frostAtRisk_of_good {f : Frost} {x : Int} (htemp : f.temp = some x) (hgood : f.faulted = false) :
    frostAtRisk f = true ↔ x ≤ 10 ∧ f.valveOpen = false ∧ f.load ≠ .admitted := by
  have hcold : frostCold f = decide (x ≤ 10) := by
    unfold frostCold
    rw [htemp, hgood]
    exact Bool.true_and _
  unfold frostAtRisk
  rw [hcold, Bool.and_eq_true, Bool.and_eq_true, Bool.not_eq_true', decide_eq_true_eq, bne_iff_ne, and_comm (a := f.valveOpen = false),
    and_assoc]

/-! ## The period -/

/-- The state after the readings and the pump's evaluation, before the temperature (R89, R95). -/
def pumpFollowed (fresh grey black : Adc) (s : State) : State :=
  if tankStateChanged s.water (tanksRead fresh grey black s).water then evalPump (tanksRead fresh grey black s)
  else tanksRead fresh grey black s

theorem acts_pumpFollowed (fresh grey black : Adc) (s : State) :
    Acts [.writes .water, .raises .tankEmpty, .raises .tankFull, .asks 13] s (pumpFollowed fresh grey black s) := by
  have hacts := acts_tanksRead fresh grey black s
  unfold pumpFollowed
  split
  · exact hacts.append (acts_evalPump _)
  · exact hacts.mono (by decide)

theorem pumpFollowed_core (fresh grey black : Adc) (s : State) :
    waterCore (pumpFollowed fresh grey black s).water = waterCore (tanksRead fresh grey black s).water := by
  unfold pumpFollowed
  split
  · exact (loadSteps_evalPump _).frame.water
  · rfl

theorem exec_tankPeriod {s : State} (fresh grey black temp : Adc) (hrun : s.running = true) (hdue : 1000 ≤ s.water.periodTimer) :
    exec (.tankPeriod fresh grey black temp) s = .next (publish s (tankPeriodOf fresh grey black temp s)) :=
  effectWhen_of_due hrun (decide_eq_true hdue)

theorem tankPeriodOf_followed (fresh grey black temp : Adc) (s : State) :
    tankPeriodOf fresh grey black temp s = readFrost temp (pumpFollowed fresh grey black s) := rfl

/-- The tanks, the pump's demand and the frost record before the temperature is read. -/
theorem pumpFollowed_water (fresh grey black : Adc) (s : State) :
    (pumpFollowed fresh grey black s).water.periodTimer = 0
    ∧ (pumpFollowed fresh grey black s).water.fresh
        = tankAfter deriveFresh s.params.water.fresh s.water.moving fresh s.water.fresh
    ∧ (pumpFollowed fresh grey black s).water.grey = tankAfter deriveWaste s.params.water.grey s.water.moving grey s.water.grey
    ∧ (pumpFollowed fresh grey black s).water.black = tankAfter deriveWaste s.params.water.black s.water.moving black s.water.black
    ∧ (pumpFollowed fresh grey black s).water.frost.temp = s.water.frost.temp
    ∧ (pumpFollowed fresh grey black s).water.frost.demand = s.water.frost.demand
    ∧ (pumpFollowed fresh grey black s).water.frost.valveOpen = s.water.frost.valveOpen := by
  have hcore := pumpFollowed_core fresh grey black s
  rw [tanksRead_eq] at hcore
  generalize pumpFollowed fresh grey black s = u at hcore ⊢
  simp only [waterCore, Prod.mk.injEq] at hcore
  obtain ⟨⟨hfresh, hgrey, hblack, hperiod, _⟩, _, ⟨htemp, _, hdemand, hvalve⟩, _⟩ := hcore
  exact ⟨hperiod, hfresh, hgrey, hblack, htemp, hdemand, hvalve⟩

/-- The pump's load after the readings: by blocks and demand where the fresh or grey state changed, and as it was
elsewhere (R95). -/
theorem pumpFollowed_off_iff {s : State} (hm : Mirrored s) (fresh grey black : Adc) :
    (s.params.water.pump = true → tankStateChanged s.water (tanksRead fresh grey black s).water = true →
      ((pumpFollowed fresh grey black s).budget.loads[pumpLoad].state = .off
        ↔ pumpBlocked (pumpFollowed fresh grey black s) = true ∨ s.water.pump.demand = false))
    ∧ (s.params.water.pump = false ∨ tankStateChanged s.water (tanksRead fresh grey black s).water = false →
      ((pumpFollowed fresh grey black s).budget.loads[pumpLoad].state = .off ↔ s.budget.loads[pumpLoad].state = .off)) := by
  have hacts := acts_tanksRead fresh grey black s
  obtain ⟨hpump, _⟩ := tanksRead_water fresh grey black s
  have hkept := hacts.loadKept (i := pumpLoad) (by decide)
  unfold pumpFollowed
  generalize tanksRead fresh grey black s = u at hacts hpump hkept
  refine ⟨fun hp hchanged => ?_, fun hnone => ?_⟩
  · rw [if_pos hchanged, (loadSteps_evalPump u).pumpBlocked_eq, ← hpump]
    exact evalPump_off_iff (hacts.mirrored hm) (by rw [hacts.params]; exact hp)
  · have hsame : (if tankStateChanged s.water u.water then evalPump u else u) = u := by
      split
      · next hchanged =>
        refine if_pos ?_
        rw [hacts.params, hnone.resolve_right (by rw [hchanged]; nofun)]
        rfl
      · rfl
    rw [hsame]
    exact hkept.off_iff

theorem tankStateChanged_iff (v w : Water) : tankStateChanged v w = true
    ↔ w.fresh.state ≠ v.fresh.state ∨ w.grey.state ≠ v.grey.state := by
  unfold tankStateChanged
  rw [Bool.or_eq_true, bne_iff_ne, bne_iff_ne]
  exact or_congr ne_comm ne_comm

theorem flags_tankPeriodOf {fresh grey black : Adc} {s : State} {e : Event} (temp : Adc)
    (h : inSet (tanksRead fresh grey black s).event.flags e = true) :
    inSet (tankPeriodOf fresh grey black temp s).event.flags e = true := by
  rw [tankPeriodOf_eq]
  generalize tanksRead fresh grey black s = r at h
  refine (acts_readFrost temp _).flags (by decide) ?_
  split
  · exact (acts_evalPump r).flags (by decide) h
  · exact h

/-- Settles O32, through the tanks read, the pump evaluated, and the temperature read. -/
theorem tankPeriodReadsTanksAndFrost : Obligations.TankPeriodReadsTanksAndFrost := by
  intro s fresh grey black temp hrun hdue
  have hacts := acts_tankPeriodOf fresh grey black temp s
  have hend := hacts.ended
  have hfollowed := acts_pumpFollowed fresh grey black s
  obtain ⟨hperiod, hfresh, hgrey, hblack, htemp, hdemand, hvalve⟩ := pumpFollowed_water fresh grey black s
  obtain ⟨hflagFresh, hflagGrey, hflagBlack⟩ := tanksRead_flags fresh grey black s
  have hflags := fun e => flags_tankPeriodOf (fresh := fresh) (grey := grey) (black := black) (s := s) (e := e) temp
  have hchanged := tankStateChanged_iff s.water (tanksRead fresh grey black s).water
  have hpumpOff := fun hm => pumpFollowed_off_iff (s := s) hm fresh grey black
  have hsame : (tanksRead fresh grey black s).water.fresh = (pumpFollowed fresh grey black s).water.fresh
      ∧ (tanksRead fresh grey black s).water.grey = (pumpFollowed fresh grey black s).water.grey := by
    rw [hfresh, hgrey, tanksRead_eq]
    exact ⟨rfl, rfl⟩
  rw [hsame.1, hsame.2] at hchanged
  rw [exec_tankPeriod fresh grey black temp hrun hdue]
  rw [tankPeriodOf_followed] at hacts hend hflags ⊢
  generalize tanksRead fresh grey black s = r at hflagFresh hflagGrey hflagBlack hflags hchanged hpumpOff
  generalize pumpFollowed fresh grey black s = u
    at hacts hend hfollowed hperiod hfresh hgrey hblack htemp hdemand hvalve hflags hchanged hpumpOff ⊢
  obtain ⟨ofresh, ogrey, oblack, operiod, oblocked⟩ := readFrost_others temp u
  have hfrost := fun h => readFrost_frost (s := u) h temp
  have hnone := fun h => readFrost_of_none (s := u) h temp
  have hheater := fun h hm => readFrost_off_iff (s := u) h hm temp
  have hlate := ((acts_readFrost temp u).loadKept (i := pumpLoad) (by decide)).off_iff
  rw [hfollowed.params] at hfrost hnone hheater
  generalize readFrost temp u = v at hacts hend hflags ofresh ogrey oblack operiod oblocked hfrost hnone hheater hlate ⊢
  generalize publish s v = t at hend ⊢
  have hwater := hend.water
  simp only [waterFixed, Prod.mk.injEq] at hwater
  obtain ⟨⟨tfresh, tgrey, tblack, tperiod, _⟩, _⟩ := hwater
  refine ⟨t, rfl, tperiod.trans (operiod.trans hperiod), fun p reading old new derive alarm raised hcase => ?_, fun hn => ?_,
    fun hh => ?_, fun hbudget hmirror hok => ⟨fun hh => ?_, fun hp hch => ?_, fun hsames => ?_⟩⟩
  · rw [hend.event]
    rcases hcase with ⟨rfl, rfl, rfl, rfl, rfl, rfl, rfl⟩ | ⟨rfl, rfl, rfl, rfl, rfl, rfl, rfl⟩ | ⟨rfl, rfl, rfl, rfl, rfl, rfl, rfl⟩
    · rw [tfresh.trans (ofresh.trans hfresh)]
      exact tankAfter_spec fun h he => hflags _ (hflagFresh h he)
    · rw [tgrey.trans (ogrey.trans hgrey)]
      exact tankAfter_spec fun h he => hflags _ (hflagGrey h he)
    · rw [tblack.trans (oblack.trans hblack)]
      exact tankAfter_spec fun h he => hflags _ (hflagBlack h he)
  · rw [hend.frost, hnone hn]
    exact ⟨htemp, hdemand⟩
  · obtain ⟨f, hf, ftemp, ffaulted, fdemand, fvalve⟩ := hfrost hh
    rw [hend.frost, hf]
    rw [htemp] at ftemp
    rw [hdemand] at fdemand
    refine ⟨fun hconv => ?_, fun x hconv => ?_⟩
    · rw [hconv] at ftemp ffaulted fdemand
      have hcold : frostCold f = false := by
        unfold frostCold
        rw [ffaulted]
        split <;> rfl
      have hrisk : frostAtRisk f = false := by
        unfold frostAtRisk
        rw [hcold, Bool.and_false]
        rfl
      refine ⟨ftemp, ffaulted, fdemand, ?_⟩
      exact if_neg (by rw [hrisk]; nofun)
    · rw [hconv] at ftemp ffaulted fdemand
      refine ⟨ftemp, ffaulted, fdemand, (evalDwell_isSome f).trans ?_⟩
      exact frostAtRisk_of_good ftemp ffaulted
  · rw [hend.budget, hend.frost]
    exact hheater hh (hfollowed.mirrored (mirrored_of_mirrorOk hmirror))
  · have hblockedAfter : pumpBlocked t = pumpBlocked v := pumpBlocked_congr hend.water (congrArg Boot.storage hend.boot)
    rw [tfresh, tgrey, ofresh, ogrey] at hch
    rw [hend.budget, hblockedAfter, oblocked]
    exact hlate.trans ((hpumpOff (mirrored_of_mirrorOk hmirror)).1 hp (hchanged.mpr hch))
  · rw [tfresh, tgrey, ofresh, ogrey] at hsames
    rw [hend.budget]
    refine hlate.trans ((hpumpOff (mirrored_of_mirrorOk hmirror)).2 (hsames.imp_right fun ⟨h1, h2⟩ => ?_))
    exact Bool.eq_false_iff.mpr fun h => (hchanged.mp h).elim (fun h => h h1) fun h => h h2

end Sys2Proof.Machine

/-! The start of the blocks (R186 to R189): what a passing record leaves of the start-up block, the budget unit and
the line. -/

namespace Sys2Proof.Machine

-- As in the tests, so that no command needs threads of its own.
set_option Elab.async false

/-! ## The reads of the record (R186) -/

theorem length_of_recordPasses {bytes : List Byte} (h : recordPasses bytes = true) : bytes.length = 256 := by
  unfold recordPasses at h
  simp only [Bool.and_eq_true, beq_iff_eq] at h
  obtain ⟨⟨⟨⟨⟨⟨hlength, _⟩, _⟩, _⟩, _⟩, _⟩, _⟩ := h
  exact hlength

/-- A passing record that comes in starts the blocks with its parameters. -/
theorem exec_of_recordComesIn {c : Instr} {bytes : List Byte} {inputs : StartInputs} {s : State}
    (hpasses : recordPasses bytes = true) (h : RecordComesIn c bytes inputs s) :
    s.running = false ∧ exec c s = .next (startBlocks bytes true inputs s) := by
  have hlength := length_of_recordPasses hpasses
  have hstart : startWithRecord bytes inputs s = startBlocks bytes true inputs s := by
    unfold startWithRecord
    rw [hpasses]
  rcases h with ⟨rfl, hphase, htimer⟩ | ⟨rfl, hphase, hwait, htimer⟩
  · refine ⟨by simp [State.running, hphase], congrArg Host.Outcome.next ((if_pos hphase).trans (Eq.trans (if_pos ?_) hstart))⟩
    rw [readInTime, hlength]
    exact decide_eq_true htimer
  · refine ⟨by simp [State.running, hphase],
      congrArg Host.Outcome.next ((if_pos ⟨hphase, hwait⟩).trans (Eq.trans (if_pos ?_) hstart))⟩
    rw [readInTime, hlength]
    exact decide_eq_true htimer

/-! ## What the start keeps -/

theorem LoadEvent.gateOpen {e : Effect} {s t : State} (h : LoadEvent e s t) (he : e ≠ .opensGate) :
    t.budget.gateOpen = s.budget.gateOpen := by
  have hsteps {x y : State} (k : LoadSteps x y) : y.budget.gateOpen = x.budget.gateOpen := by
    obtain ⟨_, _, _, _, _, _, _, _, hgate⟩ := k.frame.basis
    exact hgate
  cases h with
  | ask i _ _ => exact hsteps (loadSteps_ask i s)
  | release i => exact hsteps (loadSteps_release i s)
  | askRetraction a => exact hsteps (loadSteps_askRetraction _ s)
  | askExtension a => exact hsteps (loadSteps_askExtension _ s)
  | ownBank o => exact (hsteps (loadSteps_reevaluate s.budget (s.setBudget { s.budget with ownBank := some o }))).trans rfl
  | quantities banks supply known sums =>
    exact (hsteps (loadSteps_reevaluate s.budget (s.setBudget { s.budget with
      peerBanks := banks, supplySum := supply, supplyKnown := known, claimSums := sums }))).trans rfl
  | dwell => exact hsteps (loadSteps_dwellExpires s)
  | hold i _ _ => exact hsteps (loadSteps_holdExpires i s)
  | gate => exact absurd rfl he
  | claim => exact hsteps (loadSteps_queueClaim s)

/-- The gate is opened by its own act only (R50). -/
theorem Acts.gateOpen {L : List Effect} {s t : State} (h : Acts L s t) (hL : .opensGate ∉ L := by decide)
    (hclear : .clearsCounters ∉ L := by decide) : t.budget.gateOpen = s.budget.gateOpen :=
  h.keeps (fun x => x.budget.gateOpen) hclear (fun _ _ _ he k => k.gateOpen fun h' => hL (h' ▸ he))
    (fun k p x => by rw [sendTelegram_budget]) (fun e x => by rw [raiseEvent_budget]) (fun _ _ _ _ k => by rw [k.budget])

/-- The mask of the events is written with the event unit only (R179). -/
theorem Acts.mask {L : List Effect} {s t : State} (h : Acts L s t) (hL : .writes .event ∉ L := by decide)
    (hclear : .clearsCounters ∉ L := by decide) : t.event.mask = s.event.mask := by
  refine h.keeps (fun x => x.event.mask) hclear (fun _ _ _ _ k => ?_) (fun k p x => ?_)
    (fun e x => (loadSteps_raiseEvent e x).frame.mask) fun _ _ _ hbs k => ?_
  · obtain ⟨m, ⟨b, rfl, _⟩, hsteps⟩ := k.rebased_steps
    exact hsteps.frame.mask
  · rw [sendTelegram_event]
  · exact congrArg EventUnit.mask (k.frame .event fun hmem => hL (hbs _ hmem))

/-! ## A CLAIM on a line that begins no frame (R162, R166) -/

/-- No frame begins, and a CLAIM waits. -/
def ClaimWaits (l : Line) : Prop := l.idle = false ∧ ∃ e ∈ l.queue, e.telegram.kind = .claim

theorem isStatus_of_oldestStatus {q : List TxEntry} {old : TxEntry} (h : oldestStatus q = some old) :
    isStatus old.telegram.kind = true := by
  by_cases hex : ∃ e ∈ q, isStatus e.telegram.kind = true
  · obtain ⟨o, ho, _, hstatus, _⟩ := isOldestStatus_oldestStatus hex
    rw [h] at ho
    cases ho
    exact hstatus
  · have hnone : ∀ e ∈ q, isStatus e.telegram.kind = false := fun e he =>
      Bool.eq_false_iff.mpr fun hs => hex ⟨e, he, hs⟩
    rw [oldestStatus_eq_none hnone] at h
    cases h

/-- No line of the transmit queue's table drops a CLAIM that waits. -/
theorem claimWaits_enqueue {l : Line} {x : TxEntry} (h : ClaimWaits l) : ClaimWaits (enqueue l x) := by
  obtain ⟨hidle, e, he, hkind⟩ := h
  unfold enqueue
  split
  · refine ⟨hidle, if e.telegram.kind = x.telegram.kind then { telegram := x.telegram, age := e.age, attempts := e.attempts }
      else e, ?_, ?_⟩
    · simp only
      rw [replaceContent_eq]
      exact List.mem_map_of_mem he
    · split
      · next hsame => exact hsame.symm.trans hkind
      · exact hkind
  · split
    · exact ⟨hidle, e, he, hkind⟩
    · split
      · exact ⟨hidle, e, List.mem_append_left _ he, hkind⟩
      · split
        · split
          · next old hold =>
            have hne : e ≠ old := by
              rintro rfl
              have hstatus := isStatus_of_oldestStatus hold
              rw [hkind] at hstatus
              cases hstatus
            exact ⟨hidle, e, List.mem_append_left _ ((List.mem_erase_of_ne hne).mpr he), hkind⟩
          · exact ⟨hidle, e, he, hkind⟩
        · exact ⟨hidle, e, he, hkind⟩

theorem beginFrame_of_busy {l : Line} (h : l.idle = false) : beginFrame l = l := if_neg (by rw [h]; nofun)

theorem ClaimWaits.handed {own : Station} {l m : Line} (h : Handed own l m) (hl : ClaimWaits l) : ClaimWaits m := by
  induction h with
  | refl => exact hl
  | send m k p _ ih =>
    have htaken : ClaimWaits (takeTelegram m (telegramOf k own p)) := claimWaits_enqueue ⟨ih.1, ih.2⟩
    rw [beginFrame_of_busy htaken.1]
    exact htaken

theorem claimWaits_queueClaim {s : State} (hstation : s.boot.station ≠ 0#4) (hidle : s.line.idle = false)
    (hroom : s.line.queue.length < 8) : ClaimWaits (queueClaim s).line := by
  have hline : (queueClaim s).line
      = beginFrame (takeTelegram s.line (telegramOf .claim s.boot.station (claimPayload s))) := by
    unfold queueClaim
    rw [if_neg hstation, sendTelegram_of_configured (by exact hstation)]
    rfl
  have htaken : ClaimWaits (takeTelegram s.line (telegramOf .claim s.boot.station (claimPayload s))) := by
    unfold takeTelegram enqueue
    split
    · next hqueued =>
      obtain ⟨e, he, hkind⟩ := (queued_iff _ _).mp (Bool.and_eq_true_iff.mp hqueued).2
      have hwaits : ClaimWaits s.line := ⟨hidle, e, he, hkind⟩
      have h := claimWaits_enqueue (x := { telegram := telegramOf .claim s.boot.station (claimPayload s)
                                           age := s.line.nextAge, attempts := 0 }) hwaits
      unfold enqueue at h
      rw [if_pos (by exact hqueued)] at h
      exact h
    · split
      · next hstatus => exact absurd (Bool.and_eq_true_iff.mp hstatus).1 nofun
      · exact (if_pos hroom : _) ▸ ⟨hidle, _, List.mem_append_right _ (List.mem_singleton_self _), rfl⟩
  rw [hline, beginFrame_of_busy htaken.1]
  exact htaken

/-! ## The start, in the acts behind its first CLAIM and behind the bank monitor's start -/

/-- The acts behind the bank monitor's start. -/
def afterBankEffects : List Effect :=
  zoneStartEffects ++ tankEffects ++ (.raises .actuatorFault :: motionTelegramEffects) ++ lightEffects

theorem acts_afterBank (record : List Byte) (passed : Bool) (inputs : StartInputs) (s : State) :
    Acts afterBankEffects (bankStarted record passed inputs s) (startBlocks record passed inputs s) := by
  rw [startBlocks_eq, motionStarted, waterStarted, zonesStarted]
  refine Acts.append (L := afterBankEffects) ?_ (acts_handOwnStepOut _ _)
  refine Acts.append (L := afterBankEffects) ?_ (acts_startMotion _ _)
  refine Acts.append (L := afterBankEffects) ?_ (acts_startWater _ _)
  exact (acts_evalZones _ _).mono (by decide)

theorem acts_afterClaim (record : List Byte) (passed : Bool) (inputs : StartInputs) (s : State) :
    Acts startEffects (queueClaim (startProfile record passed s)) (startBlocks record passed inputs s) :=
  (acts_startBank inputs _).append (acts_afterBank record passed inputs s)

/-! ## What a passing record leaves (R15, R20, R66, R179, R189) -/

theorem evalRest_mark (p : BankParams) (b : Bank) : (evalRest p b).mark = b.mark := by
  unfold evalRest
  split <;> rfl

theorem formBattery_budget (p : BankParams) (s : State) : (formBattery p s).budget = s.budget := by
  unfold formBattery
  simp only
  split
  · rfl
  · exact sendTelegram_budget _ _ _

/-- Once the bank monitor has started the own bank is known, its mark set (R15, R20). -/
theorem bankKnown_startBank {s : State} {p : BankParams} (h : s.params.bank = some p) (inputs : StartInputs) :
    (startBank inputs s).bank.mark = some { cn := p.cn, letter := p.letter }
    ∧ (startBank inputs s).budget.ownBank
      = some { letter := p.letter, soc := (startBank inputs s).bank.soc, limit := p.limit } := by
  refine ⟨?_, ?_⟩
  · rw [startBank_bank h]
    exact evalRest_mark p _
  · rw [startBank_bank h, startBank_of_some h, formBattery_budget, finishSample_ownBank]
    rfl

theorem ownBank_of_fixed {b c : Budget} (h : budgetFixed b = budgetFixed c) : b.ownBank = c.ownBank :=
  congrArg (fun x => x.1.1) h

theorem bankKnown_startBlocks {record : List Byte} {passed : Bool} {inputs : StartInputs} {s : State} {p : BankParams}
    (h : (startBlocks record passed inputs s).params.bank = some p) :
    (startBlocks record passed inputs s).bank.mark = some { cn := p.cn, letter := p.letter }
    ∧ (startBlocks record passed inputs s).budget.ownBank
      = some { letter := p.letter, soc := (startBlocks record passed inputs s).bank.soc, limit := p.limit } := by
  have hacts := acts_afterBank record passed inputs s
  have hknown : (queueClaim (startProfile record passed s)).params.bank = some p := by
    rw [hacts.params, bankStarted, (acts_startBank inputs _).params] at h
    exact h
  obtain ⟨hmark, hown⟩ := bankKnown_startBank hknown inputs
  obtain ⟨hfixed, _⟩ := hacts.budgetSame
  rw [hacts.bank (by decide), ownBank_of_fixed hfixed]
  exact ⟨hmark, hown⟩

theorem countKind_pos {q : List TxEntry} {k : Kind} {e : TxEntry} (he : e ∈ q) (hk : e.telegram.kind = k) :
    1 ≤ countKind q k :=
  List.length_pos_of_mem (List.mem_filter.mpr ⟨he, beq_iff_eq.mpr hk⟩)

theorem lineOk_of_reset {s : State} (h : s.line = Line.reset) : LineOk s := by
  unfold LineOk
  rw [h]
  exact ⟨by decide, by decide, by decide, fun _ => ⟨rfl, rfl⟩⟩

/-- After the start of a configured station one CLAIM waits (R66). -/
theorem one_claim_startBlocks {record : List Byte} {inputs : StartInputs} {s : State}
    (hline : s.line = Line.reset) (hstation : s.boot.station ≠ 0#4) :
    countKind (startBlocks record true inputs s).line.queue .claim = 1 := by
  have hprofile : startProfile record true s = settledState record true s := rfl
  have hfirst : ClaimWaits (queueClaim (startProfile record true s)).line := by
    rw [hprofile]
    refine claimWaits_queueClaim (s := settledState record true s) hstation ?_ ?_
    · exact congrArg Line.idle hline
    · exact (congrArg (fun l : Line => l.queue.length) hline).trans_lt (by decide)
  obtain ⟨hhanded, _⟩ := (acts_afterClaim record true inputs s).lineHanded (by decide)
  obtain ⟨_, e, he, hkind⟩ := hfirst.handed hhanded
  obtain ⟨_, hmost, _⟩ := (acts_startBlocks record true inputs s).lineOk (lineOk_of_reset (by exact hline))
  exact Nat.le_antisymm (hmost .claim (by decide)) (countKind_pos he hkind)

/-- Settles O13, over the acts of the start. -/
theorem passingRecordStartsEveryBlock : Obligations.PassingRecordStartsEveryBlock := by
  intro c bytes inputs s hquiet hpasses hin
  obtain ⟨hrun, hexec⟩ := exec_of_recordComesIn hpasses hin
  have hacts := acts_startBlocks bytes true inputs s
  obtain ⟨_, _, _, _, _, _, _, hline, _⟩ := hquiet hrun
  have hgate : (startBlocks bytes true inputs s).budget.gateOpen = false :=
    (hacts.gateOpen).trans (by rw [settledState_budget]; rfl)
  obtain ⟨hrecords, _⟩ := hacts.budgetOk (budgetOk_settledState bytes true s)
  refine ⟨_, hexec, (boot_of_acts hacts (by decide)).trans rfl, hacts.params.trans rfl, hacts.mask.trans rfl,
    hacts.peers.trans rfl, ((hacts.blockSame (b := .clock) (by decide)).1).trans rfl, hgate, fun i hcls => ?_,
    fun p hp => bankKnown_startBlocks hp, fun hstation => one_claim_startBlocks hline hstation, fun hstation => ?_⟩
  · obtain ⟨_, _, hclosed, _⟩ := hrecords i
    exact hclosed hgate hcls
  · exact ((hacts.lineHanded (by decide)).2 hstation).trans rfl

end Sys2Proof.Machine

/-! The start in the fallback profile (R186, R188): nothing is hosted, so the controllers only take their reset values. -/

namespace Sys2Proof.Machine

-- As in the tests, so that no command needs threads of its own.
set_option Elab.async false

/-! ## The controllers with nothing hosted -/

theorem fallback_zones (n : Fin 4) : Params.fallback.zones[n].hosted = false := by decide +revert

theorem fallback_channels (n : Fin 8) : Params.fallback.channels[n].hosted = false := by decide +revert

theorem evalZones_of_fallback {s : State} (h : s.params = Params.fallback) (readings : Vector Adc 4) :
    evalZones readings s = s.setZone { s.zone with periodTimer := 0 } := by
  have hnone : ∀ n : Fin 4, s.params.zones[n].hosted = false := fun n => by rw [h]; exact fallback_zones n
  rw [evalZones_eq, zonesEvaluated_of_noneHosted hnone]
  exact formClimate_of_none (s := s.setZone _) (.inr hnone)

theorem evalPump_of_fallback {s : State} (h : s.params = Params.fallback) : evalPump s = s :=
  if_pos (by rw [h]; rfl)

theorem readTanks_of_fallback {s : State} (h : s.params = Params.fallback) (fresh grey black : Adc) :
    readBlack black (readGrey grey (readFresh fresh s)) = s := by
  have hfresh : readFresh fresh s = s := if_neg (by rw [h]; nofun)
  have hgrey : readGrey grey s = s := if_neg (by rw [h]; nofun)
  rw [hfresh, hgrey]
  exact if_neg (by rw [h]; nofun)

theorem startWater_of_fallback {s : State} (h : s.params = Params.fallback) (inputs : StartInputs) :
    ∃ w : Water, startWater inputs s = s.setWater w := by
  have hperiod (u : State) (hu : u.params = Params.fallback) (fresh grey black temp : Adc) :
      tankPeriodOf fresh grey black temp u = u.setWater { u.water with periodTimer := 0 } := by
    unfold tankPeriodOf
    simp only
    rw [readTanks_of_fallback (by exact hu)]
    have hkept : ¬ tankStateChanged u.water (u.setWater { u.water with periodTimer := 0 }).water = true := by
      simp [tankStateChanged]
    rw [if_neg hkept]
    exact if_neg (by change ¬ u.params.water.frost = true; rw [hu]; nofun)
  unfold startWater
  simp only
  rw [hperiod _ (by exact h), evalPump_of_fallback (by exact h)]
  exact ⟨_, if_neg (by change ¬ (hostsWater s.params && _) = true; rw [h]; nofun)⟩

theorem startMotion_of_fallback {s : State} (h : s.params = Params.fallback) (inputs : StartInputs) :
    ∃ m : Motion, startMotion inputs s = s.setMotion m := by
  have hnone : hostedActs s.params = [] := by rw [h]; rfl
  have hforms : ¬ formsMotion s = true := by unfold formsMotion; rw [h]; nofun
  refine ⟨{ s.motion with
    pins := ⟨inputs.awningIn, inputs.awningOut, inputs.stepIn, inputs.stepOut⟩
    wind := { WindMeter.reset with silence := if s.params.wind.hosted then some 0 else none } }, ?_⟩
  unfold startMotion
  simp only
  rw [State.setMotion_params, hnone]
  exact if_neg hforms

theorem handOwnStepOut_of_fallback {s : State} (h : s.params = Params.fallback) (out : Bool) :
    handOwnStepOut out s = s.setLight { s.light with ownStepOut := out } :=
  List.foldl_fixed' (fun n => evalChannel_of_notHosted (by
    change s.params.channels[n].hosted = false
    rw [h]
    exact fallback_channels n)) _

/-- In the fallback profile the start leaves the controllers' blocks at most. -/
theorem startBlocks_of_fallback (record : List Byte) (inputs : StartInputs) (s : State) :
    ∃ (z : ZoneCtl) (w : Water) (m : Motion) (l : LightCtl), startBlocks record false inputs s
      = (((((queueClaim (raiseEvent .configFallback (settledState record false s))).setBank Bank.reset).setZone z).setWater
          w).setMotion m).setLight l := by
  rw [startBlocks_eq, motionStarted, waterStarted, zonesStarted, bankStarted]
  have hq : (queueClaim (startProfile record false s)).params = Params.fallback :=
    ((LoadEvent.acts (.claim _)).params.trans (acts_raiseEvent .configFallback _).params).trans rfl
  rw [startBank_of_none (by rw [hq]; rfl), evalZones_of_fallback (by exact hq)]
  generalize hu : State.setZone _ _ = u
  have hup : u.params = Params.fallback := by rw [← hu]; exact hq
  obtain ⟨w, hw⟩ := startWater_of_fallback hup inputs
  rw [hw]
  obtain ⟨m, hm⟩ := startMotion_of_fallback (s := u.setWater w) (by exact hup) inputs
  rw [hm, handOwnStepOut_of_fallback (s := (u.setWater w).setMotion m) (by exact hup), ← hu]
  exact ⟨_, w, m, _, rfl⟩

/-! ## What the fallback profile leaves (R188) -/

/-- The two telegrams of a start in the fallback profile, on a line that begins no frame. -/
theorem kinds_fallback (l : Line) (hl : l = Line.reset) (station : Station) (p q : List Byte) :
    (beginFrame (takeTelegram (beginFrame (takeTelegram l (telegramOf .alert station p)))
      (telegramOf .claim station q))).queue.map (fun e => e.telegram.kind) = [.alert, .claim] := by
  subst hl
  rfl

theorem countKind_eq_count (queue : List TxEntry) (k : Kind) :
    countKind queue k = (queue.map fun e => e.telegram.kind).count k := by
  rw [countKind, List.count, List.countP_map, List.countP_eq_length_filter]
  rfl

theorem queueClaim_budget (s : State) : (queueClaim s).budget.gateOpen = s.budget.gateOpen
    ∧ (queueClaim s).budget.budget = s.budget.budget ∧ (queueClaim s).budget.loads = s.budget.loads := by
  unfold queueClaim
  split
  · exact ⟨rfl, rfl, rfl⟩
  · rw [sendTelegram_budget]
    exact ⟨rfl, rfl, rfl⟩

theorem queueClaim_line {s : State} (h : s.boot.station ≠ 0#4) :
    (queueClaim s).line = beginFrame (takeTelegram s.line (telegramOf .claim s.boot.station (claimPayload s))) := by
  unfold queueClaim
  rw [if_neg h, sendTelegram_of_configured (by exact h)]
  rfl

/-- CONFIG-FALLBACK is set, and its ALERT queued beside the first CLAIM. -/
theorem claimed_fallback (record : List Byte) {s u : State} (hevent : s.event = EventUnit.reset)
    (hline : s.line = Line.reset) (hu : queueClaim (raiseEvent .configFallback (settledState record false s)) = u) :
    u.event = flagSet .configFallback EventUnit.reset
    ∧ u.budget.gateOpen = false ∧ u.budget.budget = 0
    ∧ (∀ i : Fin 17, u.budget.loads[i].state = .off ∧ u.budget.loads[i].claim = 0)
    ∧ (s.boot.station ≠ 0#4 → u.line.queue.map (fun e => e.telegram.kind) = [.alert, .claim]) := by
  subst hu
  have hsettled : (settledState record false s).event = EventUnit.reset := by
    change { s.event with mask := Params.fallback.mask } = EventUnit.reset
    rw [hevent]
    rfl
  have hclear : inSet (settledState record false s).event.flags .configFallback = false := by
    rw [hsettled]
    decide
  have hmask : inSet (settledState record false s).event.mask .configFallback = false := by
    rw [hsettled]
    decide
  obtain ⟨hgate, hbudget, hloads⟩ := queueClaim_budget (raiseEvent .configFallback (settledState record false s))
  rw [raiseEvent_budget] at hgate hbudget hloads
  refine ⟨?_, hgate.trans rfl, hbudget.trans rfl, fun i => ?_, fun hstation => ?_⟩
  · rw [queueClaim_event, raiseEvent_event_of_clear hclear, hsettled]
  · rw [hloads, settledState_budget, startedBudget_loads]
    exact ⟨rfl, rfl⟩
  · have hboot : (raiseEvent .configFallback (settledState record false s)).boot.station ≠ 0#4 := by
      rw [(acts_raiseEvent _ _).station]
      exact hstation
    have hraised := raiseEvent_line_of_unmasked (s := settledState record false s) hstation hclear hmask
    rw [queueClaim_line hboot, hraised]
    generalize claimPayload _ = p
    rw [(acts_raiseEvent .configFallback _).station]
    exact kinds_fallback _ hline _ _ _

/-- A record that fails its check, and a second read that fails, start the fallback profile (R186). -/
theorem exec_of_fallback {c : Instr} {bytes : List Byte} {inputs : StartInputs} {s : State}
    (h : c = .recordReadComplete (.completed bytes) inputs ∧ s.boot.phase = .reading
        ∧ s.boot.readTimer ≤ 50 ∧ bytes.length = 256 ∧ recordPasses bytes = false
      ∨ c = .recordReadRetry (.completed bytes) inputs ∧ s.boot.phase = .retryWait
        ∧ 10 ≤ s.boot.readTimer ∧ (recordPasses bytes = false ∨ 60 < s.boot.readTimer)
      ∨ c = .recordReadRetry .failed inputs ∧ s.boot.phase = .retryWait
        ∧ 10 ≤ s.boot.readTimer) :
    s.running = false ∧ ∃ record : List Byte, exec c s = .next (startBlocks record false inputs s) := by
  have hfails (hf : recordPasses bytes = false) : startWithRecord bytes inputs s = startBlocks bytes false inputs s := by
    unfold startWithRecord
    rw [hf]
  rcases h with ⟨rfl, hphase, htimer, hlength, hf⟩ | ⟨rfl, hphase, hwait, hf⟩ | ⟨rfl, hphase, hwait⟩
  · refine ⟨by simp [State.running, hphase], bytes,
      congrArg Host.Outcome.next ((if_pos hphase).trans (Eq.trans (if_pos ?_) (hfails hf)))⟩
    rw [readInTime, hlength]
    exact decide_eq_true htimer
  · refine ⟨by simp [State.running, hphase], ?_⟩
    by_cases hin : readInTime (Config.recordRetryMs + Config.recordReadMs) s.boot.readTimer bytes = true
    · have htimer : s.boot.readTimer ≤ 60 := of_decide_eq_true (Bool.and_eq_true_iff.mp hin).2
      refine ⟨bytes, congrArg Host.Outcome.next ((if_pos ⟨hphase, hwait⟩).trans (Eq.trans (if_pos hin) (hfails ?_)))⟩
      exact hf.resolve_right (by omega)
    · exact ⟨[], congrArg Host.Outcome.next ((if_pos ⟨hphase, hwait⟩).trans (if_neg hin))⟩
  · exact ⟨by simp [State.running, hphase], [], congrArg Host.Outcome.next (if_pos ⟨hphase, hwait⟩)⟩

theorem exec_of_firstReadFails {r : ReadResult} {inputs : StartInputs} {s : State} (hphase : s.boot.phase = .reading)
    (h : r = .failed ∨ ∃ bytes : List Byte, r = .completed bytes ∧ (bytes.length ≠ 256 ∨ 50 < s.boot.readTimer)) :
    exec (.recordReadComplete r inputs) s
      = .next { s with boot := { s.boot with phase := .retryWait, readTimer := 0 } } := by
  refine congrArg Host.Outcome.next ((if_pos hphase).trans ?_)
  rcases h with rfl | ⟨bytes, rfl, hlate⟩
  · rfl
  · refine (if_neg fun hin => ?_).trans rfl
    obtain ⟨hlength, htimer⟩ := Bool.and_eq_true_iff.mp hin
    have htimer : s.boot.readTimer ≤ 50 := of_decide_eq_true htimer
    exact hlate.elim (fun hne => hne (beq_iff_eq.mp hlength)) (by omega)

/-- Settles O12: a failed first read waits, and nothing is hosted in the fallback profile. -/
theorem failedReadsEndInTheFallbackProfile : Obligations.FailedReadsEndInTheFallbackProfile := by
  refine ⟨fun r inputs s hphase h => exec_of_firstReadFails hphase h, fun c bytes inputs s hquiet h => ?_⟩
  obtain ⟨hrun, record, hexec⟩ := exec_of_fallback h
  obtain ⟨_, _, _, _, _, _, _, hline, hevent⟩ := hquiet hrun
  have hacts := acts_startBlocks record false inputs s
  have hboot : _ = startedBoot s.boot record false := boot_of_acts hacts (by decide)
  have hparams := hacts.params
  obtain ⟨z, w, m, l, ht⟩ := startBlocks_of_fallback record inputs s
  obtain ⟨hunit, hgate, hbudget, hloads, hkinds⟩ := claimed_fallback record hevent hline rfl
  rw [ht] at hboot hparams
  refine ⟨_, hexec, ?_⟩
  rw [ht]
  generalize queueClaim (raiseEvent .configFallback (settledState record false s)) = u
    at hunit hgate hbudget hloads hkinds hboot hparams ⊢
  refine ⟨congrArg Boot.phase hboot, congrArg Boot.passed hboot, congrArg Boot.stage hboot, congrArg Boot.listenTimer hboot,
    (congrArg Boot.station hboot).trans rfl, (congrArg Boot.storage hboot).trans rfl, hparams, rfl, congrArg EventUnit.mask hunit, fun e => ?_,
    hgate, hbudget, hloads, fun hstation => ?_⟩
  · change inSet u.event.flags e = true ↔ e = .configFallback
    rw [hunit, inSet_flagSet, Bool.or_eq_true, decide_eq_true_eq]
    refine or_iff_left (show ¬ _ from ?_)
    cases e <;> decide
  · have hlist := hkinds hstation
    refine ⟨?_, ?_, ?_⟩
    · rw [countKind_eq_count]
      exact (congrArg (List.count Kind.claim) hlist).trans (by decide)
    · rw [countKind_eq_count]
      exact (congrArg (List.count Kind.alert) hlist).trans (by decide)
    · exact (List.length_map _).symm.trans (congrArg List.length hlist)

end Sys2Proof.Machine

/-! The start of the bank monitor and of the zones (R4 to R6, R15 to R19, R71 to R75, R85). -/

namespace Sys2Proof.Machine

-- As in the tests, so that no command needs threads of its own.
set_option Elab.async false

/-! ## The bank monitor (R4 to R6, R13, R15 to R19) -/

theorem clampCurrent_eq (i : Int) : clampCurrent i = max (-32000) (min 32000 i) := clipInt_eq (by decide) i

/-- The monitor's first sample (R4 to R6, R15 to R17), with its figures named. -/
theorem firstSample_eq {p : BankParams} {table : List Point} {inputs : StartInputs} {b : Bank} {keep : Bool} {temp cur : Int}
    {d ceff ocv acc : Nat} (hkeep : keep = decide (b.mark = some { cn := p.cn, letter := p.letter }))
    (htemp : temp = (convertTemp table inputs.bankTemp).getD 250)
    (hd : (d : Int) = max 1 (min 1024 (lookup p.derate temp))) (hceff : ceff = p.cn * 360000 * d)
    (hcur : cur = max (-32000) (min 32000 inputs.current))
    (hocv : (ocv : Int) = max 0 (min 1000 (lookup p.ocv (min inputs.voltage 65535 : Nat))))
    (hacc : (acc : Int) = (if keep then max 0 (min (ceff : Int) ((min b.acc ceff : Nat)
        + (if 0 ≤ cur then cur * p.eta else cur * 256))) else ((ceff * ocv / 1000 : Nat) : Int))) :
    firstSample p table inputs b =
      { acc := acc, derate := d, ceff := ceff, soc := acc * 1000 / ceff, current := cur
        voltage := min inputs.voltage 65535, temp := temp
        restTimer := if keep then b.restTimer else 0
        quiet := b.quiet
        estimated := if keep then b.estimated else true
        mark := some { cn := p.cn, letter := p.letter }
        sampleTimer := 0, derateTimer := 0, batteryTimer := 0 } := by
  have hkeeps : keepsRetained p b = keep := by rw [hkeep]; exact Bool.beq_eq_decide_eq _ _
  have hderate : firstDerate p table inputs.bankTemp b = { b with temp := temp, derate := d, ceff := ceff } := by
    unfold firstDerate evalTemp
    simp only
    rw [← htemp, derateAt_eq hd, effectiveCapacity_eq, ← hceff]
  have hclamp : clampVoltage inputs.voltage = min inputs.voltage 65535 := rfl
  unfold firstSample firstCharge
  rw [hkeeps, hderate, clampCurrent_eq, ← hcur, hclamp]
  cases keep with
  | true =>
    rw [if_pos rfl] at hacc
    rw [if_pos rfl, applyCharge_eq _ hacc]
    rfl
  | false =>
    obtain rfl : acc = ceff * ocv / 1000 := Int.natCast_inj.mp (hacc.trans (if_neg nofun))
    rw [if_neg nofun, socAtRest_eq hocv]
    rfl

/-- The bank monitor after the start. -/
theorem startBlocks_bank {record : List Byte} {passed : Bool} {p : BankParams}
    (h : (profileParams record passed).bank = some p) (inputs : StartInputs) (s : State) :
    (startBlocks record passed inputs s).bank
      = { evalRest p (firstSample p (profileParams record passed).tempTable inputs s.bank) with batteryTimer := 0 }
    ∧ (resyncs p (firstSample p (profileParams record passed).tempTable inputs s.bank) = true →
        inSet (startBlocks record passed inputs s).event.flags .bankResync = true) := by
  have hafter := acts_afterBank record passed inputs s
  have hprofile : Acts [.raises .configFallback] (settledState record passed s) (startProfile record passed s) := by
    rw [startProfile_eq]
    split
    · exact .refl
    · exact acts_raiseEvent _ _
  have hclaimed := hprofile.append (LoadEvent.acts (.claim _)) (N := [.raises .configFallback, .claims])
  have hparams := hclaimed.params
  have hbank : (queueClaim (startProfile record passed s)).bank = s.bank := hclaimed.bank (by decide)
  have hmonitor := startBank_bank (s := queueClaim (startProfile record passed s)) (p := p) (by rw [hparams]; exact h) inputs
  have hsome := startBank_of_some (s := queueClaim (startProfile record passed s)) (p := p) (by rw [hparams]; exact h) inputs
  rw [hbank, hparams, settledState_params] at hmonitor hsome
  refine ⟨(hafter.bank (by decide)).trans hmonitor, fun hresync => hafter.flags (by decide) ?_⟩
  rw [bankStarted, hsome]
  exact (acts_bankFormBattery p _).flags (by decide) (finishSample_resync (by exact hresync))

/-! ## The zones (R71 to R75, R85) -/

/-- The acts behind the zones' first evaluation. -/
def afterZoneEffects : List Effect :=
  [.sends, .writes .freeCount] ++ tankEffects ++ (.raises .actuatorFault :: motionTelegramEffects) ++ lightEffects

theorem acts_afterZones (record : List Byte) (passed : Bool) (inputs : StartInputs) (s : State) :
    Acts afterZoneEffects (zonesEvaluated inputs.zoneTemps (bankStarted record passed inputs s))
      (startBlocks record passed inputs s) := by
  rw [startBlocks_eq, motionStarted, waterStarted, zonesStarted, evalZones_eq]
  refine Acts.append (L := afterZoneEffects) ?_ (acts_handOwnStepOut _ _)
  refine Acts.append (L := afterZoneEffects) ?_ (acts_startMotion _ _)
  refine Acts.append (L := afterZoneEffects) ?_ (acts_startWater _ _)
  exact (acts_formClimate _).mono (by decide)

theorem startedZones_zone (p : Params) (storage : Bool) (n : Fin 4) :
    (startedZones p storage).zones[n] = startedZone storage p.zones[n] := by simp [startedZones]

theorem startedZone_of_hosted {p : ZoneParams} (h : p.hosted = true) (storage : Bool) : startedZone storage p =
    { Zone.reset with
      mode := if storage then .frostGuard else p.defaultMode
      saved := if storage then some p.defaultMode else none } := by
  unfold startedZone
  rw [if_pos h]
  cases storage <;> rfl

theorem bankStart_asksNoZone (n : Fin 4) : Effect.asks (zoneLoad n) ∉ bankStartEffects := by revert n; decide

theorem afterZone_asksNoZone (n : Fin 4) : Effect.asks (zoneLoad n) ∉ afterZoneEffects := by revert n; decide

/-- A hosted zone after the start: its started record, its heater OFF, evaluated once. -/
theorem startBlocks_zone {record : List Byte} {passed : Bool} {n : Fin 4}
    (hn : (profileParams record passed).zones[n].hosted = true) (inputs : StartInputs) (s : State) :
    ∃ z : Zone, zoneFixed z = zoneFixed (startedZone s.boot.storage (profileParams record passed).zones[n]) ∧ z.load = .off
      ∧ zoneFixed (startBlocks record passed inputs s).zone.zones[n]
          = zoneFixed (zoneEvaluated (profileParams record passed) n inputs.zoneTemps[n] z)
      ∧ ((startBlocks record passed inputs s).budget.loads[zoneLoad n].state = .off
          ↔ (zoneEvaluated (profileParams record passed) n inputs.zoneTemps[n] z).duty = 0)
      ∧ (convertTemp (profileParams record passed).tempTable inputs.zoneTemps[n] = none →
          inSet (startBlocks record passed inputs s).event.flags .zoneSensorFault = true) := by
  have hbefore := acts_bankStarted record passed inputs s
  have hafter := acts_afterZones record passed inputs s
  obtain ⟨hzones, _⟩ := hbefore.zonesSame (by decide)
  obtain ⟨hzonesAfter, _⟩ := hafter.zonesSame (by decide)
  have hm := hbefore.mirrored (mirrored_settledState record passed s)
  have hparams : (bankStarted record passed inputs s).params = profileParams record passed := hbefore.params
  have hoff : (bankStarted record passed inputs s).budget.loads[zoneLoad n].state = .off :=
    (hbefore.loadKept (bankStart_asksNoZone n)).off_iff.mpr (settledState_off record passed s _)
  have hload : (bankStarted record passed inputs s).zone.zones[n].load = .off := (hm.2.1 n).trans hoff
  have hstarted : zoneFixed (bankStarted record passed inputs s).zone.zones[n]
      = zoneFixed (startedZone s.boot.storage (profileParams record passed).zones[n]) :=
    (hzones n).trans (congrArg zoneFixed (startedZones_zone _ _ n))
  have hunfaulted : (startedZone s.boot.storage (profileParams record passed).zones[n]).faulted = false := by
    rw [startedZone_of_hosted hn]
    rfl
  obtain ⟨z, ⟨hz, hzload⟩, hfixed, hzoff, hflag⟩ := zonesEvaluated_zone (by rw [hparams]; exact hn) hm inputs.zoneTemps
  rw [hparams] at hfixed hzoff hflag
  refine ⟨z, hz.trans hstarted, ?_, (hzonesAfter n).trans hfixed,
    ((hafter.loadKept (afterZone_asksNoZone n)).off_iff).trans hzoff, fun hnone => ?_⟩
  · rcases hzload with hzload | ⟨hw, _⟩
    · exact hzload.trans hload
    · rw [hload] at hw
      cases hw
  · refine hafter.flags (by decide) (hflag hnone ?_)
    have hfaulted := hstarted
    simp only [zoneFixed, Prod.mk.injEq] at hfaulted
    obtain ⟨_, _, _, _, hfaulted, _⟩ := hfaulted
    exact hfaulted.trans hunfaulted

/-- The zones' timers and their window counter after the start. -/
theorem startBlocks_zoneTimes (record : List Byte) (passed : Bool) (inputs : StartInputs) (s : State) :
    zoneTimes (startBlocks record passed inputs s) = (0, 0, 0#8) := by
  obtain ⟨_, hperiod, hwindow, hcounter⟩ := (acts_afterZones record passed inputs s).zonesSame (by decide)
  obtain ⟨_, _, hwindow', hcounter'⟩ := (acts_bankStarted record passed inputs s).zonesSame (by decide)
  have htimes := zonesEvaluated_times inputs.zoneTemps (bankStarted record passed inputs s)
  rw [hwindow', hcounter'] at htimes
  have hsame : zoneTimes (startBlocks record passed inputs s)
      = zoneTimes (zonesEvaluated inputs.zoneTemps (bankStarted record passed inputs s)) := by
    unfold zoneTimes
    rw [hperiod, hwindow, hcounter]
  exact hsame.trans (htimes.trans rfl)

end Sys2Proof.Machine

/-! The start of the water controller (R89 to R94, R100 to R103, R110). -/

namespace Sys2Proof.Machine

-- As in the tests, so that no command needs threads of its own.
set_option Elab.async false

/-! ## Properties of a controller that moves of the loads keep -/

/-- What depends on one controller only, and every chain of load moves keeps, holds until the next write of that
controller. -/
theorem Acts.held {b : Block} (hb : b ∉ [Block.budget, .line, .event]) {P : State → Prop}
    (hblock : ∀ {s t : State}, P s → Machine.blockSame s t b → P t) (hsteps : ∀ {s t : State}, LoadSteps s t → P s → P t)
    {L : List Effect} {s t : State} (h : Acts L s t) (hs : P s) (hL : .writes b ∉ L)
    (hclear : .clearsCounters ∉ L := by decide) : P t := by
  induction h with
  | refl => exact hs
  | event _ _ k ih =>
    obtain ⟨m, ⟨c, rfl, _⟩, hload⟩ := k.rebased_steps
    refine hsteps hload (hblock ih ?_)
    cases b with
    | budget => exact absurd (by decide) hb
    | clock => exact ⟨rfl, rfl⟩
    | _ => rfl
  | send k p _ _ ih => exact hblock ih (sendTelegram_blockSame k p _ fun h => hb (by rw [h]; decide))
  | raise _ _ ih => exact hblock ih (raiseEvent_blockSame _ _ fun h => hb (List.mem_cons_of_mem _ (by
      simp only [List.mem_cons, List.not_mem_nil, or_false] at h ⊢
      exact h.symm)))
  | write hw _ k ih => exact hblock ih (k.frame b fun hmem => hL (hw _ hmem))
  | clear page hmem _ _ => exact absurd hmem hclear

theorem Acts.heldInWater {P : State → Prop} (hwater : ∀ {s t : State}, P s → t.water = s.water → P t)
    (hsteps : ∀ {s t : State}, LoadSteps s t → P s → P t) {L : List Effect} {s t : State} (h : Acts L s t) (hs : P s)
    (hL : .writes .water ∉ L := by decide) (hclear : .clearsCounters ∉ L := by decide) : P t :=
  h.held (b := .water) (by decide) hwater hsteps hs hL hclear

/-- The frost dwell has not run on. -/
def DwellFresh (s : State) : Prop := s.water.frost.dwell.getD 0 = 0

/-- The frost dwell has not run on, and runs exactly while its conditions hold (R103). -/
def DwellBegins (s : State) : Prop :=
  s.water.frost.dwell = if frostAtRisk s.water.frost then some 0 else none

theorem DwellBegins.fresh {s : State} (h : DwellBegins s) : DwellFresh s := by
  unfold DwellFresh
  rw [h]
  split <;> rfl

theorem evalDwell_of_fresh {f : Frost} (h : f.dwell.getD 0 = 0) :
    (evalDwell f).dwell = if frostAtRisk (evalDwell f) then some 0 else none := by
  rw [frostAtRisk_evalDwell]
  unfold evalDwell
  simp only
  rw [h]

theorem fresh_evalDwell {f : Frost} (h : f.dwell.getD 0 = 0) : (evalDwell f).dwell.getD 0 = 0 := by
  rw [evalDwell_of_fresh h]
  split <;> rfl

theorem dwellFresh_of_water {s t : State} (h : DwellFresh s) (hw : t.water = s.water) : DwellFresh t := by
  unfold DwellFresh
  rw [hw]
  exact h

theorem dwellBegins_of_water {s t : State} (h : DwellBegins s) (hw : t.water = s.water) : DwellBegins t := by
  unfold DwellBegins
  rw [hw]
  exact h

theorem dwellFresh_handLoad (i : Fin 17) (ld : LoadState) {s : State} (h : DwellFresh s) : DwellFresh (handLoad i ld s) := by
  unfold DwellFresh
  rw [handLoad_frost]
  split
  · exact fresh_evalDwell h
  · exact h

theorem dwellBegins_handLoad (i : Fin 17) (ld : LoadState) {s : State} (h : DwellBegins s) : DwellBegins (handLoad i ld s) := by
  unfold DwellBegins
  rw [handLoad_frost]
  split
  · exact evalDwell_of_fresh h.fresh
  · exact h

theorem LoadSteps.dwellFresh {s t : State} (h : LoadSteps s t) (hs : DwellFresh s) : DwellFresh t := by
  induction h with
  | refl => exact hs
  | send t k p _ ih => exact dwellFresh_of_water ih (sendTelegram_water k p t)
  | flag t w _ ih => exact dwellFresh_of_water ih rfl
  | load t i r _ _ _ ih => exact dwellFresh_handLoad _ _ (dwellFresh_of_water ih (State.setBudget_water _ _))
  | cls t i c _ ih => exact dwellFresh_of_water ih rfl
  | book t b _ _ _ _ ih => exact dwellFresh_of_water ih rfl

theorem LoadSteps.dwellBegins {s t : State} (h : LoadSteps s t) (hs : DwellBegins s) : DwellBegins t := by
  induction h with
  | refl => exact hs
  | send t k p _ ih => exact dwellBegins_of_water ih (sendTelegram_water k p t)
  | flag t w _ ih => exact dwellBegins_of_water ih rfl
  | load t i r _ _ _ ih => exact dwellBegins_handLoad _ _ (dwellBegins_of_water ih (State.setBudget_water _ _))
  | cls t i c _ ih => exact dwellBegins_of_water ih rfl
  | book t b _ _ _ _ ih => exact dwellBegins_of_water ih rfl

/-! ## Through the first tank period -/

theorem dwellBegins_readFrost {s : State} (h : s.params.water.frost = true) (hs : DwellFresh s) (reading : Adc) :
    DwellBegins (readFrost reading s) := by
  have hread : DwellFresh (s.setWater { s.water with
      frost := frostRead (convertTemp s.params.tempTable reading) s.water.frost }) := hs
  unfold readFrost
  rw [if_pos h]
  exact evalDwell_of_fresh ((loadSteps_demandHeater _).dwellFresh hread)

theorem rested_readFrost {s : State} (hs : Rested s) (reading : Adc) : Rested (readFrost reading s) := by
  have hread : Rested (s.setWater { s.water with
      frost := frostRead (convertTemp s.params.tempTable reading) s.water.frost }) := hs
  unfold readFrost
  split
  · exact (loadSteps_demandHeater _).rested hread
  · exact hs

theorem rested_pumpFollowed {s : State} (hs : Rested s) (fresh grey black : Adc) : Rested (pumpFollowed fresh grey black s) := by
  obtain ⟨hpump, _⟩ := tanksRead_water fresh grey black s
  have hread : Rested (tanksRead fresh grey black s) := by
    unfold Rested
    rw [hpump]
    exact hs
  unfold pumpFollowed
  split
  · exact (loadSteps_evalPump _).rested hread
  · exact hread

theorem dwellFresh_pumpFollowed {s : State} (hs : DwellFresh s) (fresh grey black : Adc) :
    DwellFresh (pumpFollowed fresh grey black s) := by
  obtain ⟨_, hfrost, _⟩ := tanksRead_water fresh grey black s
  have hread : DwellFresh (tanksRead fresh grey black s) := by
    unfold DwellFresh
    rw [hfrost]
    exact hs
  unfold pumpFollowed
  split
  · exact (loadSteps_evalPump _).dwellFresh hread
  · exact hread

theorem queueTanks_water (s : State) : (queueTanks s).water = s.water
    ∨ (queueTanks s).water = { s.water with tanksTimer := 0, tanksDue := false } := by
  unfold queueTanks
  split
  · exact .inr (by rw [sendTelegram_water]; rfl)
  · exact .inl rfl

/-! ## The water controller before and after its own start -/

/-- The water controller as the blocks before it leave it, with the pump's demand read from the switch (R94). -/
def pumpDemanded (record : List Byte) (passed : Bool) (inputs : StartInputs) (s : State) : State :=
  putPump { (zonesStarted record passed inputs s).water.pump with
    demand := (zonesStarted record passed inputs s).params.water.pump && inputs.pressure }
    (zonesStarted record passed inputs s)

theorem waterStarted_eq (record : List Byte) (passed : Bool) (inputs : StartInputs) (s : State) :
    waterStarted record passed inputs s = queueTanks (evalPump (readFrost inputs.tankTemp
      (pumpFollowed inputs.fresh inputs.grey inputs.black (pumpDemanded record passed inputs s)))) := rfl

theorem acts_pumpDemanded (record : List Byte) (passed : Bool) (inputs : StartInputs) (s : State) :
    Acts (bankStartEffects ++ zoneStartEffects ++ [.writes .water]) (settledState record passed s)
      (pumpDemanded record passed inputs s) :=
  (acts_zonesStarted record passed inputs s).append (written_putPump _ _).acts

/-- Before the first tank period nothing has been read (R110). -/
theorem pumpDemanded_core (record : List Byte) (passed : Bool) (inputs : StartInputs) (s : State) :
    waterCore (pumpDemanded record passed inputs s).water = waterCore { Water.reset with
      pump := { Water.reset.pump with demand := (profileParams record passed).water.pump && inputs.pressure } }
    ∧ Rested (pumpDemanded record passed inputs s) ∧ DwellFresh (pumpDemanded record passed inputs s) := by
  have hbefore := acts_zonesStarted record passed inputs s
  have hcore := hbefore.waterCore (by decide)
  have hparams : (zonesStarted record passed inputs s).params = profileParams record passed := hbefore.params
  have hrested := hbefore.heldInWater rested_of_water LoadSteps.rested (fun _ => rfl)
  have hdwell := hbefore.heldInWater dwellFresh_of_water LoadSteps.dwellFresh (by exact rfl)
  unfold pumpDemanded
  rw [hparams]
  generalize zonesStarted record passed inputs s = u at hcore hrested hdwell ⊢
  have hcore' : waterCore u.water = waterCore Water.reset := hcore
  refine ⟨?_, hrested, hdwell⟩
  simp only [waterCore, Prod.mk.injEq] at hcore' ⊢
  obtain ⟨htanks, ⟨_, hdisabled, hdry⟩, hfrost, htimes⟩ := hcore'
  exact ⟨htanks, ⟨rfl, hdisabled, hdry⟩, hfrost, htimes⟩

/-- The acts behind the water controller's start. -/
def afterWaterEffects : List Effect := (.raises .actuatorFault :: motionTelegramEffects) ++ lightEffects

theorem acts_afterWater (record : List Byte) (passed : Bool) (inputs : StartInputs) (s : State) :
    Acts afterWaterEffects (waterStarted record passed inputs s) (startBlocks record passed inputs s) := by
  rw [startBlocks_eq, motionStarted]
  exact Acts.append (L := afterWaterEffects) ((acts_startMotion _ _).mono (by decide)) (acts_handOwnStepOut _ _)

/-- The acts of the first TANKS and of the blocks behind the water controller. -/
def afterTanksEffects : List Effect := [.asks 13, .writes .water, .sends] ++ afterWaterEffects

theorem acts_afterTanks (record : List Byte) (passed : Bool) (inputs : StartInputs) (s : State) :
    Acts afterTanksEffects (readFrost inputs.tankTemp
        (pumpFollowed inputs.fresh inputs.grey inputs.black (pumpDemanded record passed inputs s)))
      (startBlocks record passed inputs s) := by
  refine Acts.append (L := afterTanksEffects) ?_ (acts_afterWater record passed inputs s)
  rw [waterStarted_eq]
  exact Acts.append (L := afterTanksEffects) ((acts_evalPump _).mono (by decide)) (acts_queueTanks _)

/-- The first TANKS and the blocks behind it leave the water controller's fields, its pump evaluated once more. -/
theorem startBlocks_water (record : List Byte) (passed : Bool) (inputs : StartInputs) (s u : State)
    (hu : u = readFrost inputs.tankTemp
      (pumpFollowed inputs.fresh inputs.grey inputs.black (pumpDemanded record passed inputs s))) :
    waterFixed (startBlocks record passed inputs s).water = waterFixed u.water
    ∧ (u.water.tanksTimer = 0 → (startBlocks record passed inputs s).water.tanksTimer = 0)
    ∧ (Rested u → Rested (startBlocks record passed inputs s))
    ∧ (DwellBegins u → DwellBegins (startBlocks record passed inputs s)) := by
  have hafter := acts_afterWater record passed inputs s
  have hcore := hafter.waterCore (by decide)
  have hrested := hafter.heldInWater rested_of_water LoadSteps.rested
  have hdwell := hafter.heldInWater dwellBegins_of_water LoadSteps.dwellBegins
  rw [waterStarted_eq, ← hu] at hcore hrested hdwell
  generalize startBlocks record passed inputs s = t at hcore hrested hdwell ⊢
  have hsteps := loadSteps_evalPump u
  have hframe := hsteps.frame.water
  have hr := hsteps.rested
  have hd := hsteps.dwellBegins
  generalize evalPump u = v at hcore hrested hdwell hframe hr hd
  have hqueue := queueTanks_water v
  have hkept : waterFixed (queueTanks v).water = waterFixed v.water
      ∧ (v.water.tanksTimer = 0 → (queueTanks v).water.tanksTimer = 0)
      ∧ (queueTanks v).water.pump = v.water.pump ∧ (queueTanks v).water.frost = v.water.frost := by
    rcases hqueue with h | h <;> rw [h]
    · exact ⟨rfl, id, rfl, rfl⟩
    · exact ⟨rfl, fun _ => rfl, rfl, rfl⟩
  generalize queueTanks v = q at hcore hrested hdwell hkept
  obtain ⟨hfixed, htimer, hpump, hfrost⟩ := hkept
  have htimes (x y : Water) (h : waterCore x = waterCore y) : x.tanksTimer = y.tanksTimer := congrArg (fun w => w.2.2.2.1) h
  refine ⟨(waterFixed_of_waterCore hcore).trans (hfixed.trans (waterFixed_of_waterCore hframe)), fun h0 => ?_, fun h => hrested ?_,
    fun h => hdwell ?_⟩
  · exact (htimes _ _ hcore).trans (htimer ((htimes _ _ hframe).trans h0))
  · have hv := hr h
    unfold Rested at hv ⊢
    rw [hpump]
    exact hv
  · have hv := hd h
    unfold DwellBegins at hv ⊢
    rw [hfrost]
    exact hv

/-! ## Loads behind the closed gate (R50) -/

/-- A load of class 1 to 3 is not ADMITTED after the start. -/
theorem startBlocks_not_admitted (record : List Byte) (passed : Bool) (inputs : StartInputs) (s : State) (i : Fin 17)
    (hclass : classAllowed i .c0 = false) : (startBlocks record passed inputs s).budget.loads[i].state ≠ .admitted := by
  have hacts := acts_startBlocks record passed inputs s
  have hgate : (startBlocks record passed inputs s).budget.gateOpen = false :=
    (hacts.gateOpen).trans (by rw [settledState_budget]; rfl)
  obtain ⟨hrecords, _⟩ := hacts.budgetOk (budgetOk_settledState record passed s)
  obtain ⟨_, ⟨hallowed, _⟩, hclosed, _⟩ := hrecords i
  have hcls : (startBlocks record passed inputs s).budget.loads[i].cls ≠ .c0 := fun h => by
    rw [h, hclass] at hallowed
    cases hallowed
  intro h
  have hdraws := hclosed hgate hcls
  rw [h] at hdraws
  cases hdraws

end Sys2Proof.Machine

/-! The start of the bank monitor, the zones and the water controller, together (R4 to R6, R15 to R19, R71 to R75, R89 to
R94, R100 to R103, R110). -/

namespace Sys2Proof.Machine

-- As in the tests, so that no command needs threads of its own.
set_option Elab.async false

/-! ## The water controller at its start -/

/-- The water controller, but for what the temperature and the loads decide. -/
def waterUnread (w : Water) : (Tank × Tank × Tank × Nat × Bool × Bool) × (Bool × Bool × Bool) × Bool × (Nat × Bool × Nat) :=
  ((w.fresh, w.grey, w.black, w.periodTimer, w.moving, w.peerGreyFull), (w.pump.demand, w.pump.disabled, w.pump.dryLock),
   w.frost.valveOpen, (w.tanksTimer, w.tanksDue, w.frostDumps))

theorem waterUnread_of_core {v w : Water} (h : waterCore v = waterCore w) : waterUnread v = waterUnread w := by
  simp only [waterCore, Prod.mk.injEq] at h
  obtain ⟨⟨h1, h2, h3, h4, h5, h6⟩, ⟨h7, h8, h9⟩, ⟨_, _, _, h10⟩, h11, h12, h13⟩ := h
  unfold waterUnread
  rw [h1, h2, h3, h4, h5, h6, h7, h8, h9, h10, h11, h12, h13]

theorem readFrost_unread (reading : Adc) (s : State) : waterUnread (readFrost reading s).water = waterUnread s.water := by
  unfold readFrost
  split
  · have hkept := waterUnread_of_core (loadSteps_demandHeater (s.setWater { s.water with
      frost := frostRead (convertTemp s.params.tempTable reading) s.water.frost })).frame.water
    generalize demandHeater (s.setWater { s.water with
      frost := frostRead (convertTemp s.params.tempTable reading) s.water.frost }) = a at hkept ⊢
    exact hkept
  · rfl

/-- After the first tank period: what of the water controller the temperature does not decide. -/
theorem firstPeriod_unread {record : List Byte} {passed : Bool} {inputs : StartInputs} {s : State} {p : Params}
    (hp : p = profileParams record passed) :
    waterUnread (readFrost inputs.tankTemp
        (pumpFollowed inputs.fresh inputs.grey inputs.black (pumpDemanded record passed inputs s))).water
      = waterUnread { Water.reset with
          fresh := tankAfter deriveFresh p.water.fresh false inputs.fresh Tank.reset
          grey := tankAfter deriveWaste p.water.grey false inputs.grey Tank.reset
          black := tankAfter deriveWaste p.water.black false inputs.black Tank.reset
          pump := { Water.reset.pump with demand := p.water.pump && inputs.pressure } } := by
  obtain ⟨hcore, _, _⟩ := pumpDemanded_core record passed inputs s
  have hparams : (pumpDemanded record passed inputs s).params = p := hp ▸ (acts_pumpDemanded record passed inputs s).params
  rw [← hp] at hcore
  generalize pumpDemanded record passed inputs s = d at hcore hparams ⊢
  rw [readFrost_unread, waterUnread_of_core (pumpFollowed_core inputs.fresh inputs.grey inputs.black d), tanksRead_eq, hparams]
  simp only [waterCore, Prod.mk.injEq] at hcore
  obtain ⟨⟨hfresh, hgrey, hblack, _, hmoving, hpeer⟩, ⟨hdemand, hdisabled, hdry⟩, ⟨_, _, _, hvalve⟩, htimer, hdue, hdumps⟩ := hcore
  unfold waterUnread
  simp only
  rw [hfresh, hgrey, hblack, hmoving, hpeer, hdemand, hdisabled, hdry, hvalve, htimer, hdue, hdumps]
  rfl

/-- A tank at its first reading (R89 to R93). -/
theorem tankAfter_reset {derive : Nat → TankState → TankState} {p : TankParams} {reading : Adc} {alarm : TankState} {P : Prop}
    (halarm : alarm ≠ .normal)
    (hflag : p.hosted = true → enters Tank.reset (readTank derive p.table false reading Tank.reset) alarm = true → P) :
    (p.hosted = true → rawLevel p.table reading = none →
      tankAfter derive p false reading Tank.reset = { raw := none, filtered := none, state := .fault })
    ∧ (p.hosted = true → ∀ raw : Nat, rawLevel p.table reading = some raw →
      tankAfter derive p false reading Tank.reset = { raw := some raw, filtered := some raw, state := derive raw .normal }
      ∧ ((tankAfter derive p false reading Tank.reset).state = alarm → P)) := by
  obtain ⟨_, hnone, hsome⟩ := tankAfter_spec hflag
  refine ⟨fun h hraw => (hnone h hraw).trans rfl, fun h raw hraw => ?_⟩
  obtain ⟨hr, hf, hs, hraised⟩ := hsome h raw hraw
  generalize tankAfter derive p false reading Tank.reset = t at hr hf hs hraised ⊢
  refine ⟨?_, fun hst => hraised hst (Ne.symm halarm)⟩
  obtain ⟨raw', filtered, state⟩ := t
  obtain rfl : raw' = some raw := hr
  obtain rfl : filtered = some raw := hf
  obtain rfl : state = derive raw .normal := hs
  rfl

/-- The tanks after the start, with their alarms (R89 to R93). -/
theorem startBlocks_tanks {record : List Byte} {passed : Bool} {inputs : StartInputs} {s : State} {p : Params}
    (hp : p = profileParams record passed) {q : TankParams} {reading : Adc} {new : Tank}
    {derive : Nat → TankState → TankState} {alarm : TankState} {raised : Event}
    (h : q = p.water.fresh ∧ reading = inputs.fresh ∧ new = (startBlocks record passed inputs s).water.fresh
            ∧ derive = deriveFresh ∧ alarm = .empty ∧ raised = .tankEmpty
          ∨ q = p.water.grey ∧ reading = inputs.grey ∧ new = (startBlocks record passed inputs s).water.grey
            ∧ derive = deriveWaste ∧ alarm = .full ∧ raised = .tankFull
          ∨ q = p.water.black ∧ reading = inputs.black ∧ new = (startBlocks record passed inputs s).water.black
            ∧ derive = deriveWaste ∧ alarm = .full ∧ raised = .tankFull) :
    (q.hosted = true → rawLevel q.table reading = none → new = { raw := none, filtered := none, state := .fault })
    ∧ (q.hosted = true → ∀ raw : Nat, rawLevel q.table reading = some raw →
      new = { raw := some raw, filtered := some raw, state := derive raw .normal }
      ∧ (new.state = alarm → inSet (startBlocks record passed inputs s).event.flags raised = true)) := by
  obtain ⟨hcore, _, _⟩ := pumpDemanded_core record passed inputs s
  have hparams : (pumpDemanded record passed inputs s).params = p := hp ▸ (acts_pumpDemanded record passed inputs s).params
  obtain ⟨hfixed, _⟩ := startBlocks_water record passed inputs s _ rfl
  have hafter := acts_afterTanks record passed inputs s
  have hunread := firstPeriod_unread (inputs := inputs) (s := s) hp
  generalize startBlocks record passed inputs s = t at h hfixed hafter ⊢
  rw [← tankPeriodOf_followed] at hfixed hafter hunread
  have hflags (e : Event) := flags_tankPeriodOf (fresh := inputs.fresh) (grey := inputs.grey) (black := inputs.black)
    (s := pumpDemanded record passed inputs s) (e := e) inputs.tankTemp
  obtain ⟨hflagFresh, hflagGrey, hflagBlack⟩ := tanksRead_flags inputs.fresh inputs.grey inputs.black
    (pumpDemanded record passed inputs s)
  generalize pumpDemanded record passed inputs s = d at hcore hparams hfixed hafter hunread hflags hflagFresh hflagGrey hflagBlack
  simp only [waterCore, Prod.mk.injEq] at hcore
  obtain ⟨⟨dfresh, dgrey, dblack, _, dmoving, _⟩, _⟩ := hcore
  rw [hparams, dmoving, dfresh] at hflagFresh
  rw [hparams, dmoving, dgrey] at hflagGrey
  rw [hparams, dmoving, dblack] at hflagBlack
  generalize tankPeriodOf inputs.fresh inputs.grey inputs.black inputs.tankTemp d = u at hfixed hafter hunread hflags
  have hraised (e : Event) (he : inSet (tanksRead inputs.fresh inputs.grey inputs.black d).event.flags e = true) :
      inSet t.event.flags e = true := hafter.flags (by decide) (hflags e he)
  simp only [waterFixed, Prod.mk.injEq] at hfixed
  simp only [waterUnread, Prod.mk.injEq] at hunread
  obtain ⟨⟨tfresh, tgrey, tblack, _⟩, _⟩ := hfixed
  obtain ⟨⟨ufresh, ugrey, ublack, _⟩, _⟩ := hunread
  rcases h with ⟨rfl, rfl, rfl, rfl, rfl, rfl⟩ | ⟨rfl, rfl, rfl, rfl, rfl, rfl⟩ | ⟨rfl, rfl, rfl, rfl, rfl, rfl⟩
  · rw [tfresh, ufresh]
    exact tankAfter_reset nofun fun h he => hraised _ (hflagFresh h he)
  · rw [tgrey, ugrey]
    exact tankAfter_reset nofun fun h he => hraised _ (hflagGrey h he)
  · rw [tblack, ublack]
    exact tankAfter_reset nofun fun h he => hraised _ (hflagBlack h he)

/-! ## The pump and the frost function at their start -/

theorem queueTanks_budget (s : State) : (queueTanks s).budget = s.budget := by
  unfold queueTanks
  split
  · rw [sendTelegram_budget]
    rfl
  · rfl

/-- The times, the facts, the pump and the valve after the start (R94 to R97, R110). -/
theorem startBlocks_pump {record : List Byte} {passed : Bool} {inputs : StartInputs} {s t : State} {p : Params}
    (hp : p = profileParams record passed) (ht : t = startBlocks record passed inputs s) :
    t.water.periodTimer = 0 ∧ t.water.tanksTimer = 0 ∧ t.water.frostDumps = 0
    ∧ t.water.moving = false ∧ t.water.peerGreyFull = false
    ∧ t.water.pump.demand = (p.water.pump && inputs.pressure)
    ∧ t.water.pump.disabled = false ∧ t.water.pump.dryLock = false
    ∧ t.water.pump.runTimer = 0 ∧ t.water.pump.output = false
    ∧ (t.budget.loads[13].state = .off ↔ t.water.pump.demand = false ∨ pumpBlocked t = true)
    ∧ t.water.frost.valveOpen = false := by
  obtain ⟨_, hrested, _⟩ := pumpDemanded_core record passed inputs s
  obtain ⟨hfixed, htimer, hrest, _⟩ := startBlocks_water record passed inputs s _ rfl
  have hunread := firstPeriod_unread (inputs := inputs) (s := s) hp
  have hin := waterIn_startBlocks record passed inputs s
  have hparams : (startBlocks record passed inputs s).params = p := hp ▸ (acts_startBlocks record passed inputs s).params
  have hnot := startBlocks_not_admitted record passed inputs s 13 (by decide)
  have hkept := ((acts_afterWater record passed inputs s).loadKept (i := pumpLoad) (by decide)).off_iff
  have hbefore := ((acts_pumpDemanded record passed inputs s).append (acts_pumpFollowed inputs.fresh inputs.grey inputs.black _)
    (N := bankStartEffects ++ zoneStartEffects ++ tankEffects)).append (acts_readFrost inputs.tankTemp _)
    (N := bankStartEffects ++ zoneStartEffects ++ tankEffects)
  have hboot : (startBlocks record passed inputs s).boot = _ := boot_of_acts (acts_startBlocks record passed inputs s) (by decide)
  have hrun := hrest (rested_readFrost (rested_pumpFollowed hrested _ _ _) _)
  rw [waterStarted_eq, queueTanks_budget] at hkept
  rw [← ht] at hfixed htimer hin hparams hnot hkept hboot hrun
  generalize readFrost inputs.tankTemp
    (pumpFollowed inputs.fresh inputs.grey inputs.black (pumpDemanded record passed inputs s)) = u
    at hfixed htimer hunread hkept hbefore
  have hum := hbefore.mirrored (mirrored_settledState record passed s)
  have hup : u.params = p := hp ▸ hbefore.params
  have hblocked : pumpBlocked t = pumpBlocked u :=
    pumpBlocked_congr hfixed (congrArg Boot.storage (hboot.trans (boot_of_acts hbefore (by decide)).symm))
  simp only [waterFixed, Prod.mk.injEq] at hfixed
  simp only [waterUnread, Prod.mk.injEq] at hunread
  obtain ⟨⟨_, _, _, tperiod, tmoving, tpeer⟩, ⟨tdemand, tdisabled, tdry⟩, ⟨_, _, _, tvalve⟩, tdumps⟩ := hfixed
  obtain ⟨⟨_, _, _, uperiod, umoving, upeer⟩, ⟨udemand, udisabled, udry⟩, uvalve, utimer, _, udumps⟩ := hunread
  have houtput : t.water.pump.output = false := by
    rw [hin.pump.2, hin.mirrored.2.2.2]
    exact beq_eq_false_iff_ne.mpr hnot
  refine ⟨tperiod.trans uperiod, htimer utimer, tdumps.trans udumps, tmoving.trans umoving, tpeer.trans upeer,
    tdemand.trans udemand, tdisabled.trans udisabled, tdry.trans udry, hrun houtput, houtput, ?_, tvalve.trans uvalve⟩
  cases hpump : p.water.pump with
  | true =>
    rw [hblocked, tdemand, or_comm]
    exact hkept.trans (evalPump_off_iff hum (by rw [hup]; exact hpump))
  | false =>
    have hoff : t.water.pump.load = .off := hin.pump.1 (.inr (by rw [hparams]; exact hpump))
    refine iff_of_true (hin.mirrored.2.2.2.symm.trans hoff) (.inl ?_)
    rw [tdemand, udemand, hpump]
    rfl

/-- The frost record after the start (R100, R101, R103). -/
theorem startBlocks_frost {record : List Byte} {passed : Bool} {inputs : StartInputs} {s t : State} {p : Params}
    (hp : p = profileParams record passed) (ht : t = startBlocks record passed inputs s) (hfrost : p.water.frost = true) :
    (t.water.frost.demand = false ↔ t.budget.loads[12].state = .off)
    ∧ (convertTemp p.tempTable inputs.tankTemp = none →
        t.water.frost.temp = none ∧ t.water.frost.faulted = true ∧ t.water.frost.demand = true ∧ t.water.frost.dwell = none)
    ∧ (∀ x : Int, convertTemp p.tempTable inputs.tankTemp = some x →
        t.water.frost.temp = some x ∧ t.water.frost.faulted = false ∧ t.water.frost.demand = decide (x ≤ 30)
        ∧ t.water.frost.dwell = if x ≤ 10 then some 0 else none) := by
  obtain ⟨hcore, _, hfresh⟩ := pumpDemanded_core record passed inputs s
  obtain ⟨hfixed, _, _, hdwell⟩ := startBlocks_water record passed inputs s _ rfl
  have hin := waterIn_startBlocks record passed inputs s
  have hnot := startBlocks_not_admitted record passed inputs s 12 (by decide)
  have hkept := ((acts_afterTanks record passed inputs s).loadKept (i := heaterLoad) (by decide)).off_iff
  obtain ⟨_, _, _, _, _, _, _, _, _, _, _, hvalve⟩ := startBlocks_pump hp ht
  have hbefore := (acts_pumpDemanded record passed inputs s).append (acts_pumpFollowed inputs.fresh inputs.grey inputs.black _)
    (N := bankStartEffects ++ zoneStartEffects ++ tankEffects)
  have hfresh' := dwellFresh_pumpFollowed hfresh inputs.fresh inputs.grey inputs.black
  obtain ⟨_, _, _, _, htemp, hdemand, _⟩ := pumpFollowed_water inputs.fresh inputs.grey inputs.black
    (pumpDemanded record passed inputs s)
  rw [← ht] at hfixed hdwell hin hnot hkept
  simp only [waterCore, Prod.mk.injEq] at hcore
  obtain ⟨_, _, ⟨dtemp, _, ddemand, _⟩, _⟩ := hcore
  rw [dtemp] at htemp
  rw [ddemand] at hdemand
  generalize pumpFollowed inputs.fresh inputs.grey inputs.black (pumpDemanded record passed inputs s) = u
    at hfixed hdwell hkept hbefore hfresh' htemp hdemand
  have hup : u.params = p := hp ▸ hbefore.params
  have hu : u.params.water.frost = true := by rw [hup]; exact hfrost
  obtain ⟨f, hf, ftemp, ffaulted, fdemand, _⟩ := readFrost_frost hu inputs.tankTemp
  have hoff := readFrost_off_iff hu (hbefore.mirrored (mirrored_settledState record passed s)) inputs.tankTemp
  have hbegins := hdwell (dwellBegins_readFrost hu hfresh' inputs.tankTemp)
  rw [htemp] at ftemp
  rw [hdemand] at fdemand
  rw [hup] at ftemp ffaulted fdemand
  generalize readFrost inputs.tankTemp u = v at hfixed hkept hf hoff
  simp only [waterFixed, Prod.mk.injEq] at hfixed
  obtain ⟨_, _, ⟨ttemp, tfaulted, tdemand, _⟩, _⟩ := hfixed
  rw [hf] at ttemp tfaulted tdemand
  have hload : t.water.frost.load ≠ .admitted := by
    rw [hin.mirrored.2.2.1]
    exact hnot
  refine ⟨?_, fun hconv => ?_, fun x hconv => ?_⟩
  · refine Iff.trans ?_ (hkept.trans hoff).symm
    rw [tdemand, hf]
  · rw [hconv] at ftemp ffaulted fdemand
    have hcold : frostCold t.water.frost = false := by
      unfold frostCold
      rw [ttemp.trans ftemp]
      rfl
    refine ⟨ttemp.trans ftemp, tfaulted.trans ffaulted, tdemand.trans fdemand, hbegins.trans (if_neg ?_)⟩
    unfold frostAtRisk
    rw [hcold, Bool.and_false]
    nofun
  · rw [hconv] at ftemp ffaulted fdemand
    have hrisk := frostAtRisk_of_good (ttemp.trans ftemp) (tfaulted.trans ffaulted)
    have hwarm : demandAfter (some x) false = decide (x ≤ 30) := by
      unfold demandAfter
      simp only
      split
      · next h => exact (decide_eq_true h).symm
      · next h => rw [decide_eq_false h, ite_self]
    refine ⟨ttemp.trans ftemp, tfaulted.trans ffaulted, tdemand.trans (fdemand.trans hwarm), hbegins.trans ?_⟩
    simp only [hrisk, hvalve, hload, ne_eq, not_false_eq_true, and_true]

/-! ## A zone at its start -/

theorem dutyOutput_zero (counter : BitVec 8) : dutyOutput 0 counter = false := by
  rw [dutyOutput_eq]
  exact decide_eq_false (by omega)

theorem zone_notMotor (n : Fin 4) : classAllowed (zoneLoad n) .c0 = false := by revert n; decide

/-- The setpoint of a zone at its start, by its mode (R73, R85). -/
theorem setpointOf_started (mode : ZoneMode) : setpointOf mode 200 = match mode with
    | .frostGuard => 50
    | .eco => 170
    | .off | .comfort => 200 := by
  cases mode <;> rfl

/-- A hosted zone after the start (R71 to R75, R85). -/
theorem startBlocks_hostedZone {record : List Byte} {passed : Bool} {inputs : StartInputs} {s t : State} {p : Params}
    (hp : p = profileParams record passed) (ht : t = startBlocks record passed inputs s) {n : Fin 4}
    (hn : p.zones[n].hosted = true) (mode : ZoneMode) :
    mode = (if s.boot.storage then .frostGuard else p.zones[n].defaultMode) →
    t.zone.zones[n].mode = mode
    ∧ t.zone.zones[n].saved = (if s.boot.storage then some p.zones[n].defaultMode else none)
    ∧ t.zone.zones[n].setpoint = 200 ∧ t.zone.zones[n].integral = 0
    ∧ t.zone.zones[n].output = false
    ∧ (t.zone.zones[n].duty = 0 ↔ t.budget.loads[8 + n.val].state = .off)
    ∧ (convertTemp p.tempTable inputs.zoneTemps[n] = none →
        t.zone.zones[n].temp = none ∧ t.zone.zones[n].faulted = true
        ∧ t.zone.zones[n].duty = 0 ∧ inSet t.event.flags .zoneSensorFault = true)
    ∧ (∀ x : Int, convertTemp p.tempTable inputs.zoneTemps[n] = some x →
        t.zone.zones[n].temp = some x ∧ t.zone.zones[n].faulted = false
        ∧ (mode = .off → t.zone.zones[n].duty = 0)
        ∧ (mode ≠ .off → (t.zone.zones[n].duty : Int) = max 0 (min 255
            ((p.zones[n].kp * max (-200) (min 200 ((match mode with
              | .frostGuard => 50
              | .eco => 170
              | .off | .comfort => 200) - x))).tdiv 64)))) := by
  intro hmode
  subst hp
  obtain ⟨z, hz, hzload, hfixed, hoff, hflag⟩ := startBlocks_zone hn inputs s
  have hacts := acts_startBlocks record passed inputs s
  have hm := hacts.mirrored (mirrored_settledState record passed s)
  have hheaters := hacts.heatersOk (heatersOk_settledState record passed s)
  have hnot := startBlocks_not_admitted record passed inputs s (zoneLoad n) (zone_notMotor n)
  rw [← ht] at hfixed hoff hflag hm hheaters hnot
  rw [startedZone_of_hosted hn, ← hmode] at hz
  obtain ⟨kmode, ksetpoint, ksaved⟩ := zoneEvaluated_kept (profileParams record passed) n inputs.zoneTemps[n] z
  have houtput : t.zone.zones[n].output = false := by
    rw [hheaters.1 n]
    have hnone : admittedDuty t.zone.zones[n] = 0 := if_neg (by rw [hm.2.1 n]; exact hnot)
    rw [hnone]
    exact dutyOutput_zero _
  generalize t.zone.zones[n] = q at hfixed houtput ⊢
  simp only [zoneFixed, Prod.mk.injEq] at hfixed hz
  obtain ⟨qmode, qsetpoint, qsaved, qtemp, qfaulted, qintegral, qduty⟩ := hfixed
  obtain ⟨zmode, zsetpoint, zsaved, ztemp, _, zintegral, _⟩ := hz
  have hzero : z.integral = 0 := zintegral
  have hintegral (y : Zone) (e : Int) (hload : y.load = .off) (hzero : y.integral = 0) : integralAfter y e = 0 :=
    (if_neg (by rw [hload]; nofun)).trans hzero
  have hkept : q.integral = 0 ∧ (q.duty = 0 ↔ t.budget.loads[8 + n.val].state = .off)
      ∧ q.mode = mode ∧ q.saved = (if s.boot.storage then some (profileParams record passed).zones[n].defaultMode else none)
      ∧ q.setpoint = 200 := by
    refine ⟨qintegral.trans ?_, by rw [qduty]; exact hoff.symm, qmode.trans (kmode.trans zmode),
      qsaved.trans (ksaved.trans zsaved), qsetpoint.trans (ksetpoint.trans zsetpoint)⟩
    cases hconv : convertTemp (profileParams record passed).tempTable inputs.zoneTemps[n] with
    | none => rw [zoneEvaluated_of_none hconv]; exact hzero
    | some x =>
      rw [zoneEvaluated_of_some hconv]
      by_cases hoffMode : z.mode = .off
      · rw [controlZone_of_off (by exact hoffMode)]; exact hzero
      · rw [controlZone_of_mode (by exact hoffMode)]; exact hintegral _ _ hzload hzero
  obtain ⟨kintegral, kduty, qmode', qsaved', qsetpoint'⟩ := hkept
  refine ⟨qmode', qsaved', qsetpoint', kintegral, houtput, kduty, fun hconv => ?_, fun x hconv => ?_⟩
  · rw [zoneEvaluated_of_none hconv] at qtemp qfaulted qduty
    exact ⟨qtemp.trans ztemp, qfaulted, qduty, hflag hconv⟩
  · rw [zoneEvaluated_of_some hconv] at qtemp qfaulted qduty
    by_cases hoffMode : mode = .off
    · rw [controlZone_of_off (by exact zmode.trans hoffMode)] at qtemp qfaulted qduty
      exact ⟨qtemp, qfaulted, fun _ => qduty, fun h => absurd hoffMode h⟩
    · rw [controlZone_of_mode (by exact fun h => hoffMode (zmode.symm.trans h))] at qtemp qfaulted qduty
      refine ⟨qtemp, qfaulted, fun h => absurd h hoffMode, fun _ => ?_⟩
      have hset : setpointOf z.mode z.setpoint = setpointOf mode 200 := congrArg₂ setpointOf zmode zsetpoint
      simp only [hset] at qduty
      rw [qduty, dutyOf_cast, hintegral _ _ (by exact hzload) (by exact hzero), clipInt_eq (by decide), Int.mul_zero,
        Int.add_zero, setpointOf_started]

/-! ## The statement -/

/-- Settles O14: the bank monitor, each hosted zone and the water controller, each by its own start. -/
theorem bankZonesAndWaterStart : Obligations.BankZonesAndWaterStart := by
  intro c bytes inputs s p _ hpasses hin hp
  obtain ⟨_, hexec⟩ := exec_of_recordComesIn hpasses hin
  have hp' : p = profileParams bytes true := hp
  have hmark : p.bank = none → (startBlocks bytes true inputs s).bank.mark = none := fun hnone => by
    rw [(acts_afterBank bytes true inputs s).bank (by decide), bankStarted, startBank_of_none]
    · rfl
    · rw [(LoadEvent.acts (.claim _)).params]
      have hnone' : (profileParams bytes true).bank = none := hp' ▸ hnone
      exact hnone'
  have hbank := fun (b : BankParams) (h : p.bank = some b) =>
    startBlocks_bank (record := bytes) (passed := true) (by rw [← hp']; exact h) inputs s
  have htimes := startBlocks_zoneTimes bytes true inputs s
  have hzone := fun n hn => startBlocks_hostedZone (inputs := inputs) (s := s) hp' rfl (n := n) hn
  have htanks := fun q reading new derive alarm raised => startBlocks_tanks (inputs := inputs) (s := s) hp' (q := q)
    (reading := reading) (new := new) (derive := derive) (alarm := alarm) (raised := raised)
  have hpump := startBlocks_pump (inputs := inputs) (s := s) hp' rfl
  have hfrost := startBlocks_frost (inputs := inputs) (s := s) hp' rfl
  have hheaters := (acts_startBlocks bytes true inputs s).heatersOk (heatersOk_settledState bytes true s)
  have hm := (acts_startBlocks bytes true inputs s).mirrored (mirrored_settledState bytes true s)
  have hnot := startBlocks_not_admitted bytes true inputs s 12 (by decide)
  rw [← hp'] at hbank
  generalize startBlocks bytes true inputs s = t at hexec hmark hbank htimes hzone htanks hpump hfrost hheaters hm hnot
  simp only [zoneTimes, Prod.mk.injEq] at htimes
  obtain ⟨tperiod, twindow, tcounter⟩ := htimes
  obtain ⟨wperiod, wtanks, wdumps, wmoving, wpeer, wdemand, wdisabled, wdry, wrun, woutput, woff, wvalve⟩ := hpump
  have hheater : t.water.frost.output = false := by
    rw [hheaters.2, hm.2.2.1]
    exact beq_eq_false_iff_ne.mpr hnot
  refine ⟨t, hexec, hmark, ?_, tperiod, twindow, tcounter, fun n hn mode hmode => hzone n hn mode hmode, wperiod, wtanks,
    wdumps, wmoving, wpeer, fun q reading new derive alarm raised h => htanks q reading new derive alarm raised h,
    wdemand, wdisabled, wdry, wrun, woutput, woff, hheater, wvalve, hfrost⟩
  intro b keep quiet temp cur d ceff ocv acc rest hb hkeep htemp hd hceff hcur hocv hacc hquiet hrest
  obtain ⟨htbank, hresync⟩ := hbank b hb
  have hsample := firstSample_eq hkeep htemp hd hceff hcur hocv hacc
  generalize firstSample b p.tempTable inputs s.bank = f at htbank hresync hsample
  have hquiet' : quiet = decide (f.current.natAbs ≤ b.restThreshold) := by rw [hsample]; exact hquiet
  have hrest' : rest = if quiet then f.restTimer + 250 else 0 := by rw [hsample]; exact hrest
  refine ⟨fun hshort => ?_, fun hq htime => ?_⟩
  · rw [htbank, (evalRest_of_short hquiet' hrest' hshort).2, hsample]
  · obtain ⟨hyes, heval⟩ := evalRest_of_reached (p := b) (b := f) (of_decide_eq_true (hquiet'.symm.trans hq))
      (htime.trans_eq (by rw [hrest', if_pos hq]))
    refine ⟨?_, hresync hyes⟩
    rw [htbank, heval, hsample]
    unfold resynced withSoc
    simp only
    rw [socAtRest_eq hocv]
    rfl

end Sys2Proof.Machine

/-! The start of the motion controller (R141). -/

namespace Sys2Proof.Machine

-- As in the tests, so that no command needs threads of its own.
set_option Elab.async false

/-! ## The records (R141) -/

/-- The motion controller with an actuator started by its stops; a conflict is counted. -/
def startedAct (p : Params) (m : Motion) (a : Actuator) (i o : Bool) : Motion :=
  let r := startRecord (p.actuator a) i o
  let m1 := match a with
    | .awning => { m with awning := r }
    | .step => { m with step := r }
  { m1 with actuatorFaults := if i && o then countUp m.actuatorFaults else m.actuatorFaults }

theorem startAct_motion (s : State) (a : Actuator) : (startAct s a).motion
    = startedAct s.params s.motion a (stopActive s a .inStop) (stopActive s a .outStop) := by
  unfold startAct startedAct
  simp only
  split
  · have hraise := raiseEvent_motion .actuatorFault (putAct a { ActRec.reset with
      state := startState (stopActive s a .inStop) (stopActive s a .outStop)
      position := startPosition (s.params.actuator a) (stopActive s a .inStop) (stopActive s a .outStop)
      faults := { FaultSet.empty with conflict := stopActive s a .inStop && stopActive s a .outStop } } s)
    unfold countFault
    rw [State.setMotion_motion, hraise]
    cases a <;> rfl
  · cases a <;> rfl

theorem startAct_pins (s : State) (a : Actuator) : (startAct s a).params = s.params
    ∧ (startAct s a).motion.pins = s.motion.pins :=
  ⟨(faultKept_startAct s a).params, (faultKept_startAct s a).pins⟩

/-- The motion controller with every hosted actuator started. -/
def startedActs (s : State) : Motion :=
  let started (m : Motion) (a : Actuator) := startedAct s.params m a (stopActive s a .inStop) (stopActive s a .outStop)
  let m := if s.params.awning.hosted then started s.motion .awning else s.motion
  if s.params.step.hosted then started m .step else m

theorem foldl_startAct_motion (s : State) : ((hostedActs s.params).foldl startAct s).motion = startedActs s := by
  obtain ⟨hparams, hpins⟩ := startAct_pins s .awning
  have hawning := startAct_motion s .awning
  have hstep := startAct_motion s .step
  have hboth := startAct_motion (startAct s .awning) .step
  rw [stopActive_congr hparams hpins, stopActive_congr hparams hpins, hparams, hawning] at hboth
  have hh : (s.params.actuator .awning).hosted = s.params.awning.hosted
    ∧ (s.params.actuator .step).hosted = s.params.step.hosted := ⟨rfl, rfl⟩
  rw [hostedActs_eq, hh.1, hh.2]
  unfold startedActs
  cases ha : s.params.awning.hosted <;> cases hs : s.params.step.hosted
  · rfl
  · exact hstep
  · exact hawning
  · exact hboth

theorem foldl_startAct_flag {a : Actuator} {l : List Actuator} (ha : a ∈ l) {s : State} (hi : stopActive s a .inStop = true)
    (ho : stopActive s a .outStop = true) : inSet (l.foldl startAct s).event.flags .actuatorFault = true := by
  induction l generalizing s with
  | nil => cases ha
  | cons b l ih =>
    obtain ⟨hparams, hpins⟩ := startAct_pins s b
    rcases List.mem_cons.mp ha with rfl | ha
    · refine (Acts.foldl (L := [.writes .motion, .raises .actuatorFault]) startAct acts_startAct l _).flags (by decide) ?_
      unfold startAct
      simp only
      rw [hi, ho]
      exact inSet_raiseEvent _ _
    · exact ih ha ((stopActive_congr hparams hpins a .inStop).trans hi) ((stopActive_congr hparams hpins a .outStop).trans ho)

/-! ## The controller after the start -/

/-- The motion controller as its start finds it (R141). -/
def motionRead (inputs : StartInputs) (s : State) : State := s.setMotion { s.motion with
  pins := ⟨inputs.awningIn, inputs.awningOut, inputs.stepIn, inputs.stepOut⟩
  wind := { WindMeter.reset with silence := if s.params.wind.hosted then some 0 else none } }

theorem startMotion_eq (inputs : StartInputs) (s : State) : startMotion inputs s
    = queueMotion ((hostedActs s.params).foldl startAct (motionRead inputs s)) := rfl

theorem queueMotion_motion_of_zero {s : State} (h : s.motion.motionTimer = 0) : (queueMotion s).motion = s.motion := by
  unfold queueMotion
  split
  · have hsame : { s.motion with motionTimer := 0 } = s.motion := by rw [← h]
    rw [hsame, sendTelegram_eq]
    rfl
  · rfl

theorem startedActs_motionTimer (s : State) : (startedActs s).motionTimer = s.motion.motionTimer := by
  unfold startedActs startedAct
  simp only
  split <;> split <;> rfl

theorem startMotion_motion {inputs : StartInputs} {s : State} (h : s.motion.motionTimer = 0) :
    (startMotion inputs s).motion = startedActs (motionRead inputs s) := by
  have hfold := foldl_startAct_motion (motionRead inputs s)
  have htimer := startedActs_motionTimer (motionRead inputs s)
  rw [startMotion_eq, queueMotion_motion_of_zero]
  · exact hfold
  · exact (congrArg Motion.motionTimer hfold).trans (htimer.trans h)

/-- The motion controller after the start, with the flag of a conflict. -/
theorem startBlocks_motion {record : List Byte} {passed : Bool} {inputs : StartInputs} {s t : State} {p : Params}
    (hp : p = profileParams record passed) (ht : t = startBlocks record passed inputs s) :
    ∃ m : State, m.params = p
      ∧ m.motion = { Motion.reset with
          storage := s.boot.storage
          pins := ⟨inputs.awningIn, inputs.awningOut, inputs.stepIn, inputs.stepOut⟩
          wind := { WindMeter.reset with silence := if p.wind.hosted then some 0 else none } }
      ∧ t.motion = startedActs m
      ∧ (∀ a : Actuator, (p.actuator a).hosted = true → stopActive m a .inStop = true → stopActive m a .outStop = true →
          inSet t.event.flags .actuatorFault = true) := by
  have hbefore := acts_waterStarted record passed inputs s
  have hmotion : (waterStarted record passed inputs s).motion = { Motion.reset with storage := s.boot.storage } :=
    hbefore.motion (by decide) (by decide)
  have hparams : (waterStarted record passed inputs s).params = p := hp ▸ hbefore.params
  rw [startBlocks_eq, motionStarted] at ht
  generalize waterStarted record passed inputs s = w at hmotion hparams ht
  have hlate : Acts (motionTelegramEffects ++ lightEffects) ((hostedActs w.params).foldl startAct (motionRead inputs w)) t := by
    rw [ht, startMotion_eq]
    exact ((acts_queueMotion _).append (acts_handOwnStepOut _ _))
  refine ⟨motionRead inputs w, hparams, ?_, ?_, fun a ha hi ho => hlate.flags (by decide) (foldl_startAct_flag ?_ hi ho)⟩
  · unfold motionRead
    rw [State.setMotion_motion, hmotion, hparams]
  · rw [ht, handOwnStepOut_motion]
    exact startMotion_motion (by rw [hmotion]; rfl)
  · rw [hparams]
    exact (mem_hostedActs p a).mpr ha

/-! ## What the statement reads of the controller -/

theorem startedActs_rest (m : State) : (startedActs m).pins = m.motion.pins ∧ (startedActs m).vehicle = m.motion.vehicle
    ∧ (startedActs m).storage = m.motion.storage ∧ (startedActs m).wind = m.motion.wind := by
  unfold startedActs startedAct
  simp only
  split <;> split <;> exact ⟨rfl, rfl, rfl, rfl⟩

theorem act_startedActs {m : State} {a : Actuator} (h : (m.params.actuator a).hosted = true) : act (startedActs m) a
    = startRecord (m.params.actuator a) (stopActive m a .inStop) (stopActive m a .outStop) := by
  unfold startedActs startedAct
  simp only
  cases a with
  | awning =>
    have h' : m.params.awning.hosted = true := h
    rw [if_pos h']
    split <;> rfl
  | step =>
    have h' : m.params.step.hosted = true := h
    rw [if_pos h']
    rfl

/-- The faults counted by the start: one for each hosted actuator that starts in FAULT. -/
theorem startedActs_faults {m : State} (h : m.motion.actuatorFaults = 0) : (startedActs m).actuatorFaults
    = (if m.params.awning.hosted ∧ (startedActs m).awning.state = .fault then 1 else 0)
      + (if m.params.step.hosted ∧ (startedActs m).step.state = .fault then 1 else 0) := by
  have hfault (p : ActuatorParams) (i o : Bool) : (startRecord p i o).state = .fault ↔ (i && o) = true := by
    cases i <;> cases o <;> simp [startRecord, startState]
  have hawning : m.params.awning.hosted = true → (startedActs m).awning = _ := act_startedActs (a := .awning)
  have hstep : m.params.step.hosted = true → (startedActs m).step = _ := act_startedActs (a := .step)
  have hcount : (startedActs m).actuatorFaults
      = (if m.params.step.hosted ∧ (stopActive m .step .inStop && stopActive m .step .outStop) = true then countUp else id)
          ((if m.params.awning.hosted ∧ (stopActive m .awning .inStop && stopActive m .awning .outStop) = true then countUp else id)
            0) := by
    rw [← h]
    unfold startedActs startedAct
    simp only
    cases ha : m.params.awning.hosted <;> cases hs : m.params.step.hosted
      <;> cases (stopActive m .awning .inStop && stopActive m .awning .outStop)
      <;> cases (stopActive m .step .inStop && stopActive m .step .outStop) <;> rfl
  have hawning' : (m.params.awning.hosted = true ∧ (startedActs m).awning.state = .fault)
      ↔ m.params.awning.hosted = true ∧ (stopActive m .awning .inStop && stopActive m .awning .outStop) = true :=
    and_congr_right fun hh => by rw [hawning hh, hfault]
  have hstep' : (m.params.step.hosted = true ∧ (startedActs m).step.state = .fault)
      ↔ m.params.step.hosted = true ∧ (stopActive m .step .inStop && stopActive m .step .outStop) = true :=
    and_congr_right fun hh => by rw [hstep hh, hfault]
  rw [hcount]
  simp only [hawning', hstep']
  split <;> split <;> rfl

theorem startRecord_eq (p : ActuatorParams) (i o : Bool) : startRecord p i o =
    { state := if i ∧ o then .fault else if i then .stowed else if o then .extended else .stoppedMid
      position := if i ∧ ¬ o then 0 else if o ∧ ¬ i then p.length else p.length / 2
      motor := .off, latched := none, travelTimer := none, stallTimer := none
      overTimer := none, pauseTimer := none, hold := false, releaseMark := false
      faults := { travelTimeout := false, stall := false, obstructed := false, conflict := i && o }
      cause := none } := by
  cases i <;> cases o <;> rfl

/-- An actuator's motor draws nothing after the start. -/
theorem startBlocks_motor (record : List Byte) (passed : Bool) (inputs : StartInputs) (s : State) (a : Actuator) :
    (startBlocks record passed inputs s).budget.loads[motorLoad a].state = .off :=
  ((acts_startBlocks record passed inputs s).loadKept (by cases a <;> decide)).off_iff.mpr (settledState_off record passed s _)

/-- The motion controller after the start (R141). -/
theorem startBlocks_actuators {record : List Byte} {passed : Bool} {inputs : StartInputs} {s t : State} {p : Params}
    (hp : p = profileParams record passed) (ht : t = startBlocks record passed inputs s) :
    t.motion.pins = { awningIn := inputs.awningIn, awningOut := inputs.awningOut, stepIn := inputs.stepIn, stepOut := inputs.stepOut }
    ∧ t.motion.vehicle = .unknown ∧ t.motion.storage = s.boot.storage ∧ t.motion.motionTimer = 0
    ∧ t.motion.wind = { lastCapture := none, speed := 0, gusts := 0, silence := if p.wind.hosted then some 0 else none }
    ∧ (∀ (a : Actuator) (i o : Bool), (p.actuator a).hosted = true → i = stopActive t a .inStop → o = stopActive t a .outStop →
        act t.motion a = startRecord (p.actuator a) i o ∧ t.budget.loads[motorLoad a].state = .off
        ∧ (i = true → o = true → inSet t.event.flags .actuatorFault = true))
    ∧ t.motion.actuatorFaults = (if p.awning.hosted ∧ t.motion.awning.state = .fault then 1 else 0)
        + (if p.step.hosted ∧ t.motion.step.state = .fault then 1 else 0) := by
  obtain ⟨m, hparams, hmotion, htm, hflag⟩ := startBlocks_motion (inputs := inputs) (s := s) hp ht
  obtain ⟨hpins, hvehicle, hstorage, hwind⟩ := startedActs_rest m
  have hfaults := startedActs_faults (m := m) (by rw [hmotion]; rfl)
  have htimer := startedActs_motionTimer m
  have hact := fun a => act_startedActs (m := m) (a := a)
  have hoff := startBlocks_motor record passed inputs s
  have htp : t.params = p := ht ▸ hp ▸ (acts_startBlocks record passed inputs s).params
  rw [← htm] at hpins hvehicle hstorage hwind hfaults htimer hact
  have hstop (a : Actuator) (e : StopEnd) := stopActive_congr (htp.trans hparams.symm) hpins a e
  rw [hparams] at hfaults hact
  rw [hmotion] at hpins hvehicle hstorage hwind htimer
  refine ⟨hpins, hvehicle, hstorage, htimer, hwind, fun a i o ha hi ho => ⟨?_, ?_, fun hin hout => hflag a ha ?_ ?_⟩, hfaults⟩
  · rw [hact a ha, hi, ho, hstop, hstop]
  · rw [ht]
    exact hoff a
  · rw [← hstop, ← hi, hin]
  · rw [← hstop, ← ho, hout]

end Sys2Proof.Machine

/-! The start of the light controller (R145, R158), and the statement of the motion and light controllers' start. -/

namespace Sys2Proof.Machine

-- As in the tests, so that no command needs threads of its own.
set_option Elab.async false

/-! ## Dark channels (R149, R158) -/

/-- Every channel is dark. -/
def Dark (s : State) : Prop := ∀ n : Fin 8, s.light.channels[n].current = 0

theorem dark_of_light {s t : State} (h : Dark s) (hl : t.light = s.light) : Dark t := by
  unfold Dark
  rw [hl]
  exact h

theorem channelHanded_dark (p : ChannelParams) (ld : LoadState) {c : Channel} (h : c.current = 0) :
    (channelHanded p ld c).current = 0 := by
  unfold channelHanded
  simp only
  split
  · exact (congrArg (min · p.ceiling) h).trans (Nat.zero_min _)
  · exact h

theorem dark_handLoad (i : Fin 17) (ld : LoadState) {s : State} (h : Dark s) : Dark (handLoad i ld s) := by
  intro n
  rw [handLoad_channel]
  split
  · exact channelHanded_dark _ _ (h n)
  · exact h n

theorem LoadSteps.dark {s t : State} (h : LoadSteps s t) (hs : Dark s) : Dark t := by
  induction h with
  | refl => exact hs
  | send t k p _ ih => exact dark_of_light ih (sendTelegram_light _ _ _)
  | flag t w _ ih => exact dark_of_light ih rfl
  | load t i r _ _ _ ih => exact dark_handLoad _ _ (dark_of_light ih (State.setBudget_light _ _))
  | cls t i c _ ih => exact dark_of_light ih rfl
  | book t b _ _ _ _ ih => exact dark_of_light ih rfl

theorem dark_evalChannel {s : State} (h : Dark s) (n : Fin 8) : Dark (evalChannel s n) := by
  cases hn : s.params.channels[n].hosted with
  | false => rw [evalChannel_of_notHosted hn]; exact h
  | true =>
    refine (loadSteps_evalChannel hn).dark fun m => ?_
    rw [putChannel_channel]
    split
    · exact h n
    · exact h m

theorem dark_evalChannels {s : State} (h : Dark s) : Dark (evalChannels s) := by
  unfold evalChannels
  generalize List.finRange 8 = l
  induction l generalizing s with
  | nil => exact h
  | cons n l ih => exact ih (dark_evalChannel h n)

/-! ## The class of a record under asks and releases (R47) -/

theorem cls_of_place {i : Fin 17} {s t : State} {r : LoadRecord} {R A : List (Fin 17)} (ht : t.budget = place s.budget i r R A)
    (hr : r.cls = s.budget.loads[i].cls) (j : Fin 17) : t.budget.loads[j].cls = s.budget.loads[j].cls := by
  rw [ht, place_loads]
  split
  · next h => rw [hr, h]
  · rfl

theorem cls_settle (before : PerClass Nat) (pass : Bool) (s : State) (j : Fin 17) :
    (settle before pass s).budget.loads[j].cls = s.budget.loads[j].cls := by
  rcases settle_record before pass s j with h | ⟨_, _, hl, _⟩
  · rw [h.1]
  · rw [hl]
    rfl

theorem cls_ask (i : Fin 17) (s : State) (j : Fin 17) : (ask i s).budget.loads[j].cls = s.budget.loads[j].cls := by
  unfold ask
  simp only
  split
  · rfl
  · split
    · exact (cls_settle _ _ _ j).trans (cls_of_place (admitLoad_budget i s) rfl j)
    · split
      · split
        · exact (cls_settle _ _ _ j).trans (cls_of_place (reduceLevel_budget i s) rfl j)
        · exact (cls_settle _ _ _ j).trans (cls_of_place (shedLoad_budget i .level s) rfl j)
      · refine (cls_settle _ _ _ j).trans ?_
        have hset := cls_of_place (setWaiting_budget i s) rfl j
        unfold wait
        rw [joinRetry_loads]
        exact hset

theorem cls_release (i : Fin 17) (s : State) (j : Fin 17) : (release i s).budget.loads[j].cls = s.budget.loads[j].cls := by
  unfold release
  split
  · rfl
  · exact (cls_settle _ _ _ j).trans (cls_of_place (turnOff_budget i s) rfl j)

theorem cls_evalChannel (s : State) (n : Fin 8) (j : Fin 17) :
    (evalChannel s n).budget.loads[j].cls = s.budget.loads[j].cls := by
  cases h : s.params.channels[n].hosted with
  | false => rw [evalChannel_of_notHosted h]
  | true =>
    rw [evalChannel_eq h]
    split
    · exact cls_ask _ _ j
    · split
      · exact cls_release _ _ j
      · rfl

theorem cls_evalChannels (s : State) (j : Fin 17) : (evalChannels s).budget.loads[j].cls = s.budget.loads[j].cls := by
  unfold evalChannels
  generalize List.finRange 8 = l
  exact foldl_keeps (fun x => x.budget.loads[j].cls) evalChannel (fun x n => cls_evalChannel x n j) l s

/-! ## One channel's load through the round (R51, R145) -/

theorem advanced_evalChannel {n m : Fin 8} (h : m ≠ n) (s : State) : Advanced (lightLoad n) s (evalChannel s m) := by
  have hne : lightLoad m ≠ lightLoad n := fun h' => h (lightLoad_injective h')
  cases hm : s.params.channels[m].hosted with
  | false => rw [evalChannel_of_notHosted hm]; exact .inl rfl
  | true =>
    have hput : Advanced (lightLoad n) s (putChannel m (channelEvaluated s m) s) := .inl rfl
    rw [evalChannel_eq hm]
    split
    · exact hput.trans (advanced_ask hne _)
    · split
      · exact hput.trans (advanced_release hne _)
      · exact hput

theorem advanced_foldl_evalChannel {n : Fin 8} {l : List (Fin 8)} (hl : n ∉ l) (s : State) :
    Advanced (lightLoad n) s (l.foldl evalChannel s) := by
  induction l generalizing s with
  | nil => exact .inl rfl
  | cons m l ih =>
    obtain ⟨hne, hl⟩ := not_or.mp (mt List.mem_cons.mpr hl)
    exact (advanced_evalChannel (Ne.symm hne) s).trans (ih hl _)

theorem loadKept_foldl_evalChannel {n : Fin 8} {l : List (Fin 8)} (hl : n ∉ l) (s : State) :
    LoadKept (lightLoad n) s (l.foldl evalChannel s) := by
  induction l generalizing s with
  | nil => exact .refl _ s
  | cons m l ih =>
    obtain ⟨hne, hl⟩ := not_or.mp (mt List.mem_cons.mpr hl)
    refine LoadKept.trans ((acts_evalChannel_asks s m).loadKept fun hmem => ?_) (ih hl _)
    simp only [List.mem_cons, reduceCtorEq, Effect.asks.injEq, List.not_mem_nil, or_false, false_or] at hmem
    exact hne (lightLoad_injective hmem)

theorem lights_evalChannel (s : State) (n : Fin 8) :
    (evalChannel s n).light.ownStepOut = s.light.ownStepOut ∧ (evalChannel s n).light.peerStepOut = s.light.peerStepOut
    ∧ (evalChannel s n).light.forcedOff = s.light.forcedOff ∧ (evalChannel s n).light.fadeTimer = s.light.fadeTimer
    ∧ (evalChannel s n).light.pwm = s.light.pwm := by
  cases h : s.params.channels[n].hosted with
  | false => rw [evalChannel_of_notHosted h]; exact ⟨rfl, rfl, rfl, rfl, rfl⟩
  | true => exact (loadSteps_evalChannel h).frame.lights

/-- The fields of the light controller beside its channels. -/
def lightFields (s : State) : Bool × Bool × Bool × Nat × BitVec 8 :=
  (s.light.ownStepOut, s.light.peerStepOut, s.light.forcedOff, s.light.fadeTimer, s.light.pwm)

theorem lightFields_evalChannel (s : State) (n : Fin 8) : lightFields (evalChannel s n) = lightFields s := by
  obtain ⟨h1, h2, h3, h4, h5⟩ := lights_evalChannel s n
  unfold lightFields
  rw [h1, h2, h3, h4, h5]

theorem lightFields_foldl (l : List (Fin 8)) (s : State) : lightFields (l.foldl evalChannel s) = lightFields s :=
  foldl_keeps lightFields evalChannel lightFields_evalChannel l s

/-- The load of a channel that is on, asked for out of OFF: ADMITTED at class 0, and else waiting or shed, or behind an
open gate drawing. -/
theorem evalChannel_asked {s : State} {n : Fin 8} (hn : s.params.channels[n].hosted = true) (hbudget : BudgetOk s)
    (hm : Mirrored s) (hoff : s.budget.loads[lightLoad n].state = .off) (hon : (channelEvaluated s n).on = true) :
    (s.budget.loads[lightLoad n].cls = .c0 → (evalChannel s n).budget.loads[lightLoad n].state = .admitted)
    ∧ (s.budget.loads[lightLoad n].cls ≠ .c0 → drawsCurrent (evalChannel s n).budget.loads[lightLoad n].state = true
        ∨ (evalChannel s n).budget.loads[lightLoad n].state ∈ [LoadState.waiting, .shed .level]) := by
  have hload : s.light.channels[n].load = .off := (hm.1 n).trans hoff
  have hask : evalChannel s n = ask (lightLoad n) (putChannel n (channelEvaluated s n) s) := by
    rw [evalChannel_eq hn, hon, hload]
    rfl
  have hput : BudgetOk (putChannel n (channelEvaluated s n) s) :=
    budgetOk_congr hbudget (sameTable_of_budget rfl rfl)
  obtain ⟨_, hzero, hshed, hwait⟩ := askIsAnsweredByClassAndFlag (putChannel n (channelEvaluated s n) s) (lightLoad n) hput
  rw [hask]
  refine ⟨fun hc => congrArg LoadRecord.state (hzero hoff hc), fun hc => ?_⟩
  cases hflag : perClass s.budget.shed s.budget.loads[lightLoad n].cls with
  | true =>
    rw [hshed hoff hc hflag]
    split
    · exact .inl rfl
    · exact .inr (by decide)
  | false =>
    rcases hwait hoff hc hflag with ⟨h, _⟩ | ⟨h, _⟩ <;> rw [h]
    · exact .inl rfl
    · exact .inr (by decide)

/-- The same, after the whole round. -/
theorem evalChannels_asked {s : State} {n : Fin 8} (hn : s.params.channels[n].hosted = true) (hbudget : BudgetOk s)
    (hm : Mirrored s) (hoff : s.budget.loads[lightLoad n].state = .off) (hon : (channelEvaluated s n).on = true) :
    (s.budget.loads[lightLoad n].cls = .c0 → (evalChannels s).budget.loads[lightLoad n].state = .admitted)
    ∧ (s.budget.loads[lightLoad n].cls ≠ .c0 → drawsCurrent (evalChannels s).budget.loads[lightLoad n].state = true
        ∨ (evalChannels s).budget.loads[lightLoad n].state ∈ [LoadState.waiting, .shed .level]) := by
  obtain ⟨before, after, hl⟩ := List.append_of_mem (List.mem_finRange n)
  have hnodup := List.nodup_finRange 8
  rw [hl] at hnodup
  obtain ⟨hbeforeNodup, hafter, hdisjoint⟩ := List.nodup_append.mp hnodup
  have hbefore : n ∉ before := fun hmem => hdisjoint n hmem n List.mem_cons_self rfl
  have hacts : Acts lightEffects s (before.foldl evalChannel s) := .foldl evalChannel acts_evalChannel _ _
  have hkept := (loadKept_foldl_evalChannel hbefore s).1 (firm_of_off hoff)
  have hcore := foldl_evalChannel_core hbeforeNodup n s
  rw [if_neg hbefore] at hcore
  have hfields := lightFields_foldl before s
  have hround : evalChannels s = after.foldl evalChannel (evalChannel (before.foldl evalChannel s) n) := by
    unfold evalChannels
    rw [hl, List.foldl_append, List.foldl_cons]
  rw [hround]
  generalize before.foldl evalChannel s = x at hacts hkept hcore hfields
  simp only [lightFields, Prod.mk.injEq] at hfields
  obtain ⟨hown, hpeer, hforced, _⟩ := hfields
  have hon' : (channelEvaluated x n).on = true := by
    have hevaluated := channelCore_channelEvaluated hacts.params hcore hown hpeer hforced
    simp only [channelCore, Prod.mk.injEq] at hevaluated
    obtain ⟨_, _, _, h, _⟩ := hevaluated
    exact h.trans hon
  have hlate := advanced_foldl_evalChannel (List.nodup_cons.mp hafter).1 (evalChannel x n)
  obtain ⟨hzero, hother⟩ := evalChannel_asked (by rw [hacts.params]; exact hn) (hacts.budgetOk hbudget) (hacts.mirrored hm)
    (by rw [hkept]; exact hoff) hon'
  rw [hkept] at hzero hother
  generalize after.foldl evalChannel (evalChannel x n) = t at hlate ⊢
  refine ⟨fun hc => ?_, fun hc => ?_⟩
  · rcases hlate with h | ⟨_, h⟩
    · exact h.trans (hzero hc)
    · exact h
  · rcases hlate with h | ⟨_, h⟩
    · rw [h]
      exact hother hc
    · rw [h]
      exact .inl rfl

/-! ## The controller after the start -/

theorem dark_settledState (record : List Byte) (passed : Bool) (s : State) : Dark (settledState record passed s) := by
  intro n
  have hget : (settledState record passed s).light.channels[n] = startedChannel (profileParams record passed).channels[n] :=
    startedLights_channel _ _ n
  rw [hget]
  rfl

theorem motionStart_asksNoLight (n : Fin 8) : Effect.asks (lightLoad n) ∉ motionStartEffects := by revert n; decide

/-- The class of a light's load (R47). -/
theorem startedClass_light (p : Params) (n : Fin 8) :
    (startedBudget p).loads[lightLoad n].cls = if p.channels[n].courtesy then .c0 else .c3 := by
  rw [startedBudget_loads]
  exact dif_pos n.isLt

/-- The state before the lights take the own step-out: each channel as R158 has it, its load OFF. -/
theorem motionStarted_lights {record : List Byte} {passed : Bool} {inputs : StartInputs} {s u : State} {p : Params}
    (hp : p = profileParams record passed) (hu : u = motionStarted record passed inputs s) :
    u.params = p ∧ BudgetOk u ∧ Mirrored u ∧ Dark u ∧ u.budget.gateOpen = false
    ∧ (∀ n : Fin 8, channelCore u.light.channels[n] = channelCore (startedChannel p.channels[n])
        ∧ u.budget.loads[lightLoad n].state = .off
        ∧ u.budget.loads[lightLoad n].cls = if p.channels[n].courtesy then .c0 else .c3)
    ∧ lightFields u = (false, false, s.boot.storage, 0, 0#8) := by
  have hacts := acts_motionStarted record passed inputs s
  have hgate : (motionStarted record passed inputs s).budget.gateOpen = false :=
    hacts.gateOpen.trans (by rw [settledState_budget]; rfl)
  obtain ⟨hchannels, hown, hpeer, hforced, hfade, hpwm⟩ := hacts.lightsKept (by decide)
  rw [← hu] at hacts hgate hchannels hown hpeer hforced hfade hpwm
  refine ⟨hp ▸ hacts.params, hacts.budgetOk (budgetOk_settledState record passed s),
    hacts.mirrored (mirrored_settledState record passed s),
    hacts.held (b := .light) (by decide) dark_of_light LoadSteps.dark (dark_settledState record passed s) (by decide), hgate, fun n => ?_, ?_⟩
  · have hoff := settledState_off record passed s (lightLoad n)
    have hkept := (hacts.loadKept (motionStart_asksNoLight n)).1 (firm_of_off hoff)
    refine ⟨(hchannels n).trans (congrArg channelCore (hp ▸ startedLights_channel _ _ n)), by rw [hkept]; exact hoff, ?_⟩
    rw [hkept, settledState_budget, ← hp]
    exact startedClass_light p n
  · unfold lightFields
    rw [hown, hpeer, hforced, hfade, hpwm]
    rfl

/-- A channel's on condition with its latch and scene bit 0 and no peer's step-out (R145). -/
theorem channelEvaluated_on {r : State} {n : Fin 8} {p : ChannelParams} {storage out : Bool}
    (hp : r.params.channels[n] = p) (hchannel : channelCore r.light.channels[n] = channelCore (startedChannel p))
    (hout : r.light.ownStepOut = out) (hpeer : r.light.peerStepOut = false) (hforced : r.light.forcedOff = storage) :
    channelCore (channelEvaluated r n) = (p.defaultLevel, false, false,
      decide (storage = false ∧ p.truth.getLsbD (if out then 4 else 0) = true), false) := by
  simp only [channelCore, Prod.mk.injEq] at hchannel
  obtain ⟨hlevel, hlatch, hscene, _, houtput⟩ := hchannel
  unfold channelEvaluated channelCore onCondition stepOutC
  simp only
  rw [hp, hlevel, hlatch, hscene, houtput, hout, hpeer, hforced]
  cases storage <;> cases out <;> simp [startedChannel, Channel.reset, truthIndex]

/-- A hosted channel after the round that starts the lights: its fields, its load and its target. -/
theorem evalChannels_started {r t : State} {n : Fin 8} {p : ChannelParams} {on : Bool} (ht : t = evalChannels r)
    (hp : r.params.channels[n] = p) (hn : p.hosted = true) (hbudget : BudgetOk r) (hm : Mirrored r) (hdark : Dark r)
    (hlights : LightsOk t) (hgate : t.budget.gateOpen = false) (hoff : r.budget.loads[lightLoad n].state = .off)
    (hclass : r.budget.loads[lightLoad n].cls = if p.courtesy then .c0 else .c3)
    (hcore : channelCore (channelEvaluated r n) = (p.defaultLevel, false, false, on, false)) :
    channelFixed t.light.channels[n] = (p.defaultLevel, false, false, on, false)
    ∧ t.light.channels[n].current = 0 ∧ t.light.channels[n].duty = 0
    ∧ (t.budget.loads[n.val].state = .off ↔ on = false)
    ∧ (on = true → p.courtesy = true → t.budget.loads[n.val].state = .admitted
        ∧ t.light.channels[n].target = p.defaultLevel)
    ∧ (on = true → p.courtesy = false → t.budget.loads[n.val].state ∈ [LoadState.waiting, .shed .level]
        ∧ t.light.channels[n].target = 0) := by
  have hacts := acts_evalChannels r
  have hhosted : r.params.channels[n].hosted = true := by rw [hp]; exact hn
  have hround := evalChannels_core r n
  have hlamp : LampOk (evalChannels r) n := lampOk_foldl_evalChannel hm hhosted (.inl (List.mem_finRange n))
  have hdark' := dark_evalChannels hdark n
  have htm := (hacts.mirrored hm).1 n
  obtain ⟨hrecords, _⟩ := hacts.budgetOk hbudget
  have hevaluated : channelAfterEval r n = channelEvaluated r n := if_pos hhosted
  rw [hevaluated, hcore] at hround
  have hasked := evalChannels_asked hhosted hbudget hm hoff
  have hcore' := hcore
  simp only [channelCore, Prod.mk.injEq] at hcore'
  obtain ⟨_, _, _, hevaluatedOn, _⟩ := hcore'
  rw [hevaluatedOn, hclass] at hasked
  rw [← ht] at hround hlamp hdark' htm hrecords hasked
  have hparams : t.params.channels[n] = p := by rw [ht, hacts.params]; exact hp
  obtain ⟨htarget, hduty, _⟩ := hlights n
  obtain ⟨_, hlampOff⟩ := hlamp
  have hfields := hround
  simp only [channelCore, Prod.mk.injEq] at hfields
  obtain ⟨hlevel, _, _, htOn, _⟩ := hfields
  rw [hparams, htm, hlevel] at htarget
  refine ⟨hround, hdark', by rw [hduty, hdark']; decide, by rw [← htOn]; exact hlampOff, fun hon hc => ?_, fun hon hc => ?_⟩
  · rw [hc] at hasked
    have hadmitted := (hasked hon).1 rfl
    exact ⟨hadmitted, htarget.trans (by rw [show t.budget.loads[n.val].state = .admitted from hadmitted]; rfl)⟩
  · rw [hc] at hasked
    obtain ⟨_, _, hclosed, _⟩ := hrecords (lightLoad n)
    have hmem : t.budget.loads[n.val].state ∈ [LoadState.waiting, .shed .level] := by
      refine ((hasked hon).2 nofun).resolve_left fun hdraws => ?_
      have hcls : t.budget.loads[lightLoad n].cls = .c3 := by rw [ht, cls_evalChannels, hclass, hc]; rfl
      exact absurd (hdraws.symm.trans (hclosed hgate (by rw [hcls]; nofun))) nofun
    refine ⟨hmem, htarget.trans ?_⟩
    rcases List.mem_cons.mp hmem with h | h
    · rw [h]; rfl
    · rw [List.mem_singleton.mp h]; rfl

/-- The lights after the start (R145, R158). -/
theorem startBlocks_lights {record : List Byte} {passed : Bool} {inputs : StartInputs} {s t : State} {p : Params}
    (hp : p = profileParams record passed) (ht : t = startBlocks record passed inputs s) :
    t.light.ownStepOut = decide (p.step.hosted = true ∧ t.motion.step.state ≠ .stowed)
    ∧ t.light.peerStepOut = false ∧ t.light.forcedOff = s.boot.storage ∧ t.light.fadeTimer = 0 ∧ t.light.pwm = 0#8
    ∧ (∀ (n : Fin 8) (on : Bool), p.channels[n].hosted = true →
        on = decide (s.boot.storage = false ∧ p.channels[n].truth.getLsbD (if t.light.ownStepOut then 4 else 0) = true) →
        channelFixed t.light.channels[n] = (p.channels[n].defaultLevel, false, false, on, false)
        ∧ t.light.channels[n].current = 0 ∧ t.light.channels[n].duty = 0
        ∧ (t.budget.loads[n.val].state = .off ↔ on = false)
        ∧ (on = true → p.channels[n].courtesy = true → t.budget.loads[n.val].state = .admitted
            ∧ t.light.channels[n].target = p.channels[n].defaultLevel)
        ∧ (on = true → p.channels[n].courtesy = false → t.budget.loads[n.val].state ∈ [LoadState.waiting, .shed .level]
            ∧ t.light.channels[n].target = 0)) := by
  obtain ⟨hup, hbudget, hm, hdark, hgate, hchannels, hfields⟩ := motionStarted_lights (inputs := inputs) (s := s) hp rfl
  have hacts := acts_startBlocks record passed inputs s
  have hlights := hacts.lightsOk (lightsOk_settledState record passed s)
  have htm := hacts.mirrored (mirrored_settledState record passed s)
  have htgate : t.budget.gateOpen = false := by
    rw [ht, hacts.gateOpen, settledState_budget]
    rfl
  obtain ⟨hrecords, _⟩ := hacts.budgetOk (budgetOk_settledState record passed s)
  have htp : t.params = p := ht ▸ hp ▸ hacts.params
  have hlamps := (lampsIn_startBlocks record passed inputs s).1.2.1
  rw [← ht] at hlights htm hrecords hlamps
  rw [startBlocks_eq] at ht
  generalize motionStarted record passed inputs s = u at hup hbudget hm hdark hgate hchannels hfields ht
  have hmotion : t.motion = u.motion := by rw [ht, handOwnStepOut_motion]
  have hset := (written_setOwnStepOut u (ownStepOut u)).acts
  have hround : t = evalChannels (u.setLight { u.light with ownStepOut := ownStepOut u }) := ht
  simp only [lightFields, Prod.mk.injEq] at hfields
  obtain ⟨_, upeer, uforced, ufade, upwm⟩ := hfields
  have hrfields : lightFields (u.setLight { u.light with ownStepOut := ownStepOut u })
      = (ownStepOut u, false, s.boot.storage, 0, 0#8) := by
    unfold lightFields
    simp only [State.setLight_light]
    rw [upeer, uforced, ufade, upwm]
  have hrchannel (n : Fin 8) : (u.setLight { u.light with ownStepOut := ownStepOut u }).light.channels[n] = u.light.channels[n] := rfl
  have hrparams : (u.setLight { u.light with ownStepOut := ownStepOut u }).params = p := hup
  have hrload (i : Fin 17) : (u.setLight { u.light with ownStepOut := ownStepOut u }).budget.loads[i] = u.budget.loads[i] := rfl
  have hrbudget : BudgetOk (u.setLight { u.light with ownStepOut := ownStepOut u }) :=
    budgetOk_congr hbudget (sameTable_of_budget rfl rfl)
  have hrm := hset.mirrored hm
  have hrdark : Dark (u.setLight { u.light with ownStepOut := ownStepOut u }) := hdark
  have hout : ownStepOut u = decide (p.step.hosted = true ∧ t.motion.step.state ≠ .stowed) := by
    unfold ownStepOut
    rw [hup, hmotion]
    exact Bool.eq_iff_iff.mpr (by simp [bne_iff_ne])
  generalize u.setLight { u.light with ownStepOut := ownStepOut u } = r
    at hround hrfields hrchannel hrparams hrload hrbudget hrm hrdark
  have htfields : lightFields t = lightFields r := by
    rw [hround]
    exact lightFields_foldl _ r
  rw [hrfields] at htfields
  simp only [lightFields, Prod.mk.injEq] at hrfields htfields
  obtain ⟨rown, rpeer, rforced, _⟩ := hrfields
  obtain ⟨town, tpeer, tforced, tfade, tpwm⟩ := htfields
  refine ⟨town.trans hout, tpeer, tforced, tfade, tpwm, fun n on hn hon => ?_⟩
  obtain ⟨hchannel, hoff, hclass⟩ := hchannels n
  rw [← hrchannel] at hchannel
  rw [← hrload] at hoff hclass
  refine evalChannels_started hround (by rw [hrparams]) hn hrbudget hrm hrdark hlights htgate hoff hclass ?_
  rw [hon, town]
  exact channelEvaluated_on (by rw [hrparams]) hchannel rown rpeer rforced

/-! ## The statement -/

/-- Settles O15: the records the stops give, and the round that evaluates the started channels. -/
theorem motionAndLightsStart : Obligations.MotionAndLightsStart := by
  intro c bytes inputs s p _ hpasses hin hp
  obtain ⟨_, hexec⟩ := exec_of_recordComesIn hpasses hin
  have hp' : p = profileParams bytes true := hp
  obtain ⟨hpins, hvehicle, hstorage, htimer, hwind, hact, hfaults⟩ := startBlocks_actuators (inputs := inputs) (s := s) hp' rfl
  obtain ⟨hown, hpeer, hforced, hfade, hpwm, hchannels⟩ := startBlocks_lights (inputs := inputs) (s := s) hp' rfl
  refine ⟨_, hexec, hpins, hvehicle, hstorage, htimer, hwind, fun a i o ha hi ho => ?_, hfaults, hown, hpeer, hforced, hfade,
    hpwm, hchannels⟩
  obtain ⟨hrecord, hoff, hflag⟩ := hact a i o ha hi ho
  exact ⟨hrecord.trans (startRecord_eq _ i o), hoff, hflag⟩

end Sys2Proof.Machine

/-! STORAGE-SET: its answers, and the entry into storage mode (R80, R107, R137, R156, R190). -/

namespace Sys2Proof.Machine

-- As in the tests, so that no command needs threads of its own.
set_option Elab.async false

/-! ## The answers (R190) -/

theorem decideStorageSet_of_large {value : Byte} (h : 2 ≤ value.toNat) (s : State) :
    decideStorageSet value s = (s, .bare .badRequest) := by
  unfold decideStorageSet
  rw [flagOfByte_of_large h]

theorem flagOfByte_bitOf (b : Bool) : flagOfByte (bitOf 0 b) = some b := by cases b <;> rfl

theorem decideStorageSet_bitOf (set : Bool) (s : State) : decideStorageSet (bitOf 0 set) s
    = (if set = s.boot.storage then s else if set then enterStorage s else exitStorage s,
        { outcome := .done, data := [bitOf 0 set] }) := by
  unfold decideStorageSet
  rw [flagOfByte_bitOf]
  simp only
  refine congrArg (Prod.mk _) (congrArg (fun b => Answer.mk .done [bitOf 0 b]) ?_)
  split
  · next h => exact h.symm
  · split
    · next h => exact (enterStorage_storage s).trans h.symm
    · next h => exact (exitStorage_storage s).trans (Bool.eq_false_iff.mpr h).symm

theorem enterStorage_boot (s : State) : (enterStorage s).boot = { s.boot with storage := true } := by
  have hacts := acts_beforeLightsEnter (s.setBoot { s.boot with storage := true })
  unfold enterStorage
  generalize motionEntersStorage (evalPump (zonesEnterStorage (s.setBoot { s.boot with storage := true }))) = u at hacts
  rw [boot_of_acts (acts_lightsEnterStorage u) (by decide), boot_of_acts hacts (by decide)]
  rfl

theorem exitStorage_boot (s : State) : (exitStorage s).boot = { s.boot with storage := false } := by
  have hacts := acts_beforeLightsExit (s.setBoot { s.boot with storage := false })
  unfold exitStorage
  generalize motionExitsStorage (evalPump (zonesExitStorage (s.setBoot { s.boot with storage := false }))) = u at hacts
  rw [boot_of_acts (acts_lightsExitStorage u) (by decide), boot_of_acts hacts (by decide)]
  rfl

theorem bitOf_of_small {value : Byte} (h : value.toNat < 2) : value = bitOf 0 (value == 1#8) := by
  rcases flagOfByte_of_small h with rfl | rfl <;> rfl

theorem exec_storageSet (rq : Requester) (value : Byte) (s : State) :
    exec (.storageSet rq value) s = .next (takeRequest rq (decideStorageSet value) s) := rfl

/-- Every STORAGE-SET with a good argument stores it and answers with it. -/
theorem storageSet_answers {s : State} {rq : Requester} (htakes : takesRequests s = true) (set : Bool) :
    (takeRequest rq (decideStorageSet (bitOf 0 set)) s).boot = { s.boot with storage := set }
    ∧ Replied s (takeRequest rq (decideStorageSet (bitOf 0 set)) s) rq .done [bitOf 0 set] := by
  have hdec := decideStorageSet_bitOf set s
  have hacts := acts_decideStorageSet (bitOf 0 set) s
  rw [hdec] at hacts
  have hreplied := takeRequest_replied (rq := rq) htakes hdec hacts (by decide)
  refine ⟨?_, hreplied⟩
  obtain ⟨l, hl⟩ := takeRequest_published (rq := rq) htakes hdec
  have hboot : (if set = s.boot.storage then s else if set then enterStorage s else exitStorage s).boot
      = { s.boot with storage := set } := by
    split
    · next h => rw [h]
    · split
      · next h => rw [enterStorage_boot, h]
      · next h => rw [exitStorage_boot, Bool.eq_false_iff.mpr h]
  rw [hl]
  exact (boot_of_acts (acts_publish s _) (by decide)).trans hboot

/-! ## The zones enter (R80) -/

/-- The state with the zones in storage mode, before the pump is evaluated. -/
def zonesIn (s : State) : State := zonesEnterStorage (s.setBoot { s.boot with storage := true })

theorem zoneKept_zoneEntersStorage {n : Fin 4} (s : State) (m : Fin 4) (h : m ≠ n) : ZoneKept n s (zoneEntersStorage s m) := by
  unfold zoneEntersStorage
  simp only
  split
  · exact zoneKept_putZone h _ s
  · exact .refl n s

theorem zoneEntersStorage_self {s : State} {n : Fin 4} (h : s.params.zones[n].hosted = true) :
    zoneFixed (zoneEntersStorage s n).zone.zones[n]
      = zoneFixed { s.zone.zones[n] with mode := .frostGuard, saved := some s.zone.zones[n].mode } := by
  unfold zoneEntersStorage
  simp only
  rw [if_pos h, putZone_zone_self]
  rfl

/-- A hosted zone saves its mode and takes FROST-GUARD. -/
theorem zonesIn_zone {s : State} {n : Fin 4} (h : s.params.zones[n].hosted = true) : zoneFixed (zonesIn s).zone.zones[n]
    = zoneFixed { s.zone.zones[n] with mode := .frostGuard, saved := some s.zone.zones[n].mode } := by
  obtain ⟨x, hx, hbefore, _, hafter⟩ := foldl_zones acts_zoneEntersStorage
    (fun t m hne => zoneKept_zoneEntersStorage (n := n) t m hne) (s.setBoot { s.boot with storage := true })
  have hself := zoneEntersStorage_self (s := x) (n := n) (by rw [hx.params]; exact h)
  refine hafter.fixed.trans (hself.trans ?_)
  have hfixed := hbefore.fixed
  simp only [zoneFixed, Prod.mk.injEq] at hfixed ⊢
  obtain ⟨hmode, hsetpoint, _, htemp, hfaulted, hintegral, hduty⟩ := hfixed
  exact ⟨trivial, hsetpoint, congrArg some hmode, htemp, hfaulted, hintegral, hduty⟩

/-! ## The switches of a channel (R156) -/

/-- The set level, the latch and the scene bit of a channel: what no evaluation writes. -/
def switchFields (c : Channel) : Nat × Bool × Bool := (c.setLevel, c.latch, c.scene)

theorem switchFields_of_core {c d : Channel} (h : channelCore c = channelCore d) : switchFields c = switchFields d := by
  simp only [channelCore, Prod.mk.injEq] at h
  obtain ⟨hlevel, hlatch, hscene, _⟩ := h
  unfold switchFields
  rw [hlevel, hlatch, hscene]

theorem switchFields_evalChannels (s : State) (n : Fin 8) :
    switchFields (evalChannels s).light.channels[n] = switchFields s.light.channels[n] := by
  refine (switchFields_of_core (evalChannels_core s n)).trans ?_
  unfold channelAfterEval
  split <;> rfl

theorem switchFields_handOwnStepOut (out : Bool) (s : State) (n : Fin 8) :
    switchFields (handOwnStepOut out s).light.channels[n] = switchFields s.light.channels[n] := by
  have heval := switchFields_evalChannels (s.setLight { s.light with ownStepOut := out }) n
  unfold handOwnStepOut
  generalize evalChannels (s.setLight { s.light with ownStepOut := out }) = t at heval ⊢
  exact heval

theorem switchFields_publish (before s : State) (n : Fin 8) :
    switchFields (publish before s).light.channels[n] = switchFields s.light.channels[n] := by
  have hstep : switchFields (stepOutAfter before s).light.channels[n] = switchFields s.light.channels[n] := by
    unfold stepOutAfter
    split
    · rfl
    · exact switchFields_handOwnStepOut _ s n
  have hpublish : publish before s = tanksAfter before (motionAfter before (stepOutAfter before s)) := rfl
  rw [hpublish]
  generalize stepOutAfter before s = u at hstep ⊢
  have hrest := ((acts_motionAfter before u).append (acts_tanksAfter before _)
    (N := motionTelegramEffects ++ tanksEffects)).lightsKept (by decide)
  exact (switchFields_of_core (hrest.1 n)).trans hstep

/-- A hosted channel without its latch and its scene bit. -/
def channelCleared (p : Params) (n : Fin 8) (c : Channel) : Channel :=
  if p.channels[n].hosted then { c with latch := false, scene := false } else c

theorem foldl_clearChannel (s : State) : (List.finRange 8).foldl clearChannel s = s.setLight { s.light with
    channels := Vector.ofFn fun n => channelCleared s.params n s.light.channels[n] } := by
  refine foldl_allChannels (p := s.params) (w := s.light.pwm) (fun x n hp _ => ?_) rfl rfl
  unfold clearChannel channelCleared
  rw [hp]
  split
  · rfl
  · exact (putChannel_self n x).symm

/-- The lights' entry clears the latch and the scene bit of every hosted channel (R156). -/
theorem switchFields_lightsEnterStorage {s : State} {n : Fin 8} (h : s.params.channels[n].hosted = true) :
    switchFields (lightsEnterStorage s).light.channels[n] = (s.light.channels[n].setLevel, false, false) := by
  unfold lightsEnterStorage
  rw [switchFields_evalChannels, foldl_clearChannel]
  have hget := Vector.getElem_ofFn (f := fun n : Fin 8 => channelCleared s.params n s.light.channels[n]) n.isLt
  refine (congrArg switchFields hget).trans ?_
  unfold channelCleared
  rw [if_pos (by exact h)]
  rfl

/-! ## The stages of the entry -/

/-- The state with the pump stopped, before the motion controller takes the entry. -/
def pumpStopped (s : State) : State := evalPump (zonesIn s)

/-- The state after the motion controller's STOW. -/
def stowedIn (s : State) : State := takeStow false (storageTaken (pumpStopped s))

theorem enterStorage_eq (s : State) : enterStorage s = lightsEnterStorage (stowedIn s) := rfl

theorem acts_zonesIn (s : State) : Acts [.writes .boot, .writes .zone] s (zonesIn s) :=
  (written_setBoot s { s.boot with storage := true }).acts.append (acts_zonesEnterStorage _)

theorem acts_pumpStopped (s : State) : Acts [.writes .boot, .writes .zone, .asks 13] s (pumpStopped s) :=
  (acts_zonesIn s).append (acts_evalPump _)

theorem acts_storageTaken (s : State) : Acts [.writes .boot, .writes .zone, .asks 13, .writes .motion] s
    (storageTaken (pumpStopped s)) :=
  (acts_pumpStopped s).append (written_setMotion _ { (pumpStopped s).motion with storage := true }).acts

/-- The acts behind the STOW, to the REPLY. -/
def afterStowEffects : List Effect := .sends :: lightEffects ++ publishEffects

theorem acts_afterStow (s : State) (payload : List Byte) : Acts afterStowEffects (stowedIn s)
    (sendTelegram .reply payload (publish s (enterStorage s))) := by
  rw [enterStorage_eq]
  exact ((acts_lightsEnterStorage _).append (acts_publish s _) (N := afterStowEffects)).append (acts_sendTelegram .reply payload _)

theorem storageTaken_act (s : State) (a : Actuator) : act (storageTaken s).motion a = act s.motion a := by cases a <;> rfl

theorem storageTaken_params (s : State) : (storageTaken s).params = s.params := rfl

theorem Stowing.of_storageTaken {o : Bool} {a : Actuator} {s t : State} (h : Stowing o a (storageTaken s) t) : Stowing o a s t := by
  cases a <;> exact ⟨h.still, h.retracting, h.extending, h.home, h.driven⟩

/-- The end of a command and a REPLY leave every actuator, and so do the lights. -/
theorem beside_afterStow (s : State) (payload : List Byte) (a : Actuator) :
    Beside a (stowedIn s) (sendTelegram .reply payload (publish s (enterStorage s))) := by
  have hlights := (acts_lightsEnterStorage (stowedIn s)).besides (by decide) a
  rw [enterStorage_eq]
  exact (hlights.trans (beside_publish s _ a)).trans ((acts_sendTelegram .reply payload _).besides (by decide) a)

/-- The entry's STOW, seen from an actuator that is not held (R137). -/
theorem stowing_enterStorage {s : State} {a : Actuator} (hhosted : (s.params.actuator a).hosted = true)
    (hhold : (act s.motion a).hold = false) (payload : List Byte) :
    Stowing false a s (sendTelegram .reply payload (publish s (enterStorage s))) := by
  have hbefore := (acts_pumpStopped s).besides (by decide) a
  have hact : act (storageTaken (pumpStopped s)).motion a = act s.motion a :=
    (storageTaken_act (pumpStopped s) a).trans hbefore.act
  have hparams : (storageTaken (pumpStopped s)).params = s.params := (storageTaken_params _).trans hbefore.params
  have hstow := stowing_takeStow (s := storageTaken (pumpStopped s)) (a := a) (o := false)
    (by rw [hparams]; exact hhosted) (.inl (by rw [hact]; exact hhold))
  exact (hstow.of_storageTaken.between hbefore (.refl a _)).between (.refl a s) (beside_afterStow s payload a)

/-- The entry leaves an actuator that is not hosted or is held. -/
theorem act_enterStorage_left {s : State} {a : Actuator}
    (h : (s.params.actuator a).hosted = false ∨ (act s.motion a).hold = true) (payload : List Byte) :
    act (sendTelegram .reply payload (publish s (enterStorage s))).motion a = act s.motion a := by
  have hbefore := (acts_pumpStopped s).besides (by decide) a
  have hact : act (storageTaken (pumpStopped s)).motion a = act s.motion a := (storageTaken_act _ a).trans hbefore.act
  have hparams : (storageTaken (pumpStopped s)).params = s.params := (storageTaken_params _).trans hbefore.params
  have hstow : act (stowedIn s).motion a = act (storageTaken (pumpStopped s)).motion a := by
    unfold stowedIn
    generalize storageTaken (pumpStopped s) = x at hact hparams ⊢
    refine act_takeStow_left ?_
    rw [hact, hparams]
    exact h.imp_right fun h => ⟨h, rfl⟩
  exact (beside_afterStow s payload a).act.trans (hstow.trans hact)

/-- The entry raises STOW-FAILED for an actuator in FAULT that is not held, and for nothing else (R131). -/
theorem enterStorage_stowFailed (s : State) (payload : List Byte) :
    inSet (sendTelegram .reply payload (publish s (enterStorage s))).event.flags .stowFailed = true
    ↔ inSet s.event.flags .stowFailed = true
      ∨ ∃ a : Actuator, (s.params.actuator a).hosted = true ∧ (act s.motion a).state = .fault ∧ (act s.motion a).hold = false := by
  have hbefore := acts_storageTaken s
  have hevent : (storageTaken (pumpStopped s)).event = s.event := hbefore.eventKept (by decide)
  have hlate : (sendTelegram .reply payload (publish s (enterStorage s))).event = (stowedIn s).event :=
    (acts_afterStow s payload).eventKept (by decide)
  have hact (a : Actuator) : act (storageTaken (pumpStopped s)).motion a = act s.motion a :=
    (storageTaken_act (pumpStopped s) a).trans ((acts_pumpStopped s).besides (by decide) a).act
  have hstow := takeStow_stowFailed false (storageTaken (pumpStopped s))
  have hparams := hbefore.params
  rw [hlate, stowedIn]
  generalize storageTaken (pumpStopped s) = x at hevent hact hstow hparams ⊢
  rw [hevent, hparams] at hstow
  simp only [hact] at hstow
  rw [hstow]
  simp only [reduceCtorEq, or_false]

end Sys2Proof.Machine

/-! STORAGE-SET: the loads after the entry into storage mode, and the exit from it (R82, R107, R137, R156, R157, R190). -/

namespace Sys2Proof.Machine

-- As in the tests, so that no command needs threads of its own.
set_option Elab.async false

/-! ## The loads after the entry (R190) -/

/-- The acts of the entry up to its STOW. -/
def entryEffects : List Effect := [.writes .boot, .writes .zone, .asks 13] ++ stowEffects

theorem acts_stowedIn (s : State) : Acts entryEffects s (stowedIn s) :=
  (acts_storageTaken s).append (acts_takeStow false _)

theorem entry_asksNoLight (n : Fin 8) : Effect.asks (lightLoad n) ∉ entryEffects := by revert n; decide

/-- The state with the latches and the scene bits cleared, before the channels are evaluated. -/
def lightsCleared (s : State) : State := (List.finRange 8).foldl clearChannel (s.setLight { s.light with forcedOff := true })

theorem acts_lightsCleared (s : State) : Acts [.writes .light] s (lightsCleared s) :=
  (written_setLight s { s.light with forcedOff := true }).acts.trans (.foldl _ acts_clearChannel _ _)

/-- After the entry the lights are in step, whatever the truth tables gave before. -/
theorem lampsIn_enterStorage_of_off {s : State} (hm : Mirrored s)
    (hnone : ∀ n : Fin 8, s.params.channels[n].hosted = false → s.budget.loads[lightLoad n].state = .off) :
    LampsIn (enterStorage s) := by
  have hbefore := acts_stowedIn s
  have hstowed : ∀ n : Fin 8, (stowedIn s).params.channels[n].hosted = false →
      (stowedIn s).budget.loads[lightLoad n].state = .off := fun n hn => by
    rw [hbefore.params] at hn
    exact (hbefore.loadKept (entry_asksNoLight n)).off_iff.mpr (hnone n hn)
  have hmirrored := hbefore.mirrored hm
  have hforced := lightsEnterStorage_forcedOff (stowedIn s)
  have hboot := enterStorage_storage s
  rw [enterStorage_eq] at hboot ⊢
  generalize stowedIn s = u at hstowed hmirrored hforced hboot ⊢
  have hcleared := acts_lightsCleared u
  have heq : lightsEnterStorage u = evalChannels (lightsCleared u) := rfl
  refine ⟨⟨(acts_lightsEnterStorage u).mirrored hmirrored, ?_⟩, hforced.trans hboot.symm⟩
  rw [heq]
  refine lampsSound_evalChannels (hcleared.mirrored hmirrored) fun n hn => ?_
  rw [hcleared.params] at hn
  exact (hcleared.loadKept (by simp)).off_iff.mpr (hstowed n hn)

/-- The state that a STORAGE-SET with this answer leaves. -/
def storageEnded (s u : State) (payload : List Byte) : State := sendTelegram .reply payload (publish s u)

theorem lampsIn_storageEnded {s u : State} (h : LampsIn u) (payload : List Byte) : LampsIn (storageEnded s u payload) :=
  (acts_sendTelegram .reply payload _).lampsIn (by decide) (lampsIn_publish s h)

theorem waterIn_storageEnded {s u : State} (h : WaterIn u) (payload : List Byte) : WaterIn (storageEnded s u payload) :=
  (acts_sendTelegram .reply payload _).waterIn (by decide) (waterIn_publish s h)

theorem sounds_storageEnded {flag : Bool} {s u : State} (h : Sounds flag u) (payload : List Byte) :
    Sounds flag (storageEnded s u payload) := (acts_sendTelegram .reply payload _).sounds (sounds_publish h)

/-- The acts between the effect of a STORAGE-SET and its end. -/
def storageEndEffects : List Effect := .sends :: publishEffects

theorem acts_storageEnded (s u : State) (payload : List Byte) : Acts storageEndEffects u (storageEnded s u payload) :=
  (acts_publish s u).append (acts_sendTelegram .reply payload _)

theorem switchFields_storageEnded (s u : State) (payload : List Byte) (n : Fin 8) :
    switchFields (storageEnded s u payload).light.channels[n] = switchFields u.light.channels[n] := by
  unfold storageEnded
  rw [sendTelegram_light]
  exact switchFields_publish s u n

/-- Lights that are forced off are off (R156). -/
theorem LampsIn.dark {t : State} (h : LampsIn t) (hstorage : t.boot.storage = true) (n : Fin 8) :
    t.budget.loads[lightLoad n].state = .off ∧ (t.params.channels[n].hosted = true → t.light.channels[n].on = false) := by
  obtain ⟨⟨_, hhosted, hnone⟩, hflag⟩ := h
  cases hn : t.params.channels[n].hosted with
  | false => exact ⟨hnone n hn, nofun⟩
  | true =>
    obtain ⟨hcond, hoff⟩ := hhosted n hn
    have hon : t.light.channels[n].on = false := by
      rw [hcond, onCondition, hflag, hstorage]
      rfl
    exact ⟨hoff.mpr hon, fun _ => hon⟩

/-- While storage mode holds no load of class 2 or 3 is other than OFF, where the motors of actuators that are not hosted
are OFF (R190). -/
theorem comfort_off {t : State} (hbudget : BudgetOk t) (hlamps : LampsIn t) (hstorage : t.boot.storage = true)
    (hpump : t.budget.loads[13].state = .off) (hsounds : Sounds true t)
    (hnone : ∀ a : Actuator, (t.params.actuator a).hosted = false → t.budget.loads[motorLoad a].state = .off) (i : Fin 17) :
    t.budget.loads[i].state = .off ∨ t.budget.loads[i].cls = .c0 ∨ t.budget.loads[i].cls = .c1 := by
  have hallowed : classAllowed i t.budget.loads[i].cls = true := (hbudget.1 i).2.1.1
  have hmotor (a : Actuator) : t.budget.loads[motorLoad a].state = .off ∨ t.budget.loads[motorLoad a].cls = .c0 := by
    cases ha : (t.params.actuator a).hosted with
    | false => exact .inl (hnone a ha)
    | true =>
      obtain ⟨⟨_, hmoves, hstill⟩, hfree⟩ := hsounds.2 a ha
      cases hst : isMoving (act t.motion a).state with
      | false => exact .inl (hstill hst)
      | true =>
        have hin : (act t.motion a).state ≠ .extending := fun hext =>
          absurd (hsounds.1.symm.trans (hfree hext).2.1) nofun
        exact .inr ((hmoves hst).2.trans (if_neg hin))
  unfold classAllowed at hallowed
  split at hallowed
  · next hlt => exact .inl ((hlamps.dark hstorage ⟨i.val, hlt⟩).1)
  · split at hallowed
    · exact .inr (.inr (beq_iff_eq.mp hallowed))
    · split at hallowed
      · next h13 =>
        obtain rfl : i = 13 := Fin.ext h13
        exact .inl hpump
      · split at hallowed
        · exact .inr (.inl (beq_iff_eq.mp hallowed))
        · have hlast : i = 15 ∨ i = 16 := by omega
          rcases hlast with rfl | rfl
          · exact (hmotor .awning).imp_right .inl
          · exact (hmotor .step).imp_right .inl

end Sys2Proof.Machine

/-! The entry into storage mode, as STORAGE-SET leaves it (R80, R107, R137, R156, R190). -/

namespace Sys2Proof.Machine

-- As in the tests, so that no command needs threads of its own.
set_option Elab.async false

/-! ## The whole of a STORAGE-SET that enters -/

/-- The state that the entry leaves, its REPLY handed to the line. -/
def storageEntered (s : State) (payload : List Byte) : State := storageEnded s (enterStorage s) payload

theorem storageSet_enters {s : State} {rq : Requester} (htakes : takesRequests s = true) (hout : s.boot.storage = false) :
    ∃ payload : List Byte, exec (.storageSet rq 1#8) s = .next (storageEntered s payload) := by
  have hdec : decideStorageSet (bitOf 0 true) s = (enterStorage s, { outcome := .done, data := [bitOf 0 true] }) := by
    rw [decideStorageSet_bitOf, if_neg (by rw [hout]; nofun), if_pos rfl]
  have hset : (1#8 : Byte) = bitOf 0 true := rfl
  refine ⟨replyPayload rq { outcome := .done, data := [bitOf 0 true] }, ?_⟩
  rw [exec_storageSet, hset, takeRequest_of_decided (rq := rq) htakes hdec]
  rfl

/-- The acts of the entry, from the zones' turn on. -/
def enteredEffects : List Effect := [.asks 13, .writes .motion] ++ stowEffects ++ afterStowEffects

theorem acts_storageEntered_of_zonesIn (s : State) (payload : List Byte) :
    Acts enteredEffects (zonesIn s) (storageEntered s payload) := by
  have hpump : Acts [.asks 13] (zonesIn s) (pumpStopped s) := acts_evalPump _
  have htaken : Acts [.writes .motion] (pumpStopped s) (storageTaken (pumpStopped s)) :=
    (written_setMotion _ { (pumpStopped s).motion with storage := true }).acts
  have hstow : Acts ([.asks 13, .writes .motion] ++ stowEffects) (zonesIn s) (stowedIn s) :=
    (hpump.append htaken (N := [.asks 13, .writes .motion])).append (acts_takeStow false _)
  exact hstow.append (acts_afterStow s payload)

theorem acts_storageEntered (s : State) (payload : List Byte) :
    Acts ([.writes .boot, .writes .zone] ++ enteredEffects) s (storageEntered s payload) :=
  (acts_zonesIn s).append (acts_storageEntered_of_zonesIn s payload)

/-! ## The zones and the lights -/

/-- A hosted zone saves its mode and takes FROST-GUARD, and the rest of the entry leaves it (R80). -/
theorem storageEntered_zone {s : State} {n : Fin 4} (h : s.params.zones[n].hosted = true) (payload : List Byte) :
    zoneFixed (storageEntered s payload).zone.zones[n]
      = zoneFixed { s.zone.zones[n] with mode := .frostGuard, saved := some s.zone.zones[n].mode } :=
  (((acts_storageEntered_of_zonesIn s payload).zonesSame (by decide)).1 n).trans (zonesIn_zone h)

/-- Every hosted channel loses its latch and its scene bit, and keeps its set level (R156). -/
theorem storageEntered_switches {s : State} {n : Fin 8} (h : s.params.channels[n].hosted = true) (payload : List Byte) :
    switchFields (storageEntered s payload).light.channels[n] = (s.light.channels[n].setLevel, false, false) := by
  have hbefore := acts_stowedIn s
  have hkept := switchFields_of_core ((hbefore.lightsKept (by decide)).1 n)
  have hentered := switchFields_lightsEnterStorage (s := stowedIn s) (n := n) (by rw [hbefore.params]; exact h)
  unfold storageEntered
  rw [switchFields_storageEnded, enterStorage_eq, hentered]
  exact congrArg (fun x => (x.1, false, false)) hkept

/-- In step with the storage flag set: the lights are dark and forced off (R156). -/
theorem storageEntered_dark {s : State} (hmirror : MirrorOk s) (hstorage : StorageOk s) (payload : List Byte) :
    LampsIn (storageEntered s payload) ∧ (storageEntered s payload).boot.storage = true := by
  refine ⟨lampsIn_storageEnded (lampsIn_enterStorage_of_off (mirrored_of_mirrorOk hmirror) fun n hn =>
    hstorage.2 n (.inr hn)) payload, ?_⟩
  have hboot := boot_of_acts (acts_storageEnded s (enterStorage s) payload) (by decide)
  unfold storageEntered
  rw [hboot]
  exact enterStorage_storage s

/-! ## The loads -/

/-- The pump is off while storage mode holds (R95, R107). -/
theorem storageEntered_pump {s : State} (hbudget : BudgetOk s) (hmirror : MirrorOk s) (hpump : PumpOk s)
    {payload : List Byte} (hin : (storageEntered s payload).boot.storage = true) :
    (storageEntered s payload).budget.loads[13].state = .off ∧ (storageEntered s payload).water.pump.output = false := by
  have hwater : WaterIn (storageEntered s payload) :=
    waterIn_storageEnded (waterIn_enterStorage ⟨hbudget, mirrored_of_mirrorOk hmirror, hmirror.2.2.2.2, hpump⟩) payload
  generalize storageEntered s payload = t at hin hwater ⊢
  obtain ⟨_, ⟨_, _, _, hload⟩, _, hblocked, houtput⟩ := hwater
  have hoff : t.water.pump.load = .off := hblocked (.inl (by simp [pumpBlocked, otherPumpBlock, hin]))
  refine ⟨hload.symm.trans hoff, ?_⟩
  rw [houtput, hoff]
  rfl

/-- The dump valve's record stands: it is not sheddable, and nothing asks for it. -/
theorem storageEntered_valve {s : State} (hbudget : BudgetOk s) (payload : List Byte) :
    (storageEntered s payload).budget.loads[14] = s.budget.loads[14] := by
  obtain ⟨_, ⟨_, hkind, _⟩, _⟩ := hbudget.1 14
  have hsheddable : sheddable 14 = false := by decide
  have hfirm : Firm 14 s.budget := (hkind (.inr hsheddable)).imp_right fun h => ⟨h, hsheddable⟩
  have hkept := (acts_storageEntered s payload).loadKept (i := 14) (by decide)
  generalize storageEntered s payload = t at hkept ⊢
  exact hkept.1 hfirm

/-- The motor of an actuator that is not hosted stays OFF. -/
theorem storageEntered_motor {s : State} {a : Actuator} (h : (s.params.actuator a).hosted = false)
    (hoff : s.budget.loads[motorLoad a].state = .off) (payload : List Byte) :
    (storageEntered s payload).budget.loads[motorLoad a].state = .off := by
  have hbefore := (acts_pumpStopped s).besides (by decide) a
  have hparams : (storageTaken (pumpStopped s)).params = s.params := (storageTaken_params _).trans hbefore.params
  have htaken : (storageTaken (pumpStopped s)).budget.loads[motorLoad a].state = .off := hbefore.off hoff
  have hstow : (stowedIn s).budget.loads[motorLoad a].state = .off := by
    unfold stowedIn
    generalize storageTaken (pumpStopped s) = x at hparams htaken ⊢
    exact ((foldl_hosted (faultKept_stowOne false) x a).1 (by rw [hparams]; exact h)).off htaken
  have hafter := beside_afterStow s payload a
  exact Beside.off hafter hstow

/-- No load of class 2 or 3 is other than OFF after the entry (R190). -/
theorem storageEntered_comfort {s : State} (hbudget : BudgetOk s) (hmotion : MotionOk s) {payload : List Byte}
    (hlamps : LampsIn (storageEntered s payload)) (hin : (storageEntered s payload).boot.storage = true)
    (hpump : (storageEntered s payload).budget.loads[13].state = .off)
    (hnone : ∀ a : Actuator, (s.params.actuator a).hosted = false → s.budget.loads[motorLoad a].state = .off) (i : Fin 17) :
    (storageEntered s payload).budget.loads[i].state = .off ∨ (storageEntered s payload).budget.loads[i].cls = .c0
      ∨ (storageEntered s payload).budget.loads[i].cls = .c1 := by
  have hacts := acts_storageEntered s payload
  refine comfort_off (hacts.budgetOk hbudget) hlamps hin hpump
    (sounds_storageEnded (sounds_enterStorage ((motionIn_iff s).mpr hmotion).1) payload) (fun a ha => ?_) i
  rw [hacts.params] at ha
  exact storageEntered_motor ha (hnone a ha) payload

end Sys2Proof.Machine

/-! The exit from storage mode, as STORAGE-SET leaves it (R82, R107, R137, R157, R190). -/

namespace Sys2Proof.Machine

-- As in the tests, so that no command needs threads of its own.
set_option Elab.async false

/-! ## A zone leaves (R82) -/

/-- A zone record that has taken back a saved mode; OFF clears its integral and duty (R79, R82). -/
def zoneReturned (m : ZoneMode) (z : Zone) : Zone :=
  if m = .off then { z with mode := .off, saved := none, integral := 0, duty := 0 }
  else { z with mode := m, saved := none }

/-- The turn of a hosted zone: its record written, and with mode OFF its heater released. -/
theorem zoneLeavesStorage_of_hosted {s : State} {n : Fin 4} (h : s.params.zones[n].hosted = true) :
    zoneLeavesStorage s n
      = (if s.zone.zones[n].saved.getD s.zone.zones[n].mode = .off then
          zoneOff n (putZone n { s.zone.zones[n] with
            mode := s.zone.zones[n].saved.getD s.zone.zones[n].mode, saved := none } s)
        else putZone n { s.zone.zones[n] with
          mode := s.zone.zones[n].saved.getD s.zone.zones[n].mode, saved := none } s) := by
  unfold zoneLeavesStorage
  simp only
  rw [if_pos h]

theorem zoneLeavesStorage_of_notHosted {s : State} {n : Fin 4} (h : s.params.zones[n].hosted = false) :
    zoneLeavesStorage s n = s := by
  unfold zoneLeavesStorage
  simp only
  rw [if_neg (by rw [h]; nofun)]

theorem zoneKept_zoneLeavesStorage {n : Fin 4} (s : State) (m : Fin 4) (h : m ≠ n) :
    ZoneKept n s (zoneLeavesStorage s m) := by
  cases hm : s.params.zones[m].hosted with
  | false =>
    rw [zoneLeavesStorage_of_notHosted hm]
    exact .refl n s
  | true =>
    rw [zoneLeavesStorage_of_hosted hm]
    split
    · exact ((zoneKept_putZone h _ s).trans (zoneKept_putZone h _ _)).trans (zoneKept_demandHeat h _)
    · exact zoneKept_putZone h _ s

/-- The own turn of a hosted zone with a saved mode. -/
theorem zoneLeavesStorage_self {s : State} {n : Fin 4} {m : ZoneMode} (hm : Mirrored s)
    (hhosted : s.params.zones[n].hosted = true) (hsaved : s.zone.zones[n].saved = some m) :
    zoneFixed (zoneLeavesStorage s n).zone.zones[n] = zoneFixed (zoneReturned m s.zone.zones[n])
    ∧ (m = .off → (zoneLeavesStorage s n).budget.loads[zoneLoad n].state = .off) := by
  have hput := putZone_zone_self n { s.zone.zones[n] with mode := m, saved := none } s
  have hmirror : Mirrored (putZone n { s.zone.zones[n] with mode := m, saved := none } s) :=
    (written_putZone n _ s).mirrored hm
  rw [zoneLeavesStorage_of_hosted hhosted, hsaved, Option.getD_some]
  unfold zoneReturned
  split
  · obtain ⟨hfixed, hoff, _⟩ := zoneOff_spec (n := n) hmirror
    rw [hput] at hfixed
    exact ⟨hfixed, fun _ => hoff⟩
  · next hne =>
    rw [hput]
    exact ⟨rfl, fun hoff => absurd hoff hne⟩

/-! ## The heater's output through the round -/

theorem driven_putZone_ne {n m : Fin 4} (h : m ≠ n) (z : Zone) {s : State} (hs : Driven n s) : Driven n (putZone m z s) := by
  unfold Driven
  rw [putZone_zone, if_neg h]
  exact hs

theorem driven_zoneOff_self (n : Fin 4) (s : State) : Driven n (zoneOff n s) :=
  (loadSteps_demandHeat n _).driven (driven_putZone n _ s)

theorem driven_zoneLeavesStorage_self {n : Fin 4} {s : State} (h : s.params.zones[n].hosted = true) :
    Driven n (zoneLeavesStorage s n) := by
  rw [zoneLeavesStorage_of_hosted h]
  split
  · exact driven_zoneOff_self n _
  · exact driven_putZone n _ s

theorem driven_zoneLeavesStorage_ne {n m : Fin 4} (h : m ≠ n) {s : State} (hs : Driven n s) :
    Driven n (zoneLeavesStorage s m) := by
  cases hm : s.params.zones[m].hosted with
  | false =>
    rw [zoneLeavesStorage_of_notHosted hm]
    exact hs
  | true =>
    rw [zoneLeavesStorage_of_hosted hm]
    split
    · exact (loadSteps_demandHeat m _).driven (driven_putZone_ne h _ (driven_putZone_ne h _ hs))
    · exact driven_putZone_ne h _ hs

/-- What an item's own turn establishes, and the turns of the others keep, holds after a round that the item takes part in. -/
theorem foldl_establishes {α β : Type} {f : β → α → β} {P : β → Prop} {a : α} (hown : ∀ x, P (f x a))
    (hother : ∀ x b, b ≠ a → P x → P (f x b)) {l : List α} (ha : a ∈ l) (s : β) : P (l.foldl f s) := by
  have hkeeps (b : α) (x : β) (hx : P x) : P (f x b) := by
    by_cases hb : b = a
    · exact hb ▸ hown x
    · exact hother x b hb hx
  have hrest (l : List α) : ∀ x, P x → P (l.foldl f x) := by
    induction l with
    | nil => exact fun _ hx => hx
    | cons b l ih => exact fun x hx => ih _ (hkeeps b x hx)
  obtain ⟨before, after, rfl⟩ := List.append_of_mem ha
  rw [List.foldl_append, List.foldl_cons]
  exact hrest after _ (hown _)

/-- A hosted zone's heater, driven by its admitted duty. -/
def HostedDriven (n : Fin 4) (s : State) : Prop := s.params.zones[n].hosted = true → Driven n s

theorem driven_zonesExitStorage {s : State} {n : Fin 4} (h : s.params.zones[n].hosted = true) :
    Driven n (zonesExitStorage s) := by
  have hparams (x : State) (m : Fin 4) : (zoneLeavesStorage x m).params = x.params := (acts_zoneLeavesStorage x m).params
  have hround : HostedDriven n (zonesExitStorage s) :=
    foldl_establishes (P := HostedDriven n) (fun x hx => driven_zoneLeavesStorage_self (hparams x n ▸ hx))
      (fun x m hne hx hhosted => driven_zoneLeavesStorage_ne hne (hx (hparams x m ▸ hhosted))) (List.mem_finRange n) s
  exact hround (by rw [(acts_zonesExitStorage s).params]; exact h)

/-! ## The stages of the exit -/

/-- The state with the zones out of storage mode, before the pump is evaluated. -/
def zonesOut (s : State) : State := zonesExitStorage (s.setBoot { s.boot with storage := false })

theorem acts_zonesOut (s : State) : Acts (.writes .boot :: zoneEffects) s (zonesOut s) :=
  (written_setBoot s { s.boot with storage := false }).acts.append (acts_zonesExitStorage _)

/-- The state that the exit leaves, its REPLY handed to the line. -/
def storageLeft (s : State) (payload : List Byte) : State := storageEnded s (exitStorage s) payload

theorem exitStorage_eq (s : State) : exitStorage s = lightsExitStorage (motionExitsStorage (evalPump (zonesOut s))) := rfl

theorem storageSet_leaves {s : State} {rq : Requester} (htakes : takesRequests s = true) (hin : s.boot.storage = true) :
    ∃ payload : List Byte, exec (.storageSet rq 0#8) s = .next (storageLeft s payload) := by
  have hdec : decideStorageSet (bitOf 0 false) s = (exitStorage s, { outcome := .done, data := [bitOf 0 false] }) := by
    rw [decideStorageSet_bitOf, if_neg (by rw [hin]; nofun), if_neg nofun]
  have hset : (0#8 : Byte) = bitOf 0 false := rfl
  refine ⟨replyPayload rq { outcome := .done, data := [bitOf 0 false] }, ?_⟩
  rw [exec_storageSet, hset, takeRequest_of_decided (rq := rq) htakes hdec]
  rfl

/-- The acts of the exit behind the pump's turn. -/
def leftEffects : List Effect := [.writes .motion] ++ lightEffects ++ storageEndEffects

theorem acts_afterPumpLeft (s : State) (payload : List Byte) :
    Acts leftEffects (evalPump (zonesOut s)) (storageLeft s payload) := by
  unfold storageLeft
  rw [exitStorage_eq]
  have hmotion := (acts_motionExitsStorage (evalPump (zonesOut s))).append
    (acts_lightsExitStorage (motionExitsStorage (evalPump (zonesOut s)))) (N := [.writes .motion] ++ lightEffects)
  exact hmotion.append (acts_storageEnded s _ payload)

theorem acts_storageLeft_of_zonesOut (s : State) (payload : List Byte) :
    Acts (.asks 13 :: leftEffects) (zonesOut s) (storageLeft s payload) :=
  (acts_evalPump (zonesOut s)).append (acts_afterPumpLeft s payload)

theorem acts_storageLeft (s : State) (payload : List Byte) :
    Acts (.writes .boot :: zoneEffects ++ .asks 13 :: leftEffects) s (storageLeft s payload) :=
  (acts_zonesOut s).append (acts_storageLeft_of_zonesOut s payload)

/-! ## The zones -/

theorem asks_zoneLoad_notMem_left (n : Fin 4) : Effect.asks (zoneLoad n) ∉ .asks 13 :: leftEffects := by revert n; decide

/-- A hosted zone takes its saved mode back; one that returns to OFF has its heater released (R82). -/
theorem storageLeft_zone {s : State} {n : Fin 4} {m : ZoneMode} (hmirror : MirrorOk s)
    (hhosted : s.params.zones[n].hosted = true) (hsaved : s.zone.zones[n].saved = some m) (payload : List Byte) :
    zoneFixed (storageLeft s payload).zone.zones[n] = zoneFixed (zoneReturned m s.zone.zones[n])
    ∧ (m = .off → (storageLeft s payload).zone.zones[n].output = false
        ∧ (storageLeft s payload).budget.loads[zoneLoad n].state = .off) := by
  have hm := mirrored_of_mirrorOk hmirror
  obtain ⟨x, hx, hbefore, _, hafter⟩ := foldl_zones acts_zoneLeavesStorage
    (fun t k hne => zoneKept_zoneLeavesStorage (n := n) t k hne) (s.setBoot { s.boot with storage := false })
  have hboot : Acts [.writes .boot] s (s.setBoot { s.boot with storage := false }) :=
    (written_setBoot s { s.boot with storage := false }).acts
  have hfixed := hbefore.fixed
  simp only [zoneFixed, Prod.mk.injEq] at hfixed
  obtain ⟨hmode, hsetpoint, hsave, htemp, hfaulted, hintegral, hduty⟩ := hfixed
  obtain ⟨hself, hoff⟩ := zoneLeavesStorage_self (m := m) (n := n) (hx.mirrored (hboot.mirrored hm))
    (by rw [hx.params]; exact hhosted) (hsave.trans hsaved)
  have hrecord : zoneFixed (zoneReturned m x.zone.zones[n]) = zoneFixed (zoneReturned m s.zone.zones[n]) := by
    unfold zoneReturned zoneFixed
    split
    · exact congrArg₂ _ rfl (congrArg₂ _ hsetpoint (congrArg₂ _ rfl (congrArg₂ _ htemp (congrArg₂ _ hfaulted rfl))))
    · exact congrArg₂ _ rfl (congrArg₂ _ hsetpoint (congrArg₂ _ rfl (congrArg₂ _ htemp (congrArg₂ _ hfaulted
        (congrArg₂ _ hintegral hduty)))))
  have hdriven : Driven n (zonesOut s) := driven_zonesExitStorage hhosted
  have hend := acts_storageLeft_of_zonesOut s payload
  have hload := hend.loadKept (asks_zoneLoad_notMem_left n)
  have hround : zonesOut s = (List.finRange 4).foldl zoneLeavesStorage (s.setBoot { s.boot with storage := false }) := rfl
  rw [← hround] at hafter
  refine ⟨((hend.zonesSame (by decide)).1 n).trans (hafter.fixed.trans (hself.trans hrecord)), fun hmoff => ?_⟩
  have hloadOff := hload.off_iff.mpr (hafter.load.off_iff.mpr (hoff hmoff))
  have hdark := hend.held (b := .zone) (P := Driven n) (by decide) driven_of_zone LoadSteps.driven hdriven (by decide)
  refine ⟨hdark.dark ?_, hloadOff⟩
  rw [((acts_storageLeft s payload).mirrored hm).2.1 n]
  exact fun hadm => nomatch hadm.symm.trans hloadOff

/-! ## The pump -/

/-- A hosted pump is asked for again exactly when its demand is set and no block is left (R82, R107). -/
theorem storageLeft_pump {s : State} (hmirror : MirrorOk s) (hpump : s.params.water.pump = true) (payload : List Byte) :
    (storageLeft s payload).budget.loads[13].state ≠ .off ↔ s.water.pump.demand = true
      ∧ s.water.pump.disabled = false ∧ s.water.pump.dryLock = false ∧ s.water.fresh.state ≠ .empty
      ∧ s.water.grey.state ≠ .full ∧ s.water.peerGreyFull = false ∧ s.water.frost.valveOpen = false := by
  have hacts := acts_zonesOut s
  have hwater := hacts.waterSame (by decide)
  have hboot : (zonesOut s).boot.storage = false := by
    unfold zonesOut
    rw [boot_of_acts (acts_zonesExitStorage _) (by decide)]
    rfl
  have heval := evalPump_off_iff (hacts.mirrored (mirrored_of_mirrorOk hmirror)) (by rw [hacts.params]; exact hpump)
  have hkept := ((acts_afterPumpLeft s payload).loadKept (i := pumpLoad) (by decide)).off_iff
  rw [heval] at hkept
  generalize storageLeft s payload = t at hkept ⊢
  have hoff : t.budget.loads[13].state = .off ↔ pumpBlocked (zonesOut s) = true ∨ (zonesOut s).water.pump.demand = false := hkept
  simp only [waterSame, waterFixed, Prod.mk.injEq] at hwater
  obtain ⟨⟨hfresh, hgrey, _, _, _, hpeer⟩, ⟨hdemand, hdisabled, hdry⟩, ⟨_, _, _, hvalve⟩, _⟩ := hwater
  rw [ne_eq, hoff]
  simp only [pumpBlocked, otherPumpBlock, anyGreyFull, hboot, hfresh, hgrey, hpeer, hdemand, hdisabled, hdry, hvalve,
    Bool.or_eq_true, beq_iff_eq, Bool.or_false, not_or, Bool.not_eq_true, Bool.not_eq_false]
  exact ⟨fun ⟨⟨hdry, ⟨⟨hdisabled, hfresh⟩, hgrey, hpeer⟩, hvalve⟩, hdemand⟩ =>
      ⟨hdemand, hdisabled, hdry, hfresh, hgrey, hpeer, hvalve⟩,
    fun ⟨hdemand, hdisabled, hdry, hfresh, hgrey, hpeer, hvalve⟩ =>
      ⟨⟨hdry, ⟨⟨hdisabled, hfresh⟩, hgrey, hpeer⟩, hvalve⟩, hdemand⟩⟩

/-! ## The actuators and the lights -/

theorem motionExitsStorage_act (s : State) (a : Actuator) : act (motionExitsStorage s).motion a = act s.motion a := by
  cases a <;> rfl

theorem motionExitsStorage_storage (s : State) : (motionExitsStorage s).motion.storage = false := rfl

/-- No actuator moves, and the motion controller takes the flag (R137). -/
theorem storageLeft_motion (s : State) (payload : List Byte) (a : Actuator) :
    act (storageLeft s payload).motion a = act s.motion a ∧ (storageLeft s payload).motion.storage = false := by
  have hbefore := ((acts_zonesOut s).append (acts_evalPump (zonesOut s))
    (N := .asks 13 :: .writes .boot :: zoneEffects)).besides (by decide) a
  have hlights := (acts_lightsExitStorage (motionExitsStorage (evalPump (zonesOut s)))).besides (by decide) a
  have hexit := motionExitsStorage_act (evalPump (zonesOut s)) a
  have hflag := motionExitsStorage_storage (evalPump (zonesOut s))
  unfold storageLeft
  rw [exitStorage_eq]
  generalize motionExitsStorage (evalPump (zonesOut s)) = u at hlights hexit hflag ⊢
  have hend : Beside a u (storageEnded s (lightsExitStorage u) payload) := (hlights.trans (beside_publish s _ a)).trans
    ((acts_sendTelegram .reply payload _).besides (by decide) a)
  exact ⟨hend.act.trans (hexit.trans hbefore.act), hend.storage.trans hflag⟩

theorem forcedOff_publish (before s : State) : (publish before s).light.forcedOff = s.light.forcedOff := by
  have hstep : (stepOutAfter before s).light.forcedOff = s.light.forcedOff := by
    unfold stepOutAfter
    split
    · rfl
    · unfold handOwnStepOut
      rw [evalChannels_forcedOff]
      rfl
  have hrest := ((acts_motionAfter before (stepOutAfter before s)).append (acts_tanksAfter before _)
    (N := motionTelegramEffects ++ tanksEffects)).lightsKept (by decide)
  obtain ⟨_, _, _, hforced, _, _⟩ := hrest
  exact hforced.trans hstep

/-- The light controller takes the flag (R157). -/
theorem storageLeft_forcedOff (s : State) (payload : List Byte) : (storageLeft s payload).light.forcedOff = false := by
  unfold storageLeft storageEnded
  rw [sendTelegram_light, forcedOff_publish, exitStorage_eq]
  exact lightsExitStorage_forcedOff _

end Sys2Proof.Machine

/-! STORAGE-SET settled (R80, R82, R107, R137, R156, R157, R190). -/

namespace Sys2Proof.Machine

-- As in the tests, so that no command needs threads of its own.
set_option Elab.async false

theorem storageSet_refused {s : State} {rq : Requester} {value : Byte} (htakes : takesRequests s = true)
    (h : 2 ≤ value.toNat) : exec (.storageSet rq value) s = .next (answered s rq .badRequest []) := by
  rw [exec_storageSet, takeRequest_refused htakes (decideStorageSet_of_large h s)]

theorem storageSet_repeated {s : State} {rq : Requester} (htakes : takesRequests s = true) :
    exec (.storageSet rq (bitOf 0 s.boot.storage)) s = .next (answered s rq .done [bitOf 0 s.boot.storage]) := by
  have hdec := decideStorageSet_bitOf s.boot.storage s
  rw [if_pos rfl] at hdec
  rw [exec_storageSet, takeRequest_eq_answered htakes hdec rfl (publish_self s)]

theorem storageSet_replies {s : State} {rq : Requester} {value : Byte} (htakes : takesRequests s = true)
    (h : value.toNat < 2) : ∃ t : State, exec (.storageSet rq value) s = .next t
      ∧ t.boot = { s.boot with storage := value == 1#8 } ∧ Replied s t rq .done [value] := by
  have hanswers := storageSet_answers (rq := rq) htakes (value == 1#8)
  rw [← bitOf_of_small h] at hanswers
  exact ⟨_, exec_storageSet rq value s, hanswers⟩

/-- Where the entry's STOW leaves an actuator that is not held, by its state (R131, R137). -/
theorem storageEntered_actuator {s : State} {a : Actuator} (hmotion : MotionOk s)
    (hhosted : (s.params.actuator a).hosted = true) (hhold : (act s.motion a).hold = false) (payload : List Byte) :
    ((act s.motion a).state = .stowed → act (storageEntered s payload).motion a = act s.motion a)
    ∧ ((act s.motion a).state = .fault → act (storageEntered s payload).motion a = act s.motion a)
    ∧ ((act s.motion a).state = .retracting → act (storageEntered s payload).motion a = { act s.motion a with
        cause := some ((act s.motion a).cause.getD .stow) })
    ∧ ((act s.motion a).state = .extending →
        act (storageEntered s payload).motion a = reversing (act s.motion a) .retracting false (some .stow)
        ∧ (storageEntered s payload).budget.loads[motorLoad a].state = .admitted)
    ∧ ((act s.motion a).state = .extended ∨ (act s.motion a).state = .stoppedMid →
        (stopActive s a .inStop = true → act (storageEntered s payload).motion a = { act s.motion a with
            state := .stowed, position := 0 })
        ∧ (stopActive s a .inStop = false →
          act (storageEntered s payload).motion a = drivenInward (s.params.actuator a) (act s.motion a) false (some .stow)
          ∧ (storageEntered s payload).budget.loads[motorLoad a].state = .admitted)) := by
  have hstanding : Standing a s := (((motionIn_iff s).mpr hmotion).1.2 a hhosted).1
  have hstowing : Stowing false a s (storageEntered s payload) := stowing_enterStorage hhosted hhold payload
  generalize storageEntered s payload = t at hstowing ⊢
  obtain ⟨hstill, hretracting, hextending, hhome, hdriven⟩ := hstowing
  refine ⟨fun hst => hstill (.inl hst), fun hst => hstill (.inr hst), fun hst => ?_, fun hst => ?_, fun hst => ?_⟩
  · rw [hretracting hst, Bool.false_or]
  · obtain ⟨hact, hadm, _⟩ := hextending hst
    exact ⟨hact, hadm⟩
  · have hnoMark : (act s.motion a).releaseMark = false := by
      by_contra hmark
      have hret := hstanding.record.cause (.inr (by simpa using hmark))
      rcases hst with h | h <;> exact nomatch h.symm.trans hret
    have hmoving : isMoving (act s.motion a).state = false := by rcases hst with h | h <;> rw [h] <;> rfl
    refine ⟨fun hin => hhome hst hin, fun hin => ?_⟩
    obtain ⟨hact, hadm, _⟩ := hdriven hst hin (hstanding.off hmoving)
    rw [hnoMark] at hact
    exact ⟨hact, hadm⟩

theorem storageEntered_stowFailed (s : State) (payload : List Byte) :
    inSet (storageEntered s payload).event.flags .stowFailed = true ↔ inSet s.event.flags .stowFailed = true
      ∨ ∃ a : Actuator, (s.params.actuator a).hosted = true ∧ (act s.motion a).state = .fault
        ∧ (act s.motion a).hold = false := by
  have hfailed := enterStorage_stowFailed s payload
  unfold storageEntered storageEnded
  exact hfailed

/-- The fields of a zone that has taken back its saved mode (R82). -/
theorem fields_of_zoneReturned {m : ZoneMode} {z w : Zone} (h : zoneFixed w = zoneFixed (zoneReturned m z)) :
    w.mode = m ∧ w.saved = none ∧ w.setpoint = z.setpoint ∧ (m = .off → w.integral = 0 ∧ w.duty = 0)
    ∧ (m ≠ .off → w.integral = z.integral ∧ w.duty = z.duty) := by
  simp only [zoneFixed, Prod.mk.injEq] at h
  obtain ⟨hmode, hsetpoint, hsaved, _, _, hintegral, hduty⟩ := h
  rw [hmode, hsetpoint, hsaved, hintegral, hduty]
  unfold zoneReturned
  by_cases hm : m = .off
  · simp [hm]
  · simp [hm]

/-- Settles O18: the answers, the entry stage by stage, and the exit stage by stage. -/
theorem storageSetHandsTheModeOn : Obligations.StorageSetHandsTheModeOn := by
  refine ⟨fun rq value s htakes => ⟨storageSet_refused htakes, ?_, storageSet_replies htakes⟩, ?_, ?_⟩
  · rintro rfl
    exact storageSet_repeated htakes
  · intro rq s htakes hout hbudget hmirror hpump hstorage hmotion
    obtain ⟨payload, hexec⟩ := storageSet_enters (rq := rq) htakes hout
    obtain ⟨hlamps, hin⟩ := storageEntered_dark hmirror hstorage payload
    obtain ⟨hpumpOff, hpumpDark⟩ := storageEntered_pump hbudget hmirror hpump hin
    have hsounds : Sounds true (storageEntered s payload) :=
      sounds_storageEnded (sounds_enterStorage ((motionIn_iff s).mpr hmotion).1) payload
    have hzones (n : Fin 4) (hn : s.params.zones[n].hosted = true) := storageEntered_zone hn payload
    have hswitches (n : Fin 8) (hn : s.params.channels[n].hosted = true) := storageEntered_switches hn payload
    have hparams := (acts_storageEntered s payload).params
    have hvalve := storageEntered_valve hbudget payload
    have hleft (a : Actuator) (ha : (s.params.actuator a).hosted = false ∨ (act s.motion a).hold = true) :
        act (storageEntered s payload).motion a = act s.motion a := act_enterStorage_left ha payload
    have hfailed := storageEntered_stowFailed s payload
    have hacts (a : Actuator) (ha : (s.params.actuator a).hosted = true) (hhold : (act s.motion a).hold = false) :=
      storageEntered_actuator hmotion ha hhold payload
    have hcomfort := storageEntered_comfort hbudget hmotion hlamps hin hpumpOff
    generalize storageEntered s payload = t at *
    refine ⟨t, hexec, hzones, hsounds.1, hlamps.2.trans hin, fun n hn => ?_, fun n => (hlamps.dark hin n).1, hpumpOff,
      hpumpDark, hvalve, hleft, hfailed, hacts, hcomfort⟩
    have hswitch := hswitches n hn
    simp only [switchFields, Prod.mk.injEq] at hswitch
    obtain ⟨hlevel, hlatch, hscene⟩ := hswitch
    exact ⟨hlatch, hscene, (hlamps.dark hin n).2 (by rw [hparams]; exact hn), hlevel⟩
  · intro rq s htakes hin hbudget hmirror hpump
    obtain ⟨payload, hexec⟩ := storageSet_leaves (rq := rq) htakes hin
    have hmotion := storageLeft_motion s payload
    have hpump (hp : s.params.water.pump = true) := storageLeft_pump hmirror hp payload
    have hlights := storageLeft_forcedOff s payload
    have hzones (n : Fin 4) (hn : s.params.zones[n].hosted = true) (m : ZoneMode) (hsaved : s.zone.zones[n].saved = some m) :=
      storageLeft_zone hmirror hn hsaved payload
    generalize storageLeft s payload = t at *
    refine ⟨t, hexec, fun n hn m hsaved => ?_, hpump, (hmotion .awning).2, hlights, fun a => (hmotion a).1⟩
    obtain ⟨hfixed, hoff⟩ := hzones n hn m hsaved
    obtain ⟨hmode, hsave, hsetpoint, hreleased, hkept⟩ := fields_of_zoneReturned hfixed
    exact ⟨hmode, hsave, hsetpoint, fun hm => ⟨(hreleased hm).1, (hreleased hm).2, hoff hm⟩, hkept⟩

end Sys2Proof.Machine

/-! Status telegrams with a spacing (R49, R66, R108): what a command tells of a tracked state, and the own totals as
every chain of acts reports them. -/

namespace Sys2Proof.Machine

-- As in the tests, so that no command needs threads of its own.
set_option Elab.async false

/-! ## A telegram among those handed over -/

theorem HandedAmong.before {own : Station} {l m n : Line} {k : Kind} {p : List Byte} (h : Handed own l m)
    (hk : HandedAmong own m n k p) : HandedAmong own l n k p := by
  obtain ⟨x, hx, hrest⟩ := hk
  exact ⟨x, h.trans hx, hrest⟩

theorem HandedAmong.after {own : Station} {l m n : Line} {k : Kind} {p : List Byte} (hk : HandedAmong own l m k p)
    (h : Handed own m n) : HandedAmong own l n k p := by
  obtain ⟨x, hx, hrest⟩ := hk
  exact ⟨x, hx, hrest.trans h⟩

/-! ## A status telegram with a spacing -/

/-- A status telegram with a spacing: its kind and contents, its timer, its due mark, when what it reports has not
changed, and which contents tell what a state holds. -/
structure Report where
  kind : Kind
  Contents : Type
  payload : Contents → List Byte
  timer : State → Nat
  due : State → Bool
  same : State → State → Prop
  tells : State → Contents → Prop

/-- From one state to the other nothing that the telegram reports has changed, nor its timer and due mark. -/
def Report.Still (r : Report) (s t : State) : Prop := r.same s t ∧ r.timer t = r.timer s ∧ r.due t = r.due s

/-- From one state to the other a change has been reported: nothing has changed, the telegram is due within the spacing,
or one has been handed to the line, which tells the state reached unless another is due. -/
def Report.Told (r : Report) (s t : State) : Prop :=
  r.Still s t
  ∨ (r.timer s < 200 ∧ r.timer t = r.timer s ∧ r.due t = true)
  ∨ (200 ≤ r.timer s ∧ r.timer t = 0 ∧ ∃ x : r.Contents,
      HandedAmong s.boot.station s.line t.line r.kind (r.payload x) ∧ (r.due t = false → r.tells t x))

section
variable {r : Report} {s t u : State}

/-- What has been told stays told while nothing changes. -/
theorem Report.Told.still (h : r.Told s t) (hstation : t.boot.station = s.boot.station) (hline : LineHanded t u)
    (htrans : r.same s t → r.same t u → r.same s u) (htells : ∀ x, r.same t u → r.tells t x → r.tells u x)
    (k : r.Still t u) : r.Told s u := by
  obtain ⟨hsame, htimer, hdue⟩ := k
  have hhanded := hline.1
  rw [hstation] at hhanded
  rcases h with ⟨hs, ht, hd⟩ | ⟨hlt, ht, hd⟩ | ⟨hle, ht, x, hx, hxt⟩
  · exact .inl ⟨htrans hs hsame, htimer.trans ht, hdue.trans hd⟩
  · exact .inr (.inl ⟨hlt, htimer.trans ht, hdue.trans hd⟩)
  · exact .inr (.inr ⟨hle, htimer.trans ht, x, hx.after hhanded, fun hnot => htells x hsame (hxt (hdue.symm.trans hnot))⟩)

/-- Reports one after another. -/
theorem Report.Told.trans (h : r.Told s t) (hstation : t.boot.station = s.boot.station) (hst : LineHanded s t)
    (htu : LineHanded t u) (htrans : r.same s t → r.same t u → r.same s u)
    (htells : ∀ x, r.same t u → r.tells t x → r.tells u x) (k : r.Told t u) : r.Told s u := by
  have hhanded := htu.1
  rw [hstation] at hhanded
  rcases k with hstill | ⟨hlt, ht, hd⟩ | ⟨hle, ht, x, hx, hxt⟩
  · exact h.still hstation htu htrans htells hstill
  · rcases h with ⟨_, ht', _⟩ | ⟨hlt', ht', _⟩ | ⟨hle', ht', y, hy, _⟩
    · exact .inr (.inl ⟨ht' ▸ hlt, ht.trans ht', hd⟩)
    · exact .inr (.inl ⟨hlt', ht.trans ht', hd⟩)
    · exact .inr (.inr ⟨hle', ht.trans ht', y, hy.after hhanded, fun hnot => absurd (hd.symm.trans hnot) nofun⟩)
  · rw [hstation] at hx
    rcases h with ⟨_, ht', _⟩ | ⟨hlt', ht', _⟩ | ⟨_, ht', _⟩
    · exact .inr (.inr ⟨ht' ▸ hle, ht, x, hx.before hst.1, hxt⟩)
    · exact absurd (ht' ▸ hle) (Nat.not_le.mpr hlt')
    · exact absurd (ht' ▸ hle) (by decide)

end

/-! ## The CLAIM's timer and due mark -/

/-- The CLAIM timer and the due mark. -/
def claimClock (s : State) : Nat × Bool := (s.budget.claimTimer, s.budget.claimDue)

theorem claimClock_of_budget {s t : State} (h : t.budget = s.budget) : claimClock t = claimClock s := by
  unfold claimClock
  rw [h]

theorem claimClock_place {s t : State} {i : Fin 17} {r : LoadRecord} {R A : List (Fin 17)}
    (h : t.budget = place s.budget i r R A) : claimClock t = claimClock s := by
  unfold claimClock
  rw [h]
  unfold place
  rfl

theorem claimClock_joinRetry (i : Fin 17) (s : State) : claimClock (joinRetry i s) = claimClock s := by
  unfold joinRetry
  split <;> rfl

theorem claimClock_wait (i : Fin 17) (s : State) : claimClock (wait i s) = claimClock s :=
  (claimClock_joinRetry i _).trans (claimClock_place (setWaiting_budget i s))

theorem claimClock_passOver (l : List (Fin 17)) (s : State) : claimClock (passOver l s) = claimClock s := by
  induction l generalizing s with
  | nil => rfl
  | cons i rest ih =>
    rcases passOver_cons i rest s with he | ⟨_, he⟩
    · rw [he]
    · rw [he, ih, claimClock_place (admitLoad_budget i s)]

theorem claimClock_admissionPass (s : State) : claimClock (admissionPass s) = claimClock s := by
  unfold admissionPass
  split
  · exact claimClock_passOver _ s
  · rfl

theorem claimClock_shedOne (c : LoadClass) (s : State) (i : Fin 17) : claimClock (shedOne c s i) = claimClock s := by
  rcases shedOne_eq c s i with he | he | he
  · rw [he]
  · rw [he, claimClock_place (reduceLevel_budget i s)]
  · rw [he, claimClock_place (shedLoad_budget i .level s)]

theorem claimClock_raiseEvent (e : Event) (s : State) : claimClock (raiseEvent e s) = claimClock s :=
  claimClock_of_budget (raiseEvent_budget e s)

theorem claimClock_setShedFlag (c : LoadClass) (s : State) : claimClock (setShedFlag c s) = claimClock s := by
  have hall : claimClock (shedAll c (List.finRange 17) s) = claimClock s :=
    foldl_keeps claimClock (shedOne c) (claimClock_shedOne c) _ (withFlag c true s)
  have hcount (x : State) : claimClock (countLevelShed x) = claimClock x := rfl
  rw [setShedFlag_eq]
  generalize shedAll c (List.finRange 17) s = u at hall ⊢
  split
  · rw [claimClock_raiseEvent, claimClock_raiseEvent, hcount, hall]
  · rw [claimClock_raiseEvent, hcount, hall]

theorem claimClock_restoreLight (c : LoadClass) (s : State) (i : Fin 17) : claimClock (restoreLight c s i) = claimClock s := by
  unfold restoreLight
  simp only
  split
  · split
    · exact claimClock_place (admitLoad_budget i s)
    · exact claimClock_place (setReduced_budget i .budget s)
  · rfl

theorem claimClock_restoreShed (c : LoadClass) (s : State) (i : Fin 17) : claimClock (restoreShed c s i) = claimClock s := by
  unfold restoreShed
  simp only
  split
  · exact claimClock_place (setWaiting_budget i s)
  · rfl

theorem claimClock_joinRestored (c : LoadClass) (s : State) (i : Fin 17) : claimClock (joinRestored c s i) = claimClock s := by
  unfold joinRestored
  simp only
  split
  · exact claimClock_joinRetry i s
  · rfl

theorem claimClock_clearShedFlag (c : LoadClass) (s : State) : claimClock (clearShedFlag c s) = claimClock s := by
  rw [clearShedFlag_eq]
  unfold clearedAll
  rw [foldl_keeps claimClock (joinRestored c) (claimClock_joinRestored c),
    foldl_keeps claimClock (restoreShed c) (claimClock_restoreShed c),
    foldl_keeps claimClock (restoreLight c) (claimClock_restoreLight c)]
  rfl

theorem claimClock_evalShedFlag (s : State) (c : LoadClass) : claimClock (evalShedFlag s c) = claimClock s := by
  unfold evalShedFlag
  simp only
  split
  · split
    · exact claimClock_clearShedFlag c s
    · rfl
  · split
    · split
      · exact claimClock_clearShedFlag c s
      · rfl
    · split
      · exact claimClock_setShedFlag c s
      · rfl

theorem claimClock_evalShedFlags (s : State) : claimClock (evalShedFlags s) = claimClock s := by
  unfold evalShedFlags
  split
  · exact foldl_keeps claimClock evalShedFlag claimClock_evalShedFlag _ s
  · rfl

theorem claimClock_takeVictim (i : Fin 17) (s : State) : claimClock (takeVictim i s) = claimClock s := by
  unfold takeVictim
  split
  · exact (claimClock_joinRetry i _).trans (claimClock_place (setReduced_budget i .budget s))
  · exact claimClock_place (shedLoad_budget i .budget s)

/-! ## The CLAIM's report -/

/-- The payload of a CLAIM with these totals and this set of pending events (chapter 11 section 11.2). -/
def claimBytes (x : PerClass Nat × Word) : List Byte :=
  natBytes (min x.1.c0 65535) ++ natBytes (min x.1.c1 65535) ++ natBytes (min x.1.c2 65535) ++ natBytes (min x.1.c3 65535)
    ++ wordBytes x.2

/-- The CLAIM, which reports the own totals (R66). -/
def claimReport : Report where
  kind := .claim
  Contents := PerClass Nat × Word
  payload := claimBytes
  timer s := s.budget.claimTimer
  due s := s.budget.claimDue
  same s t := t.budget.own = s.budget.own
  tells s x := x.1 = s.budget.own

theorem claimStill_iff (s t : State) : claimReport.Still s t ↔ t.budget.own = s.budget.own ∧ claimClock t = claimClock s := by
  simp only [Report.Still, claimReport, claimClock, Prod.mk.injEq]

theorem claimStill_of_budget {s t : State} (h : t.budget = s.budget) : claimReport.Still s t :=
  (claimStill_iff s t).mpr ⟨by rw [h], claimClock_of_budget h⟩

theorem claimTold_trans {s t u : State} (h : claimReport.Told s t) (hstation : t.boot.station = s.boot.station)
    (hst : LineHanded s t) (htu : LineHanded t u) (k : claimReport.Told t u) : claimReport.Told s u :=
  h.trans hstation hst htu (fun a b => Eq.trans b a) (fun _ hsame hx => Eq.trans hx hsame.symm) k

theorem eq_of_sameTotals {a b : PerClass Nat} (h : sameTotals a b = true) : a = b := by
  simp only [sameTotals, Bool.and_eq_true, beq_iff_eq] at h
  obtain ⟨⟨⟨h0, h1⟩, h2⟩, h3⟩ := h
  cases a
  cases b
  simp only at h0 h1 h2 h3
  rw [h0, h1, h2, h3]

/-- The moves of an event of the budget unit before its CLAIM. -/
structure Unclaimed (s t : State) : Prop where
  line : LineHanded s t
  station : t.boot.station = s.boot.station
  clock : claimClock t = claimClock s

theorem LoadSteps.unclaimed {s t : State} (h : LoadSteps s t) (hclock : claimClock t = claimClock s) : Unclaimed s t :=
  ⟨h.lineHanded, congrArg Boot.station h.frame.boot, hclock⟩

theorem Unclaimed.trans {s t u : State} (h : Unclaimed s t) (k : Unclaimed t u) : Unclaimed s u :=
  ⟨h.line.trans h.station k.line, k.station.trans h.station, k.clock.trans h.clock⟩

/-- The state with the CLAIM timer restarted and none due. -/
def claimRestarted (s : State) : State := s.setBudget { s.budget with claimTimer := 0, claimDue := false }

theorem queueClaim_of_configured {s : State} (h : s.boot.station ≠ 0#4) :
    queueClaim s = sendTelegram .claim (claimBytes (s.budget.own, pendingUnmasked s.event)) (claimRestarted s) := if_neg h

/-- A CLAIM queued with the spacing over reports the own totals. -/
theorem told_queueClaim {s u : State} (hconfigured : s.boot.station ≠ 0#4) (h : Unclaimed s u)
    (hover : 200 ≤ s.budget.claimTimer) : claimReport.Told s (queueClaim u) := by
  obtain ⟨hline, hstation, _⟩ := h
  have hu : u.boot.station ≠ 0#4 := by rw [hstation]; exact hconfigured
  have hrestarted : LineHanded s (claimRestarted u) := hline.trans hstation (lineHanded_of_line rfl)
  have hboot : (claimRestarted u).boot.station = s.boot.station := hstation
  have htimer : (claimRestarted u).budget.claimTimer = 0 := rfl
  have hown : (claimRestarted u).budget.own = u.budget.own := rfl
  rw [queueClaim_of_configured hu]
  generalize claimRestarted u = w at hrestarted hboot htimer hown ⊢
  have hbudget := sendTelegram_budget .claim (claimBytes (u.budget.own, pendingUnmasked u.event)) w
  have hamong := handedAmong_of_sent .claim (claimBytes (u.budget.own, pendingUnmasked u.event)) hconfigured hboot
    hrestarted (.refl _)
  generalize sendTelegram .claim (claimBytes (u.budget.own, pendingUnmasked u.event)) w = v at hbudget hamong ⊢
  rw [← hbudget] at htimer hown
  exact .inr (.inr ⟨hover, htimer, (u.budget.own, pendingUnmasked u.event), hamong, fun _ => hown.symm⟩)

/-- The own totals after an event against those before it are reported (R49, R66). -/
theorem told_claimAfter {s u : State} (hconfigured : s.boot.station ≠ 0#4) (h : Unclaimed s u) :
    claimReport.Told s (claimAfter s.budget.own u) := by
  have hu : u.boot.station ≠ 0#4 := by rw [h.station]; exact hconfigured
  have hclock := h.clock
  simp only [claimClock, Prod.mk.injEq] at hclock
  obtain ⟨htimer, hdue⟩ := hclock
  unfold claimAfter
  rw [htimer]
  split
  · next hsame => exact .inl ((claimStill_iff s u).mpr ⟨eq_of_sameTotals (hsame.resolve_right hu), h.clock⟩)
  · split
    · next hle => exact told_queueClaim hconfigured h hle
    · next hlt => exact .inr (.inl ⟨Nat.not_le.mp hlt, htimer, rfl⟩)

theorem told_settle {s u : State} (hconfigured : s.boot.station ≠ 0#4) (h : Unclaimed s u) (pass : Bool) :
    claimReport.Told s (settle s.budget.own pass u) := by
  have hover (x : State) : Unclaimed x (evalOver x) := (loadSteps_evalOver x).unclaimed rfl
  have hpass (x : State) : Unclaimed x (admissionPass x) :=
    (loadSteps_admissionPass x).unclaimed (claimClock_admissionPass x)
  unfold settle
  cases pass
  · exact told_claimAfter hconfigured (h.trans (hover u))
  · exact told_claimAfter hconfigured (((h.trans (hover u)).trans (hpass _)).trans (hover _))

/-! ## Every event of the budget unit -/

theorem told_refl (s : State) : claimReport.Told s s := .inl (claimStill_of_budget rfl)

theorem told_ask {s : State} (hconfigured : s.boot.station ≠ 0#4) (i : Fin 17) : claimReport.Told s (ask i s) := by
  unfold ask
  simp only
  split
  · exact told_refl s
  · split
    · exact told_settle hconfigured ((loadSteps_admit i s).unclaimed (claimClock_place (admitLoad_budget i s))) _
    · split
      · split
        · exact told_settle hconfigured ((loadSteps_reduceLevel i s).unclaimed (claimClock_place (reduceLevel_budget i s))) _
        · exact told_settle hconfigured ((loadSteps_shedLoad i .level s).unclaimed (claimClock_place (shedLoad_budget i .level s))) _
      · exact told_settle hconfigured ((loadSteps_wait i s).unclaimed (claimClock_wait i s)) _

theorem told_release {s : State} (hconfigured : s.boot.station ≠ 0#4) (i : Fin 17) : claimReport.Told s (release i s) := by
  unfold release
  split
  · exact told_refl s
  · exact told_settle hconfigured ((loadSteps_turnOff i s).unclaimed (claimClock_place (turnOff_budget i s))) _

/-- A motor's record admitted at the class of a travel, before the CLAIM. -/
theorem unclaimed_admitMotor (i : Fin 17) (c : LoadClass) (s : State) : Unclaimed s (admitLoad i (setMotorClass i c s)) :=
  ((loadSteps_setMotorClass i c s).trans (loadSteps_admit i _)).unclaimed
    ((claimClock_place (admitLoad_budget i (setMotorClass i c s))).trans rfl)

theorem told_askRetraction {s : State} (hconfigured : s.boot.station ≠ 0#4) (i : Fin 17) :
    claimReport.Told s (askRetraction i s) := by
  unfold askRetraction
  split
  · exact told_refl s
  · exact told_settle hconfigured (unclaimed_admitMotor i .c0 s) _

theorem told_askExtension {s : State} (hconfigured : s.boot.station ≠ 0#4) (i : Fin 17) :
    claimReport.Told s (askExtension i s) := by
  unfold askExtension
  split
  · exact told_refl s
  · split
    · exact told_refl s
    · exact told_settle hconfigured (unclaimed_admitMotor i .c2 s) _

/-- A re-evaluation after an input has been replaced (R40). -/
theorem told_reevaluate {s : State} (hconfigured : s.boot.station ≠ 0#4) {b : Budget}
    (hclock : claimClock (s.setBudget b) = claimClock s) : claimReport.Told s (reevaluate s.budget (s.setBudget b)) := by
  have hinput : Unclaimed s (s.setBudget b) := ⟨lineHanded_of_line (State.setBudget_line s b), rfl, hclock⟩
  have hcompute (x : State) : Unclaimed x (computeBudget x) := ⟨lineHanded_of_line rfl, rfl, rfl⟩
  have hflags (x : State) : Unclaimed x (evalShedFlags x) :=
    (loadSteps_evalShedFlags x).unclaimed (claimClock_evalShedFlags x)
  exact told_settle hconfigured ((hinput.trans (hcompute _)).trans (hflags _)) _

theorem told_dwellExpires {s : State} (hconfigured : s.boot.station ≠ 0#4) : claimReport.Told s (dwellExpires s) := by
  unfold dwellExpires
  split
  · exact .inl ((claimStill_iff s _).mpr ⟨rfl, rfl⟩)
  · next i hi =>
    have hvictim : Unclaimed s (takeVictim i s) := (loadSteps_takeVictim i s).unclaimed (claimClock_takeVictim i s)
    simp only
    generalize takeVictim i s = u at hvictim
    have hcounted : Unclaimed u (u.setBudget { u.budget with budgetSheds := countUp u.budget.budgetSheds }) :=
      ⟨lineHanded_of_line rfl, rfl, rfl⟩
    have hraised (x : State) : Unclaimed x (raiseEvent .budgetShed x) :=
      (loadSteps_raiseEvent .budgetShed x).unclaimed (claimClock_raiseEvent .budgetShed x)
    have hrestart (x : State) : Unclaimed x (restartDwell x) := ⟨lineHanded_of_line rfl, rfl, rfl⟩
    exact told_settle hconfigured (((hvictim.trans hcounted).trans (hraised _)).trans (hrestart _)) _

theorem told_holdExpires {s : State} (hconfigured : s.boot.station ≠ 0#4) (i : Fin 17) :
    claimReport.Told s (holdExpires i s) := by
  unfold holdExpires
  simp only
  refine told_settle hconfigured ?_ _
  split
  · exact (loadSteps_shedLoad i .level s).unclaimed (claimClock_place (shedLoad_budget i .level s))
  · exact (loadSteps_wait i s).unclaimed (claimClock_wait i s)

/-- Every event of the budget unit but a CLAIM of its own reports the own totals. -/
theorem LoadEvent.claimTold {e : Effect} {s t : State} (h : LoadEvent e s t) (he : e ≠ .claims)
    (hconfigured : s.boot.station ≠ 0#4) : claimReport.Told s t := by
  cases h with
  | ask i _ _ => exact told_ask hconfigured i
  | release i => exact told_release hconfigured i
  | askRetraction a => exact told_askRetraction hconfigured _
  | askExtension a => exact told_askExtension hconfigured _
  | ownBank o => exact told_reevaluate hconfigured rfl
  | quantities banks supply known sums => exact told_reevaluate hconfigured rfl
  | dwell => exact told_dwellExpires hconfigured
  | hold i _ _ => exact told_holdExpires hconfigured i
  | gate =>
    exact told_settle hconfigured (u := s.setBudget { s.budget with gateOpen := true })
      ⟨lineHanded_of_line rfl, rfl, rfl⟩ _
  | claim => exact absurd rfl he

/-- A chain of acts without a CLAIM of its own reports the own totals. -/
theorem Acts.claimTold {L : List Effect} {s t : State} (h : Acts L s t) (hclaims : .claims ∉ L) (hclear : .clearsCounters ∉ L)
    (hconfigured : s.boot.station ≠ 0#4) : claimReport.Told s t := by
  induction h with
  | refl => exact told_refl s
  | event he h k ih =>
    exact claimTold_trans ih h.station (h.lineHanded hclear) k.lineHanded
      (k.claimTold (fun hc => hclaims (hc ▸ he)) (by rw [h.station]; exact hconfigured))
  | send k p _ h ih =>
    exact claimTold_trans ih h.station (h.lineHanded hclear) (lineHanded_sendTelegram k p _)
      (.inl (claimStill_of_budget (sendTelegram_budget k p _)))
  | raise _ h ih =>
    exact claimTold_trans ih h.station (h.lineHanded hclear) (loadSteps_raiseEvent _ _).lineHanded
      (.inl (claimStill_of_budget (raiseEvent_budget _ _)))
  | write _ h k ih =>
    exact claimTold_trans ih h.station (h.lineHanded hclear) (lineHanded_of_line k.line)
      (.inl (claimStill_of_budget k.budget))
  | clear page he _ _ => exact absurd he hclear

end Sys2Proof.Machine

/-! The TANKS telegram and the MOTION telegram at the end of a command (R108, R139). -/

namespace Sys2Proof.Machine

-- As in the tests, so that no command needs threads of its own.
set_option Elab.async false

/-! ## The TANKS's timer and due mark -/

/-- The TANKS timer and the due mark. -/
def tanksClock (s : State) : Nat × Bool := (s.water.tanksTimer, s.water.tanksDue)

theorem tanksClock_of_water {s t : State} (h : t.water = s.water) : tanksClock t = tanksClock s := by
  unfold tanksClock
  rw [h]

/-- Only writes of the water controller move the TANKS timer and the due mark. -/
theorem Acts.tanksClock {L : List Effect} {s t : State} (h : Acts L s t) (hL : .writes .water ∉ L := by decide)
    (hclear : .clearsCounters ∉ L := by decide) : Machine.tanksClock t = Machine.tanksClock s := by
  have hcore := h.waterCore hL hclear
  simp only [Machine.waterCore, Prod.mk.injEq] at hcore
  obtain ⟨_, _, _, htimer, hdue, _⟩ := hcore
  unfold Machine.tanksClock
  rw [htimer, hdue]

theorem tanksClock_evalPump (s : State) : tanksClock (evalPump s) = tanksClock s := (acts_evalPump s).tanksClock

theorem tanksClock_raiseEvent (e : Event) (s : State) : tanksClock (raiseEvent e s) = tanksClock s :=
  tanksClock_of_water (raiseEvent_water e s)

theorem tanksClock_tanksRead (fresh grey black : Adc) (s : State) :
    tanksClock (readBlack black (readGrey grey (readFresh fresh s))) = tanksClock s := by
  unfold tanksClock
  rw [readBlack_water, readGrey_water, readFresh_water]

theorem tanksClock_readFrost (temp : Adc) (s : State) : tanksClock (readFrost temp s) = tanksClock s := by
  have hheater (x : State) : tanksClock (demandHeater x) = tanksClock x := (acts_demandHeater x).tanksClock
  have hdwell (x : State) : tanksClock (checkDwell x) = tanksClock x := rfl
  unfold readFrost
  split
  · rw [hdwell, hheater]
    rfl
  · rfl

theorem tanksClock_tankPeriodOf (fresh grey black temp : Adc) (s : State) :
    tanksClock (tankPeriodOf fresh grey black temp s) = tanksClock s := by
  have hread := tanksClock_tanksRead fresh grey black (s.setWater { s.water with periodTimer := 0 })
  unfold tankPeriodOf
  simp only
  generalize readBlack black (readGrey grey (readFresh fresh (s.setWater { s.water with periodTimer := 0 }))) = u at hread ⊢
  rw [tanksClock_readFrost]
  split
  · exact (tanksClock_evalPump u).trans hread
  · exact hread

theorem tanksClock_pressureEdge (closing : Bool) (s : State) : tanksClock (pressureEdge closing s) = tanksClock s := by
  unfold pressureEdge
  split
  · exact tanksClock_evalPump _
  · rfl

theorem tanksClock_pumpRunsDry (s : State) : tanksClock (pumpRunsDry s) = tanksClock s := by
  unfold pumpRunsDry
  rw [tanksClock_evalPump, tanksClock_raiseEvent]
  rfl

theorem tanksClock_openValve (s : State) : tanksClock (openValve s) = tanksClock s := by
  have hask : tanksClock (ask valveLoad s) = tanksClock s :=
    (LoadEvent.acts (.ask 14 s (by decide)) : Acts [.asks 14] s (ask 14 s)).tanksClock
  have hcount (x : State) (n : Nat) : tanksClock (x.setWater { x.water with frostDumps := n }) = tanksClock x := rfl
  unfold openValve
  simp only
  rw [tanksClock_evalPump, hcount, tanksClock_raiseEvent]
  exact hask

theorem tanksClock_closeValve (s : State) : tanksClock (closeValve s) = tanksClock s := by
  have hrelease (x : State) : tanksClock (release valveLoad x) = tanksClock x :=
    (LoadEvent.acts (.release 14 x) : Acts [.asks 14] x (release 14 x)).tanksClock
  have hdwell (x : State) : tanksClock (checkDwell x) = tanksClock x := rfl
  unfold closeValve
  simp only
  rw [tanksClock_evalPump, hdwell, hrelease]
  rfl

theorem tanksClock_setPump (enable : Bool) (s : State) : tanksClock (setPump enable s) = tanksClock s := by
  unfold setPump
  simp only
  rw [tanksClock_evalPump]
  cases enable <;> rfl

/-- The facts that the peer table hands over leave the TANKS timer and the due mark. -/
theorem viewKept_tanksClock (c : Nat × Bool) : ViewKept fun s => tanksClock s = c where
  peers _ _ h := h
  lost s h := (tanksClock_raiseEvent .peerLost s).trans h
  quantities s banks supply known sums h :=
    (LoadEvent.acts (.quantities banks supply known sums s) : Acts [.quantities] s _).tanksClock.trans h
  vehicle s v h := ((acts_handVehicle v s).tanksClock).trans h
  moving _ _ h := h
  step s out h := ((acts_handPeerStepOut out s).tanksClock).trans h
  grey s full h := (tanksClock_evalPump _).trans h

theorem tanksClock_decidePumpSet (value : Byte) (s : State) : tanksClock (decidePumpSet value s).1 = tanksClock s := by
  unfold decidePumpSet
  split
  · rfl
  · split
    · rfl
    · split
      · rfl
      · exact tanksClock_setPump _ s

theorem tanksClock_decideValveClose (s : State) : tanksClock (decideValveClose s).1 = tanksClock s := by
  unfold decideValveClose
  split
  · rfl
  · split
    · rfl
    · split
      · exact tanksClock_closeValve s
      · rfl

/-! ## The TANKS's report -/

/-- The TANKS, which reports the tracked states of the water controller (R108). -/
def tanksReport : Report where
  kind := .tanks
  Contents := List Byte
  payload := id
  timer s := s.water.tanksTimer
  due s := s.water.tanksDue
  same s t := trackedWater t = trackedWater s
  tells s p := p = tanksPayload s

theorem tanksStill_iff (s t : State) :
    tanksReport.Still s t ↔ trackedWater t = trackedWater s ∧ tanksClock t = tanksClock s := by
  simp only [Report.Still, tanksReport, tanksClock, Prod.mk.injEq]

/-- The state with the TANKS timer restarted and none due. -/
def tanksRestarted (s : State) : State := s.setWater { s.water with tanksTimer := 0, tanksDue := false }

theorem queueTanks_of_forms {s : State} (h : formsTanks s = true) :
    queueTanks s = sendTelegram .tanks (tanksPayload s) (tanksRestarted s) := if_pos h

theorem tanksPayload_congr {s t : State} (hp : t.params = s.params) (hw : waterFixed t.water = waterFixed s.water)
    (ht : trackedWater t = trackedWater s) : tanksPayload t = tanksPayload s := by
  simp only [waterFixed, Prod.mk.injEq] at hw
  obtain ⟨⟨hfresh, hgrey, hblack, _⟩, _, ⟨htemp, hfaulted, _⟩, _⟩ := hw
  simp only [trackedWater, List.cons.injEq, and_true] at ht
  obtain ⟨_, _, _, hcodes⟩ := ht
  have hword : tankTempWord t = tankTempWord s := by
    unfold tankTempWord
    rw [hp, htemp, hfaulted]
  unfold tanksPayload
  rw [hcodes, hword, hp, hfresh, hgrey, hblack]

/-- A tracked state that has changed by the end of a command is reported (R108). -/
theorem told_tanksAfter {s u : State} (hconfigured : s.boot.station ≠ 0#4) (hhosts : hostsWater u.params = true)
    (hline : LineHanded s u) (hstation : u.boot.station = s.boot.station) (hclock : tanksClock u = tanksClock s) :
    tanksReport.Told s (tanksAfter s u) := by
  have hforms : formsTanks u = true := by
    rw [formsTanks, hhosts, hstation]
    exact bne_iff_ne.mpr hconfigured
  have hclock' := hclock
  simp only [tanksClock, Prod.mk.injEq] at hclock'
  obtain ⟨htimer, hdue⟩ := hclock'
  unfold tanksAfter
  rw [htimer]
  split
  · next hsame =>
    exact .inl ((tanksStill_iff s u).mpr ⟨hsame.resolve_right (by rw [hforms]; nofun), hclock⟩)
  · split
    · next hle =>
      have hpayload : tanksPayload (tanksRestarted u) = tanksPayload u := rfl
      have hrestarted : LineHanded s (tanksRestarted u) := hline.trans hstation (lineHanded_of_line rfl)
      have hboot : (tanksRestarted u).boot.station = s.boot.station := hstation
      have htimer : (tanksRestarted u).water.tanksTimer = 0 := rfl
      rw [queueTanks_of_forms hforms, ← hpayload]
      generalize tanksRestarted u = w at hrestarted hboot htimer ⊢
      have hwater := sendTelegram_water .tanks (tanksPayload w) w
      have hamong := handedAmong_of_sent .tanks (tanksPayload w) hconfigured hboot hrestarted (.refl _)
      have hsent : tanksPayload (sendTelegram .tanks (tanksPayload w) w) = tanksPayload w := by
        have hp := sendTelegram_params .tanks (tanksPayload w) w
        have hb := sendTelegram_boot .tanks (tanksPayload w) w
        exact tanksPayload_congr hp (by rw [hwater]) (trackedWater_congr hp hwater (by rw [hb]))
      generalize sendTelegram .tanks (tanksPayload w) w = v at hwater hamong hsent ⊢
      rw [← hwater] at htimer
      exact .inr (.inr ⟨hle, htimer, tanksPayload w, hamong, fun _ => hsent.symm⟩)
    · next hlt => exact .inr (.inl ⟨Nat.not_le.mp hlt, htimer, rfl⟩)

/-! ## The MOTION's report -/

/-- From one state to the other a change of a hosted actuator has been reported by a MOTION, which shows the actuators
of the state reached (R139). -/
def MotionTold (s t : State) : Prop :=
  (∀ a : Actuator, (s.params.actuator a).hosted = true → trackedAct t a = trackedAct s a)
  ∨ t.motion.motionTimer = 0 ∧ ∃ drawn : Nat,
      HandedAmong s.boot.station s.line t.line .motion (motionPayload { t with freeCount := drawn })

/-- The fields of an actuator that a MOTION shows (R140). -/
def shownAct (s : State) (a : Actuator) : (ActState × FaultSet × Bool) × Nat := (trackedAct s a, (act s.motion a).position)

theorem actBytes_congr {s t : State} {a : Actuator} (hp : t.params = s.params)
    (ha : (s.params.actuator a).hosted = true → shownAct t a = shownAct s a) (drawn k : Nat) :
    actBytes { t with freeCount := drawn } a k = actBytes { s with freeCount := drawn } a k := by
  unfold actBytes
  simp only
  rw [hp]
  split
  · next hhosted =>
    have hshown := ha hhosted
    simp only [shownAct, trackedAct, Prod.mk.injEq] at hshown
    obtain ⟨⟨hstate, hfaults, hhold⟩, hposition⟩ := hshown
    unfold faultByte
    rw [hstate, hfaults, hhold, hposition]
  · rfl

theorem motionPayload_congr {s t : State} (hp : t.params = s.params) (hwind : t.motion.wind = s.motion.wind)
    (ha : ∀ a : Actuator, (s.params.actuator a).hosted = true → shownAct t a = shownAct s a) (drawn : Nat) :
    motionPayload { t with freeCount := drawn } = motionPayload { s with freeCount := drawn } := by
  unfold motionPayload
  rw [actBytes_congr hp (ha .awning), actBytes_congr hp (ha .step)]
  simp only
  rw [hp, hwind]

theorem motionPayload_of_motion {s t : State} (hp : t.params = s.params)
    (hm : t.motion = { s.motion with motionTimer := t.motion.motionTimer }) (drawn : Nat) :
    motionPayload { t with freeCount := drawn } = motionPayload { s with freeCount := drawn } := by
  refine motionPayload_congr hp (by rw [hm]) (fun a _ => ?_) drawn
  unfold shownAct trackedAct
  rw [hm]
  cases a <;> rfl

/-- The state with the MOTION timer restarted. -/
def motionRestarted (s : State) : State := s.setMotion { s.motion with motionTimer := 0 }

/-- A MOTION queued shows the actuators as they are. -/
theorem told_queueMotion {s u : State} (hconfigured : s.boot.station ≠ 0#4) (hline : LineHanded s u)
    (hstation : u.boot.station = s.boot.station) (hforms : formsMotion u = true) : (queueMotion u).motion.motionTimer = 0
      ∧ HandedAmong s.boot.station s.line (queueMotion u).line .motion
        (motionPayload { queueMotion u with freeCount := u.freeCount }) := by
  have hrestarted : LineHanded s (motionRestarted u) := hline.trans hstation (lineHanded_of_line rfl)
  have hboot : (motionRestarted u).boot.station = s.boot.station := hstation
  have hqueue : queueMotion u = drawFree 2 (sendTelegram .motion (motionPayload u) (motionRestarted u)) := if_pos hforms
  have hmotion := queueMotion_motion u
  have hparams : (queueMotion u).params = u.params := (acts_queueMotion u).params
  have hpayload := motionPayload_of_motion hparams hmotion u.freeCount
  have htimer : (sendTelegram .motion (motionPayload u) (motionRestarted u)).motion.motionTimer = 0 := by
    rw [sendTelegram_eq]
    rfl
  have hamong := handedAmong_of_sent .motion (motionPayload u) hconfigured hboot hrestarted (.refl _)
  rw [hpayload, hqueue]
  exact ⟨htimer, hamong⟩

theorem mem_hosted_any {s t : State} {p : Params} : ((hostedActs p).any fun a => trackedAct s a != trackedAct t a) = true
    ↔ ∃ a : Actuator, (p.actuator a).hosted = true ∧ trackedAct t a ≠ trackedAct s a := by
  rw [List.any_eq_true]
  refine exists_congr fun a => ?_
  rw [mem_hostedActs, bne_iff_ne, ne_comm]

theorem formsMotion_of_act {s : State} {a : Actuator} (hstation : s.boot.station ≠ 0#4)
    (h : (s.params.actuator a).hosted = true) : formsMotion s = true :=
  formsMotion_of_hosted hstation (by cases a with
    | awning => exact .inl h
    | step => exact .inr (.inl h))

/-- A command ends with every change of its actuators reported, and without a change it leaves the MOTION timer (R139). -/
theorem told_publish_motion {s u : State} (hconfigured : s.boot.station ≠ 0#4) (hline : LineHanded s u)
    (hstation : u.boot.station = s.boot.station) (hparams : u.params = s.params) :
    ((∀ a : Actuator, (s.params.actuator a).hosted = true → trackedAct (publish s u) a = trackedAct s a)
      ∧ (publish s u).motion = u.motion)
    ∨ (publish s u).motion.motionTimer = 0 ∧ ∃ drawn : Nat,
      HandedAmong s.boot.station s.line (publish s u).line .motion (motionPayload { publish s u with freeCount := drawn }) := by
  have hlights := acts_stepOutAfter s u
  have hmotion := stepOutAfter_motion s u
  have hpublish : publish s u = tanksAfter s (motionAfter s (stepOutAfter s u)) := rfl
  have hlights' := hline.trans hstation (hlights.lineHanded (by decide))
  have hstation' := hlights.station.trans hstation
  have hparams' := hlights.params.trans hparams
  rw [hpublish]
  generalize stepOutAfter s u = v at hmotion hlights' hstation' hparams' ⊢
  have htanks := acts_tanksAfter s (motionAfter s v)
  have hkeeps : (tanksAfter s (motionAfter s v)).motion = (motionAfter s v).motion := htanks.motion (by decide) (by decide)
  by_cases hany : ∃ a : Actuator, (v.params.actuator a).hosted = true ∧ trackedAct v a ≠ trackedAct s a
  · have hafter : motionAfter s v = queueMotion v := if_pos (mem_hosted_any.mpr hany)
    obtain ⟨a, ha, _⟩ := hany
    obtain ⟨htimer, hamong⟩ := told_queueMotion hconfigured hlights' hstation'
      (formsMotion_of_act (by rw [hstation']; exact hconfigured) ha)
    have hboot : (motionAfter s v).boot.station = s.boot.station := by
      rw [hafter]
      exact (acts_queueMotion v).station.trans hstation'
    have hend := (htanks.lineHanded (by decide)).1
    rw [hboot] at hend
    rw [← hafter] at htimer hamong
    refine .inr ⟨(congrArg Motion.motionTimer hkeeps).trans htimer, v.freeCount, ?_⟩
    rw [motionPayload_of_motion htanks.params (by rw [hkeeps])]
    exact hamong.after hend
  · have hafter : motionAfter s v = v := if_neg fun h => hany (mem_hosted_any.mp h)
    rw [hafter] at hkeeps ⊢
    refine .inl ⟨fun a ha => ?_, hkeeps.trans hmotion⟩
    rw [trackedAct_congr hkeeps]
    by_contra hne
    exact hany ⟨a, by rw [hparams']; exact ha, hne⟩

end Sys2Proof.Machine

/-! Changes are reported by every command (R49, R66, R108, R139). -/

namespace Sys2Proof.Machine

-- As in the tests, so that no command needs threads of its own.
set_option Elab.async false

/-! ## What an operation leaves to be reported -/

/-- An operation whose changes are reported by its own events and by the end of its command. -/
def Clean (s u : State) : Prop :=
  ∃ M : List Effect, Acts M s u ∧ .claims ∉ M ∧ .clearsCounters ∉ M ∧ tanksClock u = tanksClock s

/-- An operation that leaves everything that a status telegram reports. -/
structure Untracked (s u : State) : Prop where
  own : u.budget.own = s.budget.own
  water : trackedWater u = trackedWater s
  acts : ∀ a, trackedAct u a = trackedAct s a
  published : publish s u = u

theorem untracked_queueClaim (s : State) : Untracked s (queueClaim s) := by
  have hacts : Acts [.claims] s (queueClaim s) := LoadEvent.acts (.claim s)
  have hmotion := hacts.motion (by decide) (by decide)
  obtain ⟨_, _, hown, _⟩ := sameTable_queueClaim s
  have hwater : trackedWater (queueClaim s) = trackedWater s := by
    refine trackedWater_congr hacts.params ?_ (congrArg Boot.storage (boot_of_acts hacts (by decide)))
    unfold queueClaim
    split
    · rfl
    · rw [sendTelegram_water]
      rfl
  exact ⟨hown, hwater, trackedAct_congr hmotion,
    publish_of_untracked (ownStepOut_congr hacts.params hmotion) (trackedAct_congr hmotion) hwater⟩

theorem trackedWater_queueTanks (s : State) : trackedWater (queueTanks s) = trackedWater s := by
  have hsent (x : State) (p : List Byte) : trackedWater (sendTelegram .tanks p x) = trackedWater x :=
    trackedWater_congr (sendTelegram_params _ _ x) (sendTelegram_water _ _ x) (by rw [sendTelegram_boot])
  unfold queueTanks
  split
  · exact hsent _ _
  · rfl

theorem untracked_queueTanks (s : State) : Untracked s (queueTanks s) := by
  have hacts := acts_queueTanks s
  have hmotion := hacts.motion (by decide) (by decide)
  have hbudget : (queueTanks s).budget = s.budget := by
    unfold queueTanks
    split
    · rw [sendTelegram_budget]
      rfl
    · rfl
  have hwater := trackedWater_queueTanks s
  exact ⟨by rw [hbudget], hwater, trackedAct_congr hmotion,
    publish_of_untracked (ownStepOut_congr hacts.params hmotion) (trackedAct_congr hmotion) hwater⟩

theorem untracked_decideDiagQuery (page : Byte) (s : State) : Untracked s (decideDiagQuery page s).1 := by
  unfold decideDiagQuery
  split
  · exact ⟨rfl, rfl, fun _ => rfl, publish_self s⟩
  · have hclear : (clearPage page.toNat s).budget.own = s.budget.own ∧ trackedWater (clearPage page.toNat s) = trackedWater s
        ∧ ∀ a, trackedAct (clearPage page.toNat s) a = trackedAct s a := by
      unfold clearPage
      split
      · exact ⟨rfl, rfl, fun _ => rfl⟩
      · split
        · exact ⟨rfl, rfl, fun _ => rfl⟩
        · exact ⟨rfl, rfl, fun a => by cases a <;> rfl⟩
    obtain ⟨hown, hwater, hacts⟩ := hclear
    exact ⟨hown, hwater, hacts, publish_clearPage _ s⟩

theorem Acts.clean {L : List Effect} {s u : State} (h : Acts L s u) (hL : .claims ∉ L ∧ .clearsCounters ∉ L := by decide)
    (hclock : Machine.tanksClock u = Machine.tanksClock s) : Clean s u := ⟨L, h, hL.1, hL.2, hclock⟩

/-- Every operation is reported by its own events and the end of its command, or leaves nothing to report. -/
theorem Did.clean {L : List Effect} {s u : State} (h : Did s L u) : Clean s u ∨ Untracked s u := by
  have hacts := h.acts
  cases h with
  | decided hd =>
    cases hd with
    | zoneSet => exact .inl ((acts_decideZoneSet _ _ _ s).clean (hclock := (acts_decideZoneSet _ _ _ s).tanksClock))
    | lightSet => exact .inl ((acts_decideLightSet _ _ _ s).clean (hclock := (acts_decideLightSet _ _ _ s).tanksClock))
    | move => exact .inl ((acts_decideMove _ _ s).clean (hclock := (acts_decideMove _ _ s).tanksClock))
    | halt => exact .inl ((acts_decideHalt _ s).clean (hclock := (acts_decideHalt _ s).tanksClock))
    | holdSet => exact .inl ((acts_decideHoldSet _ _ s).clean (hclock := (acts_decideHoldSet _ _ s).tanksClock))
    | faultClear => exact .inl ((acts_decideFaultClear _ s).clean (hclock := (acts_decideFaultClear _ s).tanksClock))
    | pumpSet value => exact .inl ((acts_decidePumpSet value s).clean (hclock := tanksClock_decidePumpSet value s))
    | valveClose => exact .inl ((acts_decideValveClose s).clean (hclock := tanksClock_decideValveClose s))
    | eventsClear => exact .inl ((acts_decideEventsClear _ s).clean (hclock := (acts_decideEventsClear _ s).tanksClock))
    | storageSet value =>
      exact .inl ((acts_decideStorageSet value s).clean (hclock := (acts_decideStorageSet value s).tanksClock))
    | diagQuery page => exact .inr (untracked_decideDiagQuery page s)
  | queuesClaim => exact .inr (untracked_queueClaim s)
  | queuesTanks => exact .inr (untracked_queueTanks s)
  | readsTanks fresh grey black temp => exact .inl (hacts.clean (hclock := tanksClock_tankPeriodOf fresh grey black temp s))
  | pressure closing => exact .inl (hacts.clean (hclock := tanksClock_pressureEdge closing s))
  | runsDry => exact .inl (hacts.clean (hclock := tanksClock_pumpRunsDry s))
  | opensValve => exact .inl (hacts.clean (hclock := tanksClock_openValve s))
  | expires n => exact .inl (hacts.clean (hclock := (viewKept_tanksClock _).expirePeer rfl n))
  | hears n k payload => exact .inl (hacts.clean (hclock := (viewKept_tanksClock _).peerArrival rfl n k payload))
  | _ => exact .inl (hacts.clean (hclock := hacts.tanksClock))

/-! ## One round -/

/-- From one state to the other all changes have been reported. -/
structure RoundTold (s t : State) : Prop where
  line : LineHanded s t
  station : t.boot.station = s.boot.station
  params : t.params = s.params
  motion : MotionTold s t
  tanks : hostsWater s.params = true → tanksReport.Told s t
  claim : claimReport.Told s t

theorem acts_beforeTanks (before s : State) :
    Acts (lightEffects ++ motionTelegramEffects) s (motionAfter before (stepOutAfter before s)) :=
  (acts_stepOutAfter before s).append (acts_motionAfter before _)

/-- A clean operation, published, has reported its changes. -/
theorem Clean.told {s u : State} (h : Clean s u) (hconfigured : s.boot.station ≠ 0#4) : RoundTold s (publish s u) := by
  obtain ⟨M, hacts, hclaims, hclears, hclock⟩ := h
  have hpublish := acts_publish s u
  have hline := hacts.lineHanded hclears
  have hconfigured' : u.boot.station ≠ 0#4 := by rw [hacts.station]; exact hconfigured
  have hclaim := claimTold_trans (hacts.claimTold hclaims hclears hconfigured) hacts.station hline
    (hpublish.lineHanded (by decide)) (hpublish.claimTold (by decide) (by decide) hconfigured')
  refine ⟨hline.trans hacts.station (hpublish.lineHanded (by decide)), hpublish.station.trans hacts.station,
    hpublish.params.trans hacts.params, ?_, fun hhosts => ?_, hclaim⟩
  · exact (told_publish_motion hconfigured hline hacts.station hacts.params).imp_left And.left
  · have hbefore := acts_beforeTanks s u
    have heq : publish s u = tanksAfter s (motionAfter s (stepOutAfter s u)) := rfl
    rw [heq]
    generalize motionAfter s (stepOutAfter s u) = v at hbefore
    exact told_tanksAfter hconfigured (by rw [hbefore.params, hacts.params]; exact hhosts)
      (hline.trans hacts.station (hbefore.lineHanded (by decide))) (hbefore.station.trans hacts.station)
      (hbefore.tanksClock.trans hclock)

/-! ## A second round: a SCENE or a STOW behind its frame's entry -/

theorem waterFixed_tanksAfter (before s : State) : waterFixed (tanksAfter before s).water = waterFixed s.water := by
  unfold tanksAfter
  split
  · rfl
  · split
    · unfold queueTanks
      split
      · rw [sendTelegram_water]
        rfl
      · rfl
    · rfl

theorem waterFixed_publish (before s : State) : waterFixed (publish before s).water = waterFixed s.water := by
  have hbefore : waterSame s (motionAfter before (stepOutAfter before s)) := (acts_beforeTanks before s).waterSame (by decide)
  have hpublish : publish before s = tanksAfter before (motionAfter before (stepOutAfter before s)) := rfl
  rw [hpublish, waterFixed_tanksAfter]
  exact hbefore

/-- A MOTION that showed the actuators before shows them after, while no actuator is moved in what a MOTION tracks. -/
def KeepsShown (s u : State) : Prop :=
  (∀ a : Actuator, (s.params.actuator a).hosted = true → trackedAct u a = trackedAct s a) →
    u.motion.motionTimer = s.motion.motionTimer ∧ u.motion.wind = s.motion.wind
    ∧ ∀ a : Actuator, (s.params.actuator a).hosted = true → shownAct u a = shownAct s a

theorem RoundTold.second {s m u : State} (h : RoundTold s m) (hconfigured : s.boot.station ≠ 0#4) (hclean : Clean m u)
    (hwater : waterSame m u) (hshown : KeepsShown m u) : RoundTold s (publish m u) := by
  have hconfigured' : m.boot.station ≠ 0#4 := by rw [h.station]; exact hconfigured
  have hround := hclean.told hconfigured'
  obtain ⟨M, hacts, _, hclears, _⟩ := hclean
  have hfixed := (waterFixed_publish m u).trans hwater
  have hhanded := hround.line.1
  rw [h.station] at hhanded
  have hact (a : Actuator) : act (publish m u).motion a = act u.motion a := publish_act m u a
  have htracked (a : Actuator) : trackedAct (publish m u) a = trackedAct u a := by
    unfold trackedAct
    rw [hact]
  refine ⟨h.line.trans h.station hround.line, hround.station.trans h.station, hround.params.trans h.params, ?_,
    fun hhosts => ?_, claimTold_trans h.claim h.station h.line hround.line hround.claim⟩
  · rcases told_publish_motion hconfigured' (hacts.lineHanded hclears) hacts.station hacts.params with
      ⟨hsame, hmotion⟩ | ⟨htimer, drawn, hamong⟩
    · obtain ⟨htimer, hwind, hacts'⟩ := hshown fun a ha => (htracked a).symm.trans (hsame a ha)
      rcases h.motion with hstill | ⟨htold, drawn, hamong⟩
      · exact .inl fun a ha => (hsame a (by rw [h.params]; exact ha)).trans (hstill a ha)
      · refine .inr ⟨(congrArg Motion.motionTimer hmotion).trans (htimer.trans htold), drawn, ?_⟩
        have hpayload := motionPayload_congr hround.params (by rw [hmotion, hwind]) (fun a ha => by
          have hshow := hacts' a ha
          unfold shownAct at hshow ⊢
          rw [htracked, hact]
          exact hshow) drawn
        rw [hpayload]
        exact hamong.after hhanded
    · rw [h.station] at hamong
      exact .inr ⟨htimer, drawn, hamong.before h.line.1⟩
  · refine (h.tanks hhosts).trans h.station h.line hround.line (fun a b => Eq.trans b a) (fun p hsame hp => ?_)
      (hround.tanks (by rw [h.params]; exact hhosts))
    exact Eq.trans hp (tanksPayload_congr hround.params hfixed hsame).symm

theorem keepsShown_of_motion {s u : State} (h : u.motion = s.motion) : KeepsShown s u := by
  intro _
  refine ⟨by rw [h], by rw [h], fun a _ => ?_⟩
  unfold shownAct
  rw [trackedAct_congr h, h]

theorem putAct_motionTimer (a : Actuator) (r : ActRec) (s : State) :
    (putAct a r s).motion.motionTimer = s.motion.motionTimer := by cases a <;> rfl

theorem motionTimer_autoRetract (a : Actuator) (c : Cause) (s : State) :
    (autoRetract a c s).motion.motionTimer = s.motion.motionTimer := by
  have hrecord (x : State) : (recordCause a c x).motion.motionTimer = x.motion.motionTimer := putAct_motionTimer a _ x
  have hout (h : standsOut (act s.motion a).state) : (autoRetract a c s).motion.motionTimer = s.motion.motionTimer := by
    cases hin : stopActive s a .inStop with
    | true => rw [autoRetract_of_out_active h hin, putAct_motionTimer]
    | false =>
      rw [autoRetract_of_out_clear h hin, hrecord, startInward_of_clear hin, startDrive, putAct_motionTimer,
        askRetraction_motion]
  cases hst : (act s.motion a).state with
  | stowed => rw [autoRetract_of_stowed hst]
  | extended => exact hout (.inl hst)
  | stoppedMid => exact hout (.inr hst)
  | extending =>
    rw [autoRetract_of_extending hst, hrecord]
    unfold reverseInward
    simp only
    rw [putAct_motionTimer, askRetraction_motion, release_motion]
  | retracting => rw [autoRetract_of_retracting hst, putAct_motionTimer]
  | fault => rw [autoRetract_of_fault hst, raiseEvent_motion]

theorem motionTimer_stowOne (o : Bool) (s : State) (a : Actuator) :
    (stowOne o s a).motion.motionTimer = s.motion.motionTimer := by
  unfold stowOne
  simp only
  split
  · rfl
  · split
    · rw [putAct_motionTimer, motionTimer_autoRetract]
    · exact motionTimer_autoRetract a .stow s

/-- An auto-retraction that leaves the state of an actuator leaves its position. -/
theorem autoRetract_position {a : Actuator} {c : Cause} {s : State}
    (h : (act (autoRetract a c s).motion a).state = (act s.motion a).state) :
    (act (autoRetract a c s).motion a).position = (act s.motion a).position := by
  have hmoves (hst : (act s.motion a).state ∈ [ActState.extending, .extended, .stoppedMid]) : False := by
    obtain ⟨_, ⟨hnew, _, _⟩ | ⟨hnew, _⟩⟩ := autoRetract_of_moving_out c hst
    · rw [← h, hnew] at hst
      revert hst
      decide
    · rw [← h, hnew] at hst
      revert hst
      decide
  cases hst : (act s.motion a).state with
  | stowed => rw [autoRetract_of_stowed hst]
  | fault => rw [autoRetract_of_fault hst, raiseEvent_motion]
  | retracting => rw [autoRetract_of_retracting hst, act_putAct_self]
  | extending | extended | stoppedMid => exact absurd (by rw [hst]; decide) hmoves

theorem afterOverride_state_position (st : ActState) (r : ActRec) :
    (afterOverride st r).state = r.state ∧ (afterOverride st r).position = r.position := by
  unfold afterOverride
  split
  · exact ⟨rfl, rfl⟩
  · split <;> exact ⟨rfl, rfl⟩

/-- A STOW that leaves what a MOTION tracks of an actuator leaves what it shows. -/
theorem shownAct_stowOne {o : Bool} {s : State} {a : Actuator} (h : trackedAct (stowOne o s a) a = trackedAct s a) :
    shownAct (stowOne o s a) a = shownAct s a := by
  refine Prod.ext h ?_
  by_cases htaken : (act s.motion a).hold = false ∨ o = true
  · have hact := act_stowOne htaken
    have hkeeps : (act (stowOne o s a).motion a).state = (act (autoRetract a .stow s).motion a).state
        ∧ (act (stowOne o s a).motion a).position = (act (autoRetract a .stow s).motion a).position := by
      rw [hact]
      split
      · exact afterOverride_state_position _ _
      · exact ⟨rfl, rfl⟩
    exact hkeeps.2.trans (autoRetract_position (hkeeps.1.symm.trans (congrArg Prod.fst h)))
  · obtain ⟨hhold, ho⟩ := not_or.mp htaken
    rw [stowOne_of_held (Bool.not_eq_false _ ▸ hhold) (Bool.not_eq_true _ ▸ ho)]

theorem shownAct_congr {s t : State} {a : Actuator} (h : act t.motion a = act s.motion a) : shownAct t a = shownAct s a := by
  unfold shownAct trackedAct
  rw [h]

theorem keepsShown_takeStow (o : Bool) (s : State) : KeepsShown s (takeStow o s) := by
  intro htracked
  refine ⟨?_, (takeStow_wind o s).1, fun a ha => ?_⟩
  · unfold takeStow
    generalize hostedActs s.params = l
    exact foldl_keeps (fun x => x.motion.motionTimer) (stowOne o) (motionTimer_stowOne o) l s
  · obtain ⟨x, hbefore, hafter⟩ := (foldl_hosted (faultKept_stowOne o) s a).2 ha
    have hlast : shownAct (takeStow o s) a = shownAct (stowOne o x a) a := shownAct_congr hafter.act
    have hfirst : shownAct x a = shownAct s a := shownAct_congr hbefore.act
    have hsame : trackedAct (stowOne o x a) a = trackedAct x a :=
      ((congrArg Prod.fst hlast).symm.trans (htracked a ha)).trans (congrArg Prod.fst hfirst).symm
    exact hlast.trans ((shownAct_stowOne hsame).trans hfirst)

/-! ## A command -/

/-- What is asked of a command that starts at this line: each change has been reported (R49, R66, R108, R139). -/
def ChangesTold (l : Line) (s t : State) : Prop :=
  ((∃ a : Actuator, (s.params.actuator a).hosted = true ∧ trackedAct t a ≠ trackedAct s a) →
    t.motion.motionTimer = 0 ∧ ∃ drawn : Nat,
      HandedAmong s.boot.station l t.line .motion (motionPayload { t with freeCount := drawn }))
  ∧ (hostsWater s.params = true → trackedWater t ≠ trackedWater s →
      (s.water.tanksTimer < 200 → t.water.tanksDue = true)
      ∧ (200 ≤ s.water.tanksTimer → t.water.tanksTimer = 0 ∧ ∃ payload : List Byte,
          HandedAmong s.boot.station l t.line .tanks payload ∧ (t.water.tanksDue = false → payload = tanksPayload t)))
  ∧ (t.budget.own ≠ s.budget.own →
      (s.budget.claimTimer < 200 → t.budget.claimDue = true)
      ∧ (200 ≤ s.budget.claimTimer → t.budget.claimTimer = 0 ∧ ∃ (own : PerClass Nat) (pending : Word),
          HandedAmong s.boot.station l t.line .claim (claimBytes (own, pending))
          ∧ (t.budget.claimDue = false → own = t.budget.own)))

/-- What a report gives where what it reports has changed. -/
theorem Report.Told.changed {r : Report} {s t : State} (h : r.Told s t) (hne : ¬ r.same s t) :
    (r.timer s < 200 → r.due t = true)
    ∧ (200 ≤ r.timer s → r.timer t = 0 ∧ ∃ x : r.Contents,
        HandedAmong s.boot.station s.line t.line r.kind (r.payload x) ∧ (r.due t = false → r.tells t x)) := by
  rcases h with ⟨hsame, _⟩ | ⟨hlt, _, hdue⟩ | ⟨hle, htimer, hx⟩
  · exact absurd hsame hne
  · exact ⟨fun _ => hdue, fun hle => absurd hle (Nat.not_le.mpr hlt)⟩
  · exact ⟨fun hlt => absurd hle (Nat.not_le.mpr hlt), fun _ => ⟨htimer, hx⟩⟩

theorem RoundTold.changesTold {s t : State} (h : RoundTold s t) : ChangesTold s.line s t := by
  refine ⟨fun ⟨a, ha, hne⟩ => h.motion.resolve_left fun hsame => hne (hsame a ha),
    fun hhosts hne => (h.tanks hhosts).changed hne, fun hne => ?_⟩
  obtain ⟨hdue, hhanded⟩ := h.claim.changed hne
  refine ⟨hdue, fun hle => ?_⟩
  obtain ⟨htimer, ⟨own, pending⟩, hx, htells⟩ := hhanded hle
  exact ⟨htimer, own, pending, hx, htells⟩

/-- Where nothing that a status telegram reports has changed there is nothing to report. -/
theorem changesTold_of_same {s t : State} (hacts : ∀ a, trackedAct t a = trackedAct s a)
    (hwater : trackedWater t = trackedWater s) (hown : t.budget.own = s.budget.own) (l : Line) : ChangesTold l s t :=
  ⟨fun ⟨a, _, hne⟩ => absurd (hacts a) hne, fun _ hne => absurd hwater hne, fun hne => absurd hown hne⟩

theorem Untracked.changesTold {s u : State} (h : Untracked s u) (l : Line) : ChangesTold l s u :=
  changesTold_of_same h.acts h.water h.own l

/-- A REPLY leaves what has been reported. -/
theorem ChangesTold.reply {l : Line} {s t : State} (h : ChangesTold l s t) (hstation : t.boot.station = s.boot.station)
    (payload : List Byte) : ChangesTold l s (sendTelegram .reply payload t) := by
  have hline := (lineHanded_sendTelegram .reply payload t).1
  rw [hstation] at hline
  obtain ⟨m, hm⟩ : ∃ m, sendTelegram .reply payload t = t.setLine m := ⟨_, sendTelegram_eq _ _ _⟩
  rw [hm] at hline ⊢
  obtain ⟨hmotion, htanks, hclaim⟩ := h
  refine ⟨fun hne => ?_, fun hhosts hne => ?_, fun hne => ?_⟩
  · obtain ⟨htimer, drawn, hx⟩ := hmotion hne
    exact ⟨htimer, drawn, hx.after hline⟩
  · obtain ⟨hdue, hhanded⟩ := htanks hhosts hne
    refine ⟨hdue, fun hle => ?_⟩
    obtain ⟨htimer, p, hx, htells⟩ := hhanded hle
    exact ⟨htimer, p, hx.after hline, htells⟩
  · obtain ⟨hdue, hhanded⟩ := hclaim hne
    refine ⟨hdue, fun hle => ?_⟩
    obtain ⟨htimer, own, pending, hx, htells⟩ := hhanded hle
    exact ⟨htimer, own, pending, hx.after hline, htells⟩

theorem Did.changesTold {L : List Effect} {s u : State} (h : Did s L u) (hconfigured : s.boot.station ≠ 0#4) :
    ChangesTold s.line s (publish s u) := by
  rcases h.clean with hclean | huntracked
  · exact (hclean.told hconfigured).changesTold
  · rw [huntracked.published]
    exact huntracked.changesTold s.line

theorem Round.changesTold {s t : State} (h : Round s t) (hconfigured : s.boot.station ≠ 0#4) : ChangesTold s.line s t := by
  cases h with
  | idle => exact changesTold_of_same (fun _ => rfl) rfl rfl s.line
  | did _ hd => exact hd.changesTold hconfigured
  | answered payload _ hd =>
    exact (hd.changesTold hconfigured).reply ((acts_publish s _).station.trans hd.acts.station) payload
  | replied payload _ => exact (changesTold_of_same (fun _ => rfl) rfl rfl s.line).reply rfl payload

/-- A valid frame but a REQUEST reports its changes over its two rounds (R170). -/
theorem changesTold_handTelegram {h : Word} {s : State} (hconfigured : s.boot.station ≠ 0#4)
    (hkind : kindOfCode (headerKind h) ≠ some .request) (payload : List Byte) :
    ChangesTold s.line s (handTelegram h payload s) := by
  have hheard : RoundTold s (publish s (peerArrival (headerOrigin h) (kindOfCode (headerKind h)) payload s)) := by
    refine Clean.told ?_ hconfigured
    exact (acts_peerArrival _ _ payload s).clean (hclock := (viewKept_tanksClock _).peerArrival rfl _ _ payload)
  unfold handTelegram
  simp only
  generalize publish s (peerArrival (headerOrigin h) (kindOfCode (headerKind h)) payload s) = m at hheard
  split
  · next hrequest => exact absurd hrequest hkind
  · have hacts := acts_recallScene (byteAt payload 0) m
    exact (hheard.second hconfigured (hacts.clean (hclock := hacts.tanksClock)) (hacts.waterSame (by decide))
      (keepsShown_of_motion (hacts.motion (by decide) (by decide)))).changesTold
  · have hacts := acts_takeStow ((byteAt payload 0).getLsbD 0) m
    exact (hheard.second hconfigured (hacts.clean (hclock := hacts.tanksClock)) (hacts.waterSame (by decide))
      (keepsShown_takeStow _ m)).changesTold
  · exact hheard.changesTold

theorem changesTold_setLine (l m : Line) (s : State) : ChangesTold l s (s.setLine m) :=
  changesTold_of_same (s := s) (t := s.setLine m) (fun _ => rfl) rfl rfl l

theorem changesTold_clash (l m : Line) (s : State) : ChangesTold l s (raiseEvent .clash (s.setLine m)) := by
  have hparams := raiseEvent_params .clash (s.setLine m)
  have hboot : (raiseEvent .clash (s.setLine m)).boot = s.boot := 
    raiseEvent_blockSame .clash (s.setLine m) (b := .boot) (by decide)
  refine changesTold_of_same (fun a => ?_) ?_ ?_ l
  · exact trackedAct_congr (s := s) (raiseEvent_motion .clash (s.setLine m)) a
  · exact trackedWater_congr (s := s) hparams (raiseEvent_water .clash (s.setLine m)) (by rw [hboot])
  · exact congrArg Budget.own (raiseEvent_budget .clash (s.setLine m))

theorem lineAtHandover_of_isChain {c : Instr} (h : isChain c = true) (s : State) : lineAtHandover c s = s.line := by
  cases c with
  | frameReceived => cases h
  | _ => rfl

/-- A received frame, but a REQUEST's, reports its changes. -/
theorem changesTold_frameReceived {h : Word} {payload : List Byte} {check : Byte} {s t : State}
    (hconfigured : s.boot.station ≠ 0#4) (hkind : kindOfCode (headerKind h) ≠ some .request)
    (he : exec (.frameReceived h payload check) s = .next t) : ChangesTold (frameEnded s).line s t := by
  have heq {u : State} (hu : exec (.frameReceived h payload check) s = .next u) : t = u :=
    Host.Outcome.next.inj (he.symm.trans hu)
  rcases exec_frameReceived_cases h payload check s with hr | ⟨_, l, _, _, _, hr | hr⟩ | ⟨_, _, hr⟩
  · rw [heq hr]
    exact changesTold_of_same (fun _ => rfl) rfl rfl _
  · rw [heq hr]
    exact changesTold_setLine _ l s
  · rw [heq hr]
    exact changesTold_clash _ l s
  · rw [heq hr]
    exact changesTold_handTelegram (s := frameEnded s) hconfigured hkind payload

/-- Settles O55: a chain of acts is one round, a line event changes nothing reported, a frame is two rounds, and the
resets and the record's reads do not lead from a running station to a running one. -/
theorem changesAreReported : Obligations.ChangesAreReported := by
  intro c s t hrun hrun' hconfigured he hframe
  have heq {u : State} (hu : exec c s = .next u) : t = u := Host.Outcome.next.inj (he.symm.trans hu)
  suffices h : ChangesTold (lineAtHandover c s) s t from h
  by_cases hc : isChain c = true
  · obtain ⟨u, hu, hround⟩ := exec_round c s hc
    rw [lineAtHandover_of_isChain hc, heq hu]
    exact hround.changesTold hconfigured
  · have hread (hread : (∃ r inputs, c = .recordReadComplete r inputs) ∨ ∃ r inputs, c = .recordReadRetry r inputs) :
        ChangesTold (lineAtHandover c s) s t := by
      rcases exec_recordRead_cases s hread with hr | ⟨hstopped, _⟩ | ⟨hstopped, _⟩
      · rw [heq hr]
        exact changesTold_of_same (fun _ => rfl) rfl rfl _
      · exact absurd (hrun.symm.trans hstopped) nofun
      · exact absurd (hrun.symm.trans hstopped) nofun
    have hline (hline : isLineEvent c = true) : ChangesTold (lineAtHandover c s) s t := by
      obtain ⟨l, hl, _⟩ := exec_lineEvent c s hline
      rw [heq hl]
      exact changesTold_setLine _ l s
    cases c with
    | powerOnReset straps =>
      rw [heq (u := keepModelFields s (State.afterReset straps false Bank.reset)) rfl] at hrun'
      cases hrun'
    | resetPinReset straps =>
      rw [heq (u := keepModelFields s (State.afterReset straps s.boot.storage (retainBank s.running s.bank))) rfl] at hrun'
      cases hrun'
    | recordReadComplete r inputs => exact hread (.inl ⟨r, inputs, rfl⟩)
    | recordReadRetry r inputs => exact hread (.inr ⟨r, inputs, rfl⟩)
    | frameReceived h payload check => exact changesTold_frameReceived hconfigured (hframe h payload check rfl) he
    | lineIdle | lineFallingEdge | contentionLoss | txCollision | frameSent | receiveError => exact hline rfl
    | _ => exact absurd rfl hc

end Sys2Proof.Machine
